-- ==== Sys2Proof/Word.lean ====
section
/-! DEFINITION. The byte of link frames and of the settings image. Every other quantity of the manual is a count, a
measured whole number or a name: those are Nat, Int or inductive types (section 5.1 of 00_scope.md: "integers in the units below"). -/

namespace Sys2Proof

/-- One byte of a link frame (R147) or of the settings image (R178). -/
abbrev Byte := BitVec 8

end Sys2Proof
end

