-- ==== Sys2Proof/Syntax.lean ====
section
/-! DEFINITION. The commands: one constructor of Instr per row of spec/opcode_table.json. The FB48 is a block: a
command is an event it takes (a frame that ended on the link, an expiry of one of its timers, a level or a sample on a
field line, a report of its own line driver). The table gives no row an operand; the operands below are what the rule
of the row says the event brings from outside (assumption log 4). -/

namespace Sys2Proof

/-- Weld kind of a WELD order (Table 9-2: 0 JOIN, 1 CLOSURE). -/
inductive WeldKind
  | join
  | closure
  deriving DecidableEq, Repr

/-- The fields of a BEACON body (Table 8-4). The state and phase codes are kept as received. -/
structure BeaconBody where
  stateCode : Nat
  phaseCode : Nat
  claimPresent : Bool
  drawing : Bool
  isolated : Bool
  aborting : Bool
  claimNumber : Nat
  demand : Nat
  clock : Nat
  digest : Nat
  weldCounter : Nat
  deriving DecidableEq, Repr

/-- One millisecond sample of PCU's lines (R31): platen position (0.1 mm), platen force (kN), clamp pressure (kN), and
whether the sense current across the rail ends exceeds its threshold (R44; read only while the contact sense is on). -/
structure FieldSample where
  position : Int
  force : Int
  pressure : Nat
  contact : Bool
  deriving DecidableEq, Repr

/-- One of the 32 samples CDR takes in a half-cycle (R51): secondary current (0.1 kA), secondary voltage (0.1 V), and
whether a pulse was conducting when it was taken (R63). HALF_CYCLE_END brings those that no BLANKING_END of its half-cycle has
brought (assumption log 4). -/
structure DriveSample where
  current : Int
  voltage : Int
  conducting : Bool
  deriving DecidableEq, Repr

/-- What CDR reads at BLANKING_END: the primary current at that instant, in A (R58), and the samples of the half-cycle taken
and not yet brought (R51). With no current it brings samples alone, and ends no blanking interval (assumption log 4). -/
structure DriveReading where
  current : Option Nat
  samples : List DriveSample
  deriving DecidableEq, Repr

/-- The commands (events) of the FB48, in the order of spec/opcode_table.json. -/
inductive Instr
  /-- POWER_ON (R177). -/
  | powerOn
  /-- HARD_RESET (R177): the reset line is asserted. -/
  | hardReset
  /-- RESET_END (R177): the supply is good or the reset line is released; the strap pins, the first field sample
  (R32, R42) and the first sample of the trimmer's return switch (R99). -/
  | resetEnd (straps : Nat) (first : FieldSample) (returnSwitch : Bool)
  /-- RESTART_RESET (R167, R177): the reset of RESTART, which ends at once; operands as RESET_END. -/
  | restartReset (straps : Nat) (first : FieldSample) (returnSwitch : Bool)
  /-- SETTINGS_READ_COMPLETE (R178): the bytes read, or none when the memory does not answer. -/
  | settingsReadComplete (image : Option (List Byte))
  /-- LOADING_TIME_LIMIT (R178). -/
  | loadingTimeLimit
  /-- LISTENING_WINDOW_END (R182). -/
  | listeningWindowEnd
  /-- RECOVERY_COOLING_EXPIRY (R10). -/
  | recoveryCoolingExpiry
  /-- IDLE_TIMER_EXPIRY (R11). -/
  | idleTimerExpiry
  /-- WAKE_TIME_END (R13): with the first sample of the return switch after the wake (R99). -/
  | wakeTimeEnd (returnSwitch : Bool)
  /-- TAKE_HEAD_ORDER (R2): with the rail temperature reading of CHECK, none when no reading is present (R25). -/
  | takeHeadOrder (railTemp : Option Int)
  /-- ORDER_CLAMP (R162): source node, tag, schedule. -/
  | orderClamp (src tag sched : Nat)
  /-- ORDER_WELD (R162): source node, tag, schedule, weld kind, neutral temperature. -/
  | orderWeld (src tag sched : Nat) (kind : WeldKind) (neutral : Int)
  /-- ORDER_UNCLAMP (R162). -/
  | orderUnclamp (src tag : Nat)
  /-- ABORT (R164): source node, the panel's reference, target. -/
  | abort (src tag target : Nat)
  /-- CLEAR (R110). -/
  | clear (src tag : Nat)
  /-- STATUS (R165): selector and part. -/
  | status (src tag selector part : Nat)
  /-- ADJUST (R20): trip, speed and force offset in signed percent. -/
  | adjust (src tag : Nat) (trip speed force : Int)
  /-- READ_RECORD (R175). -/
  | readRecord (src tag weldNo : Nat)
  /-- RELEASE_HOLD (R176). -/
  | releaseHold (src tag weldNo : Nat)
  /-- REST (R166). -/
  | rest (src tag : Nat)
  /-- RESTART (R167). -/
  | restart (src tag : Nat)
  /-- BAD_ORDER (R161): a malformed ORDER body, byte for byte. -/
  | badOrder (src : Nat) (body : List Byte)
  /-- ARRIVAL_LIST_HANDLING (R160). -/
  | arrivalListHandling
  /-- OUTGOING_FRAME_QUEUED (R156). -/
  | outgoingFrameQueued
  /-- RECORD_PART_QUEUED (R175). -/
  | recordPartQueued
  /-- BEACON_RECEIVED (R126): a BEACON that passed R149, with its source node. -/
  | beaconReceived (src : Nat) (body : BeaconBody)
  /-- CLAIM_RECEIVED (R136). -/
  | claimReceived (src number demand : Nat)
  /-- YIELD_RECEIVED (R137). -/
  | yieldReceived (src number : Nat)
  /-- FRAME_DISCARDED (R149): every byte received of a frame that ended on the line. -/
  | frameDiscarded (frame : List Byte)
  /-- LINE_ACTIVITY (R151): a start bit of another node. -/
  | lineActivity
  /-- MEDIUM_ACCESS_WAIT_END (R151). -/
  | mediumAccessWaitEnd
  /-- LINK_REST_CLEARED (R152). -/
  | linkRestCleared
  /-- FRAME_TRANSMITTED (R153). -/
  | frameTransmitted
  /-- COLLISION (R153). -/
  | collision
  /-- BEACON_TIMER_EXPIRY (R157). -/
  | beaconTimerExpiry
  /-- SETTLE_WINDOW_EXPIRY (R131). -/
  | settleWindowExpiry
  /-- CLAIM_WAIT_EXPIRY (R134). -/
  | claimWaitExpiry
  /-- LOSS_TIMER_EXPIRY (R127), of one peer. -/
  | lossTimerExpiry (peer : Nat)
  /-- DRAIN_EXPIRY (R140), of one station's STALE entry. -/
  | drainExpiry (station : Nat)
  /-- CLAMP_FORCE_REACHED (R33, R37). -/
  | clampForceReached
  /-- CLAMP_RELEASED (R34). -/
  | clampReleased
  /-- CLAMP_TIMER_EXPIRY (R33, R34, R37). -/
  | clampTimerExpiry
  /-- SLIP_DETECTED (R36). -/
  | slipDetected
  /-- SLIP_REARMED (R36). -/
  | slipRearmed
  /-- IMPLAUSIBLE_SAMPLE (R42). -/
  | implausibleSample
  /-- PLAUSIBILITY_REARM (R42). -/
  | plausibilityRearm
  /-- MOVEMENT_TARGET_REACHED (R40). -/
  | movementTargetReached
  /-- MOVEMENT_TIMER_EXPIRY (R40). -/
  | movementTimerExpiry
  /-- FORCE_REACHED (R41, R96). -/
  | forceReached
  /-- SHOE_MEASUREMENT_END (R43): the resistance measured, in micro-ohm. -/
  | shoeMeasurementEnd (microohm : Nat)
  /-- TOUCH_CONTACT (R44). -/
  | touchContact
  /-- TOUCH_RESERVE_REACHED (R44). -/
  | touchReserveReached
  /-- TOUCH_TIMER_EXPIRY (R44). -/
  | touchTimerExpiry
  /-- PULL_DRIFT (R49). -/
  | pullDrift
  /-- ADVANCE_CONTACT (R75, R79). -/
  | advanceContact
  /-- ADVANCE_TIMER_EXPIRY (R75, R79). -/
  | advanceTimerExpiry
  /-- CONTACT_INTERVAL_EXPIRY (R76). -/
  | contactIntervalExpiry
  /-- OPEN_INTERVAL_EXPIRY (R77). -/
  | openIntervalExpiry
  /-- BURN_OFF_REACHED (R81). -/
  | burnOffReached
  /-- BOOST_DISTANCE_REACHED (R88). -/
  | boostDistanceReached
  /-- STREAK_TIMER_EXPIRY (R83). -/
  | streakTimerExpiry
  /-- FLASH_LOST_EXPIRY (R85). -/
  | flashLostExpiry
  /-- FLASH_TIME_EXPIRY (R86). -/
  | flashTimeExpiry
  /-- UPSET_CURRENT_DISTANCE (R94). -/
  | upsetCurrentDistance
  /-- UPSET_TIME_EXPIRY (R97). -/
  | upsetTimeExpiry
  /-- PULL_SETTLE_POINT (R48, R98). -/
  | pullSettlePoint
  /-- HOLD_TIME_EXPIRY (R98). -/
  | holdTimeExpiry
  /-- TRIM_WINDOW_EXPIRY (R100). -/
  | trimWindowExpiry
  /-- END_SWITCH_MADE (R102). -/
  | endSwitchMade
  /-- DWELL_END (R102). -/
  | dwellEnd
  /-- RETURN_SWITCH_MADE (R99, R102). -/
  | returnSwitchMade
  /-- TRIM_STROKE_TIMER_EXPIRY (R102). -/
  | trimStrokeTimerExpiry
  /-- COOLING_TIME_EXPIRY (R105). -/
  | coolingTimeExpiry
  /-- RECORD_WRITE_COMPLETE (R173). -/
  | recordWriteComplete
  /-- CARRIER_CYCLE_END (R63): the boundary between two carrier cycles. -/
  | carrierCycleEnd
  /-- HALF_CYCLE_END (R57): with the rest of the half-cycle's samples (R51) and the integral of primary current magnitude
  over the half-cycle (R67). -/
  | halfCycleEnd (samples : List DriveSample) (integral : Nat)
  /-- PULSE_TRIP (R57). -/
  | pulseTrip
  /-- BLANKING_END (R58): with what CDR reads then. -/
  | blankingEnd (reading : DriveReading)
  /-- OFF_TIME_END (R57). -/
  | offTimeEnd
  /-- CONDUCTION_WINDOW_END (R67). -/
  | conductionWindowEnd
  /-- OVERCURRENT (R61). -/
  | overcurrent
  /-- E_STOP_ASSERTED (R108): with the first sample of the return switch, read when the stop powers the field side
  from DORMANT (R7, R99). -/
  | eStopAsserted (returnSwitch : Bool)
  /-- E_STOP_DEASSERTED (R109). -/
  | eStopDeasserted
  /-- RELEASE_DEBOUNCE_EXPIRY (R109). -/
  | releaseDebounceExpiry
  /-- BUS_VOLTAGE_SAMPLE (R112): generator bus voltage in V. -/
  | busVoltageSample (volts : Nat)
  /-- SAG_DEGLITCH_EXPIRY (R113). -/
  | sagDeglitchExpiry
  /-- PAUSE_TIMER_EXPIRY (R115). -/
  | pauseTimerExpiry
  /-- PCU_SAMPLE (R31). -/
  | pcuSample (sample : FieldSample)
  deriving DecidableEq, Repr

end Sys2Proof
end

