-- ==== Sys2Proof/Decode.lean ====
section
/-! DEFINITION. The word decoder the host asks for. No row of spec/opcode_table.json gives bits ("n_rows_with_fixed": 0 in
spec/98_reader.md): the FB48's commands are events, so no word spells one. What the spec does encode, its link frames, is
decoded and encoded in Machine/Operands.lean and Machine/Receive.lean. -/

namespace Sys2Proof

/-- The command a table word spells: none, since no row has bits. -/
def decodeTableWord (_nbits _w : Nat) : Option Instr := none

end Sys2Proof
end

