-- ==== Sys2Proof/Config.lean ====
section
/-! DEFINITION. The free values: what the manual (or the table's events) does not fix. None has a body, so no proof can
rest on a value. Each is applied to the plain counter State.free, which the model advances at every use, so that
every use is a fresh value (assumption log 3). -/

namespace Sys2Proof

/-- A whole number nothing constrains. Used for: the cycle voltage of a cycle in which no sample was taken while a pulse
conducted (R63); the tag echoed for an ORDER whose body has no tag byte (R161); and, limited to the platen's speed limit,
the step of FORCE mode (R41). Assumption log 3. -/
opaque Config.freeNat : Nat → Nat

end Sys2Proof
end

