-- ==== Sys2Proof/Machine/State.lean ====
section
/-! DEFINITION. The state of one FB48: every register, timer, queue, mark and line the manual gives its blocks, as plain
data; the two ways a step could stop; and the state right after a power-on reset. Distances are in 0.1 mm, forces in
kN, currents, voltages and energies as section 5.1 of 00_scope.md gives, all timers in ms. -/

namespace Sys2Proof.Machine

/-- A running timer with its remaining milliseconds, or none while it is stopped. An expiry is due at some 0. -/
abbrev Timer := Option Nat

/-! ### Names the manual gives -/

/-- Station states (00_scope.md, section 3.0). -/
inductive StationState
  | loading | unconfigured | listening | recover | idle | clamping | clamped | unclamping | welding | stopped
  | faultHold | dormant | waking
  deriving DecidableEq, Repr

/-- Weld phases, in the order a weld passes through them (00_scope.md, section 3.0). -/
inductive WeldPhase
  | check | touch | claimWait | preheat | flash | boost | upset | hold | trim | cool | closing
  deriving DecidableEq, Repr

/-- Fault codes (Table 6-3), in the order of codes 32 to 52 of Table 9-6. -/
inductive FaultCode
  | supplySag | overcurrent | stressDeviation | pullDrift | upsetShort | upsetLong | upsetTimeout | upsetCurrentCut
  | trimLate | trimFail | flashFreeze | flashLost | flashTimeout | noContact | fluxImbalance | supplyLost | eStop
  | abortOrder | clampSlip | sensorFault | oversubscribed
  deriving DecidableEq, Repr

/-- Fault severities (R28). -/
inductive Severity
  | info | quality | abort
  deriving DecidableEq, Repr

/-- Reasons of answers, notices and records (Table 9-6); a fault code is a reason as well. -/
inductive Reason
  | none | unconfigured | queueFull | tagBusy | badOrder | badSchedule | demandExceeds | outOfRange | wrongState
  | notFound | notHeld
  | notClamped | isolated | discord | clockSpent | logFull | sensor | electrodeContact | touchFail | strokeShort
  | forceShort | claimTimeout | aborted | clampTimeout
  | fault (code : FaultCode)
  deriving DecidableEq, Repr

/-- Outcomes (Table 9-5). -/
inductive OrderOutcome
  | good | reject | incomplete | notStarted | done | failed | cancelled | interrupted
  deriving DecidableEq, Repr

/-! ### Settings (R18, R178, Table 11-1) -/

/-- The shared section (Tables 7-1 and 8-1). `bitRateCode` is 0, 1 or 2 for 125, 250 or 500 kbit/s. -/
structure SharedSettings where
  capacityKva : Nat
  beaconMs : Nat
  lossCount : Nat
  settleMs : Nat
  drainS : Nat
  bitRateCode : Nat
  slotBits : Nat
  deriving DecidableEq, Repr

/-- The local section: Table 2-1, Table 3-1, Table 6-1, then the five settings Table 11-1 names. -/
structure LocalSettings where
  strokeFwd : Nat
  platenMaxKn : Nat
  forceSpanKn : Nat
  posJump : Nat
  moveSpeed : Nat
  moveTimeoutMs : Nat
  touchSpeed : Nat
  touchReserve : Nat
  touchTimeoutMs : Nat
  clampTimeoutMs : Nat
  clampRelKn : Nat
  slipPct : Nat
  slipMs : Nat
  shoeLimitUohm : Nat
  pullCoef : Nat
  pullTolPct : Nat
  pullMinBand : Nat
  pullSettleMs : Nat
  blankPct : Nat
  rampCycles : Nat
  ocLimitA : Nat
  ocDeglitchUs : Nat
  contactKa : Nat
  sagV : Nat
  sagHystV : Nat
  sagMs : Nat
  pauseMaxMs : Nat
  abortRetract : Nat
  trimStrokeMs : Nat
  recoverS : Nat
  idleMin : Nat
  wakeMs : Nat
  claimWaitS : Nat
  deriving DecidableEq, Repr

/-- One schedule (Table 1-2), in the order of its fields. -/
structure Schedule where
  demandKva : Nat
  carrierHz : Nat
  clampForce : Nat
  preCycles : Nat
  preContactMs : Nat
  preOpenMs : Nat
  preOpenDist : Nat
  preTripA : Nat
  preEnergyRef : Nat
  flashTripA : Nat
  flashV0 : Nat
  flashV1 : Nat
  flashBurnoff : Nat
  shortKa : Nat
  shortV : Nat
  shortDeglitchMs : Nat
  retractStep : Nat
  streakLimit : Nat
  streakResetMs : Nat
  openCycles : Nat
  openBoostPct : Nat
  flashLostMs : Nat
  flashTimeS : Nat
  boostDist : Nat
  boostTripA : Nat
  boostSpeed : Nat
  upsetForce : Nat
  upsetSpeed : Nat
  upsetCurDist : Nat
  upsetMin : Nat
  upsetMax : Nat
  upsetTimeMs : Nat
  holdForce : Nat
  holdS : Nat
  trimEnable : Nat
  trimWindowS : Nat
  coolS : Nat
  adjTripPct : Nat
  adjSpeedPct : Nat
  adjForcePct : Nat
  deriving DecidableEq, Repr

/-- Every value used at run time (section 5.5 of 00_scope.md): the three parts of the settings image. -/
structure Settings where
  shared : SharedSettings
  loc : LocalSettings
  schedules : List Schedule
  deriving DecidableEq, Repr

/-! ### LKC, the Link Controller (chapter 8) -/

/-- Frame kinds (Table 8-3). -/
inductive FrameKind
  | beacon | claim | yield | order | answer | notice | record
  deriving DecidableEq, Repr

/-- Which block queued a frame and what its report means there (R153, R156, R163, R167, R175). -/
inductive Purpose
  /-- a beacon; the own claim number it names, if any (R131) -/
  | beacon (names : Option Nat)
  /-- the CLAIM frame of this own claim number (R131) -/
  | claim (number : Nat)
  | yield (number : Nat)
  /-- an ordinary ANSWER -/
  | answer
  /-- the ANSWER of an accepted RESTART (R167) -/
  | restartAnswer
  /-- the ANSWER of an accepted READ_RECORD (R175) -/
  | readAnswer
  /-- the DONE notice of the order standing at the head (R163) -/
  | doneNotice
  /-- a DONE notice of a cancelled order, or a STOP notice (R111, R164) -/
  | notice
  /-- part 1 or 2 of the record of a read transfer, and which transfer it is (R175) -/
  | recordPart (part read : Nat)
  deriving DecidableEq, Repr

/-- A frame made for sending: kind, destination node, body (R147), and what its report means. -/
structure TxFrame where
  kind : FrameKind
  dest : Nat
  body : List Byte
  purpose : Purpose
  deriving DecidableEq, Repr

/-- The Link Controller. -/
structure Lkc where
  /-- transmit queue, head first: the share part, then the other part (R154) -/
  queue : List TxFrame
  /-- the send slot (R151) -/
  slot : Option TxFrame
  /-- the frame in the send slot is being sent (R153) -/
  sending : Bool
  /-- the medium access wait under way, with its length in bit times (R151, R152) -/
  wait : Option Nat
  /-- another node's frame is on the line (R151) -/
  lineBusy : Bool
  /-- the rest (R152) -/
  rest : Bool
  /-- consecutive collisions of the frame in the send slot (R153) -/
  collisionRun : Nat
  /-- frames waiting for room in their blocks, in the order they began waiting (R156); those of ORQ are ORQ's
  outgoing wait list -/
  waiters : List TxFrame
  beaconTimer : Timer
  /-- bit rate in use, kbit/s (R146) -/
  bitRate : Nat
  /-- slot time in use, bit times (R146) -/
  slotBits : Nat
  crcErrors : Nat
  lengthErrors : Nat
  badKinds : Nat
  foreignOrders : Nat
  collisions : Nat
  jammedDrops : Nat
  queueFullDrops : Nat
  deriving DecidableEq, Repr

/-! ### SHT, the Share Table (chapter 7) -/

/-- Presence of a peer (Table 7-2). SELF is not stored: it is the entry of the own station number. -/
inductive Presence
  | absent | present | discordant
  deriving DecidableEq, Repr

/-- One peer table entry (Table 7-2). -/
structure Peer where
  presence : Presence
  missed : Nat
  lossTimer : Timer
  /-- reported station state code and flags byte of the last beacon -/
  reported : Option (Nat × Nat)
  digest : Option Nat
  weldCounter : Option Nat
  lastClaim : Option Nat
  deriving DecidableEq, Repr

/-- States of a claim (Table 7-3). -/
inductive ClaimState
  | queued | drawing | stale
  deriving DecidableEq, Repr

/-- One claim list entry (Table 7-3); the drain timer is present only when STALE. The settle flag of the own entry is
Sht.settleFlag. -/
structure Claim where
  station : Nat
  number : Nat
  demand : Nat
  state : ClaimState
  drain : Timer
  deriving DecidableEq, Repr

/-- The Share Table. -/
structure Sht where
  /-- entries 0 to 7; the entry of the own number is shown as SELF -/
  peers : List Peer
  /-- the claim list, in its order (R129) -/
  claims : List Claim
  clock : Nat
  ownDigest : Nat
  /-- the last own claim number (SELF entry of Table 7-2) -/
  lastOwnClaim : Option Nat
  settleFlag : Bool
  settleTimer : Timer
  /-- the CLAIM frame of the own claim has been reported dropped (R131) -/
  claimDropped : Bool
  /-- a beacon naming the own claim has been transmitted (R131) -/
  beaconNamed : Bool
  claimWait : Timer
  /-- the own entry was oversubscribed at the last evaluation (R142) -/
  oversubscribed : Bool
  admissions : Nat
  claimTimeouts : Nat
  peerLosses : Nat
  staleDrains : Nat
  discordEvents : Nat
  oversubscriptions : Nat
  ignoredYields : Nat
  deriving DecidableEq, Repr

/-! ### CDR, the Current Drive (chapter 3) -/

/-- Drive modes (Table 3-2). -/
inductive DriveMode
  | off | preheatContact | flash | boost | upsetCurrent
  deriving DecidableEq, Repr

/-- Drive states (Table 3-3). -/
inductive DriveState
  | blocked | ready | running
  deriving DecidableEq, Repr

/-- Where carrier timing stands (R56): in the positive half-cycle, in the negative one, or at the boundary that ends the
carrier cycle. -/
inductive Half
  | positive | negative | boundary
  deriving DecidableEq, Repr

/-- The pulse of the running half-cycle (R57, R58): none while no gate group may conduct, in its blanking interval,
conducting with the trip comparison made, in an off-time, or over for this half-cycle. -/
inductive Pulse
  | none | blanking | conducting | offTime | closed
  deriving DecidableEq, Repr

/-- An unfinished trip ramp (R59): start level, length in cycles, cycles already made. -/
structure Ramp where
  start : Nat
  cycles : Nat
  step : Nat
  deriving DecidableEq, Repr

/-- A value for each of the four current modes (R69, R70). -/
structure PerMode (α : Type) where
  preheat : α
  flash : α
  boost : α
  upset : α
  deriving DecidableEq, Repr

/-- What the samples of the carrier cycle in progress have given so far (R63, R67, R69). -/
structure CycleSums where
  /-- largest magnitude of secondary current -/
  maxCurrent : Nat
  /-- sum and number of voltage magnitudes over samples taken while a pulse conducted -/
  voltageSum : Nat
  voltageCount : Nat
  /-- sum of voltage times current -/
  energy : Int
  /-- part of that sum already divided off to a mode before, or added to a total (R69) -/
  credited : Int
  posIntegral : Nat
  negIntegral : Nat
  deriving DecidableEq, Repr

/-- The Current Drive. -/
structure Cdr where
  mode : DriveMode
  drive : DriveState
  half : Half
  pulse : Pulse
  /-- a normal OFF waits for the end of the half-cycle (R52) -/
  offPending : Bool
  tripTarget : Option Nat
  applied : Option Nat
  ramp : Option Ramp
  carrierHz : Nat
  /-- overcurrent lockout in force (R61) -/
  lockout : Bool
  /-- the drive has been RUNNING, with no lockout, since the boundary that began the cycle (R60) -/
  whole : Bool
  sums : CycleSums
  /-- samples taken in the half-cycle in progress (R51) -/
  sampled : Nat
  overcurrentCount : Nat
  shortRun : Nat
  openRun : Nat
  openReported : Bool
  /-- flux correction in steps of 0.5 percent, -16 to 16 (R67) -/
  flux : Int
  boundCount : Nat
  fluxReported : Bool
  /-- energy totals as sums of voltage times current over samples, in 0.1 V by 0.1 kA (R69; assumption log 12) -/
  energy : PerMode Int
  /-- current time tallies, ms (R70) -/
  tally : PerMode Nat
  /-- ms RUNNING since the last addition to a total, not yet in a tally (R70) -/
  runMs : Nat
  /-- parts of the cycle in progress divided off to modes it has left, not yet in a total (R69) -/
  partEnergy : PerMode Int
  /-- ms of those parts, not yet in a tally (R70) -/
  partMs : PerMode Nat
  deriving DecidableEq, Repr

/-! ### PCU, the Platen and Clamp Unit (chapter 2) -/

/-- Clamp states (section 2.2). -/
inductive ClampState
  | open | closing | closed | opening
  deriving DecidableEq, Repr

/-- Positions of the clamp valve: both ports blocked, driven, or unpowered in DORMANT (R32, R35). -/
inductive ClampValve
  | hold | close | open | unpowered
  deriving DecidableEq, Repr

/-- The slip detector (R36). -/
inductive SlipDetector
  | disarmed | armed | tripped
  deriving DecidableEq, Repr

/-- Platen modes with their setpoints (Table 2-2). RETRACT holds its target position (R40); FORCE its total target
(R41) and speed limit. -/
inductive PlatenMode
  | hold
  | speed (v : Int)
  | position (target : Int)
  | force (total limit : Int)
  | retract (target : Int)
  deriving DecidableEq, Repr

/-- The move that uses the contact sense (R44, R75). -/
inductive ContactMove
  | none | touch | advance
  deriving DecidableEq, Repr

/-- The Platen and Clamp Unit. -/
structure Pcu where
  /-- unknown until the first pressure sample after a reset (R32) -/
  clamp : Option ClampState
  /-- the stopped marker of CLOSING and OPENING -/
  stopped : Bool
  clampValve : ClampValve
  clampTimer : Timer
  /-- the movement counts as a reversal (R33, R34) -/
  reversal : Bool
  clampForceInUse : Option Nat
  slip : SlipDetector
  slipCount : Nat
  /-- the recovery top-up is under way (R37) -/
  topUp : Bool
  mode : PlatenMode
  /-- commanded position, in thousandths of 0.1 mm (R39) -/
  commanded : Int
  moveTimer : Timer
  /-- consecutive samples within 0.2 mm of the target (R40) -/
  nearCount : Nat
  /-- the field side is powered -/
  powered : Bool
  /-- a position sample has been taken since the field side was powered (R42) -/
  posSeen : Bool
  /-- the first pressure sample after powering, while it still waits to be compared (R32, R35) -/
  firstPressure : Option Nat
  /-- the field side was powered by a wake and its first pressure sample has not come (R35) -/
  wakeSample : Bool
  position : Int
  force : Int
  pressure : Nat
  /-- plausibility of the latest sample, position and force (R42) -/
  posOk : Bool
  forceOk : Bool
  /-- position of the latest plausible sample (R93) -/
  plausPosition : Int
  /-- the last 20 positions, latest first (R41) -/
  posHistory : List Int
  tripped : Bool
  plausibleRun : Nat
  /-- highest force since the FORCE request (R41) -/
  highForce : Int
  /-- force reached has been reported for the FORCE request -/
  forceReported : Bool
  contactMove : ContactMove
  contactSense : Bool
  contactRun : Nat
  /-- every sample since the start of the move showed contact (R44, R75) -/
  contactFromStart : Bool
  contactPosition : Int
  contactForce : Int
  /-- touch timer, or advance timer (R44, R75) -/
  touchTimer : Timer
  touchStart : Int
  touchPos : Option Int
  gap : Option Int
  initialPull : Option Int
  /-- force basis of R41 -/
  forceBasis : Int
  pullTarget : Option Nat
  pullAtHoldEnd : Option Int
  driftWatch : Bool
  lowestForce : Option Int
  /-- shoe being measured, 0 to 3 (R43) -/
  shoe : Option Nat
  shoeTimer : Timer
  /-- last electrode result: four resistances, and the failed shoes -/
  resistances : List (Option Nat)
  failedShoes : List Bool
  deriving DecidableEq, Repr

/-! ### TRU, the Trim Unit (section 5.4) -/

/-- TRU states (Table 5-3). -/
inductive TruState
  | retracted | advancing | atEnd | returning | fault
  deriving DecidableEq, Repr

/-- Positions of the trimmer valve. -/
inductive TrimValve
  | advance | hold | return
  deriving DecidableEq, Repr

/-- Trim results (R104). -/
inductive TrimResult
  | done | late | failed | skipped
  deriving DecidableEq, Repr

/-- The Trim Unit. -/
structure Tru where
  state : TruState
  valve : TrimValve
  stopped : Bool
  /-- the trim window while it is open, remaining ms (R100) -/
  window : Timer
  /-- remaining time kept when the stroke started (R101) -/
  windowKept : Option Nat
  strokeTimer : Timer
  dwell : Timer
  result : Option TrimResult
  failFiled : Bool
  /-- a stroke start waits for the return switch (R101) -/
  startWaiting : Bool
  deriving DecidableEq, Repr

/-! ### STL, the Stop Logic (sections 6.1 to 6.3) -/

/-- Stop states (R108). -/
inductive StopState
  | run | active | held
  deriving DecidableEq, Repr

/-- Pause states (Table 6-2). -/
inductive PauseState
  | normal | sag | paused | resuming
  deriving DecidableEq, Repr

/-- The Stop Logic. -/
structure Stl where
  /-- level of the emergency-stop input: asserted -/
  input : Bool
  stop : StopState
  debounce : Timer
  pause : PauseState
  deglitch : Timer
  deglitched : Bool
  pauseTimer : Timer
  /-- SUPPLY_LOST has been reported for the pause in force (R115) -/
  lostReported : Bool
  /-- latest bus voltage sample -/
  volts : Nat
  sagCount : Nat
  pauseCount : Nat
  deriving DecidableEq, Repr

/-! ### WRS, the Weld Record Store (chapter 10) -/

/-- One fault list entry (R28). -/
structure FaultEntry where
  code : FaultCode
  severity : Severity
  phase : WeldPhase
  offsetMs : Nat
  deriving DecidableEq, Repr

/-- A weld record (Tables 10-2 and 10-3); an absent field is none. `phase` is the abort phase, or the marker's last
phase of an INTERRUPTED record. -/
structure WeldRecord where
  weldNo : Nat
  station : Nat
  schedule : Option Nat
  kind : Option WeldKind
  railTemp : Option Int
  neutral : Option Int
  pullTarget : Option Nat
  gap : Option Int
  preCyclesDone : Option Nat
  preEnergy : Option Nat
  flashScale : Option Nat
  burnOff : Option Int
  flashTime : Option Nat
  shortCount : Option Nat
  boostDistance : Option Int
  upsetDistance : Option Int
  upsetPeak : Option Int
  upsetCurrentTime : Option Nat
  pullAtHoldEnd : Option Int
  trimResult : Option TrimResult
  coolingTime : Option Nat
  claimWaitTime : Option Nat
  phase : Option WeldPhase
  cause : Reason
  outcome : OrderOutcome
  faults : List FaultEntry
  overflow : Nat
  deriving DecidableEq, Repr

/-- A record slot with its state (Table 10-1). A RESERVED slot's contents are not readable, so it holds none. -/
inductive Slot
  | empty
  | reserved
  | valid (record : WeldRecord)
  | held (record : WeldRecord)
  deriving DecidableEq, Repr

/-- The working record (R171): the record so far, the moment of the update of R23, and whether a QUALITY fault was
filed (listed or counted in the overflow count, R29). -/
structure WorkingRecord where
  record : WeldRecord
  openedAt : Nat
  quality : Bool
  deriving DecidableEq, Repr

/-- How far a read transfer has come (R175). -/
inductive ReadStage
  /-- its ANSWER has not been placed in the transmit queue -/
  | answering
  /-- part 1 is to be built -/
  | part1
  /-- part 1 waits for room -/
  | part1Waiting
  | part2
  | part2Waiting
  /-- part 2 has been placed -/
  | part2Placed
  deriving DecidableEq, Repr

/-- A read transfer: the snapshot with the slot's state (held or not), tag and panel (R175). -/
structure ReadTransfer where
  /-- which transfer this is: the model's own number, by which a frame names its transfer -/
  id : Nat
  record : WeldRecord
  held : Bool
  tag : Nat
  dest : Nat
  stage : ReadStage
  deriving DecidableEq, Repr

/-- The Weld Record Store. -/
structure Wrs where
  slots : List Slot
  newest : Nat
  counter : Nat
  /-- the weld-open marker: weld number and last phase (R24) -/
  marker : Option (Nat × WeldPhase)
  working : Option WorkingRecord
  /-- the record being written into the RESERVED slot (R173, R181) -/
  writing : Option WeldRecord
  /-- time left of the 50 ms a write may take -/
  writeTimer : Timer
  reads : List ReadTransfer
  /-- number of the next read transfer (the model's own field) -/
  nextRead : Nat
  deriving DecidableEq, Repr

/-! ### ORQ, the Order Queue (chapter 9) -/

/-- What a queued order asks for. -/
inductive QueuedKind
  | clamp (sched : Nat)
  | weld (sched : Nat) (kind : WeldKind) (neutral : Int)
  | unclamp
  deriving DecidableEq, Repr

/-- A queued order waits, executes, or has ended while its DONE notice waits for room (R2, R163). -/
inductive OrderStatus
  | waiting | executing | ended
  deriving DecidableEq, Repr

/-- One entry of the order queue. -/
structure QueuedOrder where
  src : Nat
  tag : Nat
  kind : QueuedKind
  status : OrderStatus
  deriving DecidableEq, Repr

/-- The body of a delivered ORDER (Table 9-2), or a malformed body as received (R161). -/
inductive OrderBody
  | queued (tag : Nat) (kind : QueuedKind)
  | abort (tag target : Nat)
  | clear (tag : Nat)
  | status (tag selector part : Nat)
  | adjust (tag : Nat) (trip speed force : Int)
  | readRecord (tag weldNo : Nat)
  | releaseHold (tag weldNo : Nat)
  | rest (tag : Nat)
  | restart (tag : Nat)
  | malformed (body : List Byte)
  deriving DecidableEq, Repr

/-- A delivered ORDER: source node and body. -/
structure Delivered where
  src : Nat
  body : OrderBody
  deriving DecidableEq, Repr

/-- The Order Queue. Its outgoing wait list is the ORQ part of Lkc.waiters. -/
structure Orq where
  queue : List QueuedOrder
  heldList : List Delivered
  arrivals : List Delivered
  ordersLost : Nat
  restartPending : Bool
  /-- the RESTART answer has been reported transmitted or dropped: the reset is due (R167) -/
  restartDue : Bool
  deriving DecidableEq, Repr

/-! ### WSQ, the Weld Sequencer, with flash control (chapters 1, 4 to 6) -/

/-- The pending set, and the adjustment in force (section 1.5). -/
structure Adjustment where
  scale : Nat
  trip : Int
  speed : Int
  force : Int
  deriving DecidableEq, Repr

/-- The active set: the targets of the running phase (R19); a target the phase does not have is 0. -/
structure ActiveSet where
  trip : Nat
  v0 : Nat
  v1 : Nat
  speed : Nat
  upsetForce : Nat
  holdForce : Nat
  deriving DecidableEq, Repr

/-- Where the abort path stands (R119, R122): nothing of its own to wait for, waiting for the drive off report, waiting
to begin the abort retract, retracting to the recorded target, or stopped on the way there. -/
inductive AbortStep
  | runOn
  | driveIdle
  | retractWait
  | retracting (target : Int)
  | retractStopped (target : Int)
  deriving DecidableEq, Repr

/-- An abort path under way: cause, abort phase, step (R117). -/
structure Abort where
  cause : FaultCode
  phase : WeldPhase
  step : AbortStep
  deriving DecidableEq, Repr

/-- A NOT_STARTED ending (R26, R118): its reason; whether its retract to the CHECK position has begun; whether the
platen is on its way there. An ending without a retract waits for CLEAR (E_STOP in CHECK). -/
structure Ending where
  reason : Reason
  begun : Bool
  moving : Bool
  deriving DecidableEq, Repr

/-- Preheat steps (Table 4-1). -/
inductive PreheatStep
  | advance | contact | part | open
  deriving DecidableEq, Repr

/-- Feed stages (Table 4-1). -/
inductive FeedStage
  | approach | feeding | stepping | held
  deriving DecidableEq, Repr

/-- Flash control (Table 4-1). The flash time elapsed is kept when the limit ends; while it runs it is the limit less
the remaining time. -/
structure Flash where
  step : Option PreheatStep
  /-- the contact timer has expired and the CONTACT step waits for the drive off report (R76) -/
  offAwaited : Bool
  cyclesDone : Nat
  feed : Option FeedStage
  startPos : Option Int
  highMark : Option Int
  burnOff : Option Int
  boostBase : Option Int
  boostDone : Option Int
  shortCount : Nat
  streak : Nat
  streakTimer : Timer
  openMark : Bool
  lostTimer : Timer
  flashTime : Nat
  deriving DecidableEq, Repr

/-- The Weld Sequencer. -/
structure Wsq where
  station : StationState
  phase : Option WeldPhase
  isolated : Bool
  lastFault : Reason
  /-- the state left for STOPPED or FAULT_HOLD (R7, R8) -/
  returnState : Option StationState
  /-- FAULT_HOLD is part of the return of STOPPED (R8) -/
  returnFault : Bool
  idleTimer : Timer
  recoverTimer : Timer
  wakeTimer : Timer
  listenTimer : Timer
  /-- the 200 ms limit of loading (R178) -/
  loadTimer : Timer
  /-- the recovery top-up is still to be made at the first entry to RECOVER or CLAMPED (R37, R182) -/
  topUpDue : Bool
  /-- reason with which the executing CLAMP or UNCLAMP will end after a timeout (R3, R4) -/
  clampFail : Option Reason
  active : ActiveSet
  inForce : Adjustment
  pendingSet : Adjustment
  switchPending : Bool
  /-- the weld's order: schedule, kind, neutral temperature (R25) -/
  sched : Nat
  kind : WeldKind
  neutral : Int
  checkPos : Int
  railTemp : Option Int
  claimWaitAt : Nat
  weldNo : Option Nat
  /-- a current mode has been requested in the weld (R52) -/
  weldStarted : Bool
  abort : Option Abort
  ending : Option Ending
  /-- the motion-barred mark (R123) -/
  barred : Bool
  contactTimer : Timer
  openTimer : Timer
  flashTimer : Timer
  upsetTimer : Timer
  holdTimer : Timer
  coolTimer : Timer
  /-- a hold or cooling time expired while STOPPED or in FAULT_HOLD (R17) -/
  expired : Bool
  upsetStart : Option Int
  upsetMark : Bool
  upsetDistance : Option Int
  upsetPeak : Option Int
  /-- the HOLD request for the pull has been made (R98) -/
  pullRequested : Bool
  coolAt : Option Nat
  coolingDone : Option Nat
  deriving DecidableEq, Repr

/-- The station. -/
structure State where
  /-- the station is held in its reset state: supply not yet good, or reset line asserted (R177) -/
  inReset : Bool
  /-- own station number, from the strap pins (R146) -/
  node : Nat
  settings : Settings
  /-- milliseconds since power-on, by the model's clock -/
  now : Nat
  /-- how many free values have been taken (the model's own field) -/
  free : Nat
  wsq : Wsq
  flash : Flash
  cdr : Cdr
  pcu : Pcu
  tru : Tru
  stl : Stl
  sht : Sht
  lkc : Lkc
  orq : Orq
  wrs : Wrs
  /-- commands waiting, first in, first out -/
  pending : List Instr
  deriving DecidableEq, Repr

/-- Faults: none. The manual gives no event on which the block stops; what it calls faults are reports filed by WSQ
(R28), which are state. No command of the model raises a fault. -/
inductive Fault
  deriving DecidableEq, Repr

/-- Refusals. -/
inductive Refusal
  /-- A command whose meaning has not been written. Raised by exec's arm of that command only; safe. No arm of this
  model raises it. -/
  | notModelled (mnemonic : String)
  deriving DecidableEq, Repr

/-! ### Reset values -/

/-- No settings yet: every value 0, eight schedules (assumption log 6). -/
def Settings.blank : Settings where
  shared := ⟨0, 0, 0, 0, 0, 0, 0⟩
  loc := ⟨0, 0, 0, 0, 0, 0, 0, 0, 0, 0, 0, 0, 0, 0, 0, 0, 0, 0, 0, 0, 0, 0, 0, 0, 0, 0, 0, 0, 0, 0, 0, 0, 0⟩
  schedules := List.replicate 8
    ⟨0, 0, 0, 0, 0, 0, 0, 0, 0, 0, 0, 0, 0, 0, 0, 0, 0, 0, 0, 0, 0, 0, 0, 0, 0, 0, 0, 0, 0, 0, 0, 0, 0, 0, 0, 0, 0, 0, 0, 0⟩

/-- The neutral adjustment (section 1.5). -/
def Adjustment.neutral : Adjustment := ⟨100, 0, 0, 0⟩

/-- No targets. -/
def ActiveSet.none : ActiveSet := ⟨0, 0, 0, 0, 0, 0⟩

/-- Flash control's state at every reset and at CHECK entry (R74). -/
def Flash.initial : Flash where
  step := none
  offAwaited := false
  cyclesDone := 0
  feed := none
  startPos := none
  highMark := none
  burnOff := none
  boostBase := none
  boostDone := none
  shortCount := 0
  streak := 0
  streakTimer := none
  openMark := false
  lostTimer := none
  flashTime := 0

/-- WSQ's state at every reset (R1, R22, R93). -/
def Wsq.initial : Wsq where
  station := .loading
  phase := none
  isolated := false
  lastFault := .none
  returnState := none
  returnFault := false
  idleTimer := none
  recoverTimer := none
  wakeTimer := none
  listenTimer := none
  loadTimer := none
  topUpDue := false
  clampFail := none
  active := .none
  inForce := .neutral
  pendingSet := .neutral
  switchPending := false
  sched := 0
  kind := .join
  neutral := 0
  checkPos := 0
  railTemp := none
  claimWaitAt := 0
  weldNo := none
  weldStarted := false
  abort := none
  ending := none
  barred := false
  contactTimer := none
  openTimer := none
  flashTimer := none
  upsetTimer := none
  holdTimer := none
  coolTimer := none
  expired := false
  upsetStart := none
  upsetMark := false
  upsetDistance := none
  upsetPeak := none
  pullRequested := false
  coolAt := none
  coolingDone := none

/-- No sample taken yet in the cycle. -/
def CycleSums.zero : CycleSums := ⟨0, 0, 0, 0, 0, 0, 0⟩

/-- CDR at every reset (Table 3-5). -/
def Cdr.initial : Cdr where
  mode := .off
  drive := .blocked
  half := .positive
  pulse := .none
  offPending := false
  tripTarget := none
  applied := none
  ramp := none
  carrierHz := 0
  lockout := false
  whole := false
  sums := .zero
  sampled := 0
  overcurrentCount := 0
  shortRun := 0
  openRun := 0
  openReported := false
  flux := 0
  boundCount := 0
  fluxReported := false
  energy := ⟨0, 0, 0, 0⟩
  tally := ⟨0, 0, 0, 0⟩
  runMs := 0
  partEnergy := ⟨0, 0, 0, 0⟩
  partMs := ⟨0, 0, 0, 0⟩

/-- PCU at every reset (R32, Table 2-3). -/
def Pcu.initial : Pcu where
  clamp := none
  stopped := false
  clampValve := .hold
  clampTimer := none
  reversal := false
  clampForceInUse := none
  slip := .disarmed
  slipCount := 0
  topUp := false
  mode := .hold
  commanded := 0
  moveTimer := none
  nearCount := 0
  powered := true
  posSeen := false
  firstPressure := none
  wakeSample := false
  position := 0
  force := 0
  pressure := 0
  posOk := true
  forceOk := true
  plausPosition := 0
  posHistory := []
  tripped := false
  plausibleRun := 0
  highForce := 0
  forceReported := false
  contactMove := .none
  contactSense := false
  contactRun := 0
  contactFromStart := false
  contactPosition := 0
  contactForce := 0
  touchTimer := none
  touchStart := 0
  touchPos := none
  gap := none
  initialPull := none
  forceBasis := 0
  pullTarget := none
  pullAtHoldEnd := none
  driftWatch := false
  lowestForce := none
  shoe := none
  shoeTimer := none
  resistances := [none, none, none, none]
  failedShoes := [false, false, false, false]

/-- TRU at every reset; its state is set by the first switch sample (R99), FAULT until then (assumption log 6). -/
def Tru.initial : Tru where
  state := .fault
  valve := .return
  stopped := false
  window := none
  windowKept := none
  strokeTimer := none
  dwell := none
  result := none
  failFiled := false
  startWaiting := false

/-- STL at every reset, with the input's level (R108, R112). -/
def Stl.initial (input : Bool) : Stl where
  input := input
  stop := if input then .active else .run
  debounce := none
  pause := .normal
  deglitch := none
  deglitched := false
  pauseTimer := none
  lostReported := false
  volts := 0
  sagCount := 0
  pauseCount := 0

/-- A peer of which nothing is known (R125). -/
def Peer.unknown : Peer := ⟨.absent, 0, none, none, none, none, none⟩

/-- SHT at power-on (R125). The own digest is 0 until check 2 passes: the manual gives it no value before (assumption
log 6). -/
def Sht.initial : Sht where
  peers := List.replicate 8 .unknown
  claims := []
  clock := 0
  ownDigest := 0
  lastOwnClaim := none
  settleFlag := false
  settleTimer := none
  claimDropped := false
  beaconNamed := false
  claimWait := none
  oversubscribed := false
  admissions := 0
  claimTimeouts := 0
  peerLosses := 0
  staleDrains := 0
  discordEvents := 0
  oversubscriptions := 0
  ignoredYields := 0

/-- LKC at power-on (R146). -/
def Lkc.initial : Lkc where
  queue := []
  slot := none
  sending := false
  wait := none
  lineBusy := false
  rest := false
  collisionRun := 0
  waiters := []
  beaconTimer := none
  bitRate := 125
  slotBits := 16
  crcErrors := 0
  lengthErrors := 0
  badKinds := 0
  foreignOrders := 0
  collisions := 0
  jammedDrops := 0
  queueFullDrops := 0

/-- ORQ at power-on (R160). -/
def Orq.initial : Orq where
  queue := []
  heldList := []
  arrivals := []
  ordersLost := 0
  restartPending := false
  restartDue := false

/-- A store that has never been written (R169). -/
def Wrs.initial : Wrs where
  slots := List.replicate 48 .empty
  newest := 47
  counter := 0
  marker := none
  working := none
  writing := none
  writeTimer := none
  reads := []
  nextRead := 0

/-- Right after a power-on reset of a station whose store has never been written, the supply not yet good (R177). -/
def State.reset : State where
  inReset := true
  node := 0
  settings := .blank
  now := 0
  free := 0
  wsq := .initial
  flash := .initial
  cdr := .initial
  pcu := .initial
  tru := .initial
  stl := .initial false
  sht := .initial
  lkc := .initial
  orq := .initial
  wrs := .initial
  pending := []

end Sys2Proof.Machine
end

