-- ==== Sys2Proof/Machine/Ops.lean ====
section
/-! DEFINITION. The small operations every block uses: counters that stop at a top value, rounding, timers, free values,
and the readings of the station that more than one block asks for. -/

namespace Sys2Proof.Machine

/-! ### Arithmetic -/

/-- A counter that stops rising at `top` (R112, R144, R158, R171). -/
def bumpTo (top n : Nat) : Nat := if n < top then n + 1 else n

/-- A 16-bit counter (R144, R158). -/
def bump16 (n : Nat) : Nat := bumpTo 65535 n

/-- The top value of the claim clock and of the weld counter (R128, R170). -/
def top32 : Nat := 4294967295

/-- `n / d` rounded to the nearest whole number, halves rounded up (R19, R47, R59, R69, R80). -/
def roundDiv (n d : Nat) : Nat := (2 * n + d) / (2 * d)

/-- `base` scaled by 100 plus a signed percent (R19). -/
def addPct (base : Nat) (pct : Int) : Nat := base * (100 + pct).toNat

/-- A value limited to an interval. -/
def clampInt (lo hi x : Int) : Int := if x < lo then lo else if hi < x then hi else x

/-- A value limited to an interval (R21). -/
def clampNat (lo hi x : Nat) : Nat := if x < lo then lo else if hi < x then hi else x

/-! ### Timers -/

/-- A timer's expiry is due. -/
def due (t : Timer) : Bool := t == some 0

/-- One millisecond passes on a running timer. -/
def tick (t : Timer) : Timer := t.map (· - 1)

/-- One millisecond passes on a phase timer: it is held while paused (R16). -/
def tickUnless (held : Bool) (t : Timer) : Timer := if held then t else tick t

/-! ### Free values -/

/-- A free value, and the state that has used it (assumption log 3). -/
def State.fresh (s : State) : Nat × State := (Config.freeNat s.free, { s with free := s.free + 1 })

/-! ### Settings in use -/

/-- The schedule of a number; numbers above 7 are refused before use (R162). -/
def State.schedule (s : State) (n : Nat) : Schedule :=
  s.settings.schedules.getD n ⟨0, 0, 0, 0, 0, 0, 0, 0, 0, 0, 0, 0, 0, 0, 0, 0, 0, 0, 0, 0, 0, 0, 0, 0, 0, 0, 0, 0, 0, 0, 0,
    0, 0, 0, 0, 0, 0, 0, 0, 0⟩

/-- The schedule of the weld in progress. -/
def State.sched (s : State) : Schedule := s.schedule s.wsq.sched

/-- The local section. -/
def State.loc (s : State) : LocalSettings := s.settings.loc

/-- The shared section. -/
def State.shr (s : State) : SharedSettings := s.settings.shared

/-! ### Readings of the station -/

/-- The image has been accepted: the station is past LOADING and not UNCONFIGURED. -/
def State.configured (s : State) : Bool :=
  s.wsq.station != .loading && s.wsq.station != .unconfigured

/-- The station is STOPPED or in FAULT_HOLD: motion waits for CLEAR (R117). -/
def State.motionHeld (s : State) : Bool :=
  s.wsq.station == .stopped || s.wsq.station == .faultHold

/-- A weld is in progress. -/
def State.welding (s : State) : Bool := s.wsq.phase.isSome

/-- The abort path of the weld in progress has started (R117). -/
def State.aborting (s : State) : Bool := s.wsq.abort.isSome

/-- The state of the own claim, if there is one (R129). -/
def State.ownClaim (s : State) : Option Claim := s.sht.claims.find? (·.station == s.node)

/-- The station is drawing: its own claim is DRAWING (section 6.3). -/
def State.drawing (s : State) : Bool := s.ownClaim.any (·.state == .drawing)

/-- A pause is in force (R53, R113, R114). -/
def State.paused (s : State) : Bool := s.stl.pause == .paused || s.stl.pause == .resuming

/-- The run conditions of the drive (R53). -/
def State.runConditions (s : State) : Bool :=
  s.drawing && s.stl.stop == .run && !s.paused && s.pcu.clamp == some .closed

/-- The clamps are not OPEN (R8). -/
def State.clampsNotOpen (s : State) : Bool := s.pcu.clamp != some .open

/-- The remaining time of the window the tables and timers use: real seconds into ms. -/
def seconds (n : Nat) : Nat := n * 1000

/-- The working record is open for filing: from the update of R23 until CLOSING begins (R28). -/
def State.recordOpen (s : State) : Bool := s.wrs.working.isSome && s.wsq.phase != some .closing

end Sys2Proof.Machine
end

