-- ==== Sys2Proof/Machine/Flags.lean ====
section
/-! DEFINITION. The codes and flag bytes the manual gives: Tables 6-3, 8-5, 9-5, 9-6, 9-7, 10-3. -/

namespace Sys2Proof.Machine

/-- Station state code (Table 8-5). LOADING has none; 0 stands there, in a byte that is never sent. -/
def StationState.code : StationState → Nat
  | .loading => 0
  | .unconfigured => 1
  | .listening => 2
  | .recover => 3
  | .idle => 4
  | .clamping => 5
  | .clamped => 6
  | .unclamping => 7
  | .welding => 8
  | .stopped => 9
  | .faultHold => 10
  | .dormant => 11
  | .waking => 12

/-- Weld phase code (Table 8-5). -/
def WeldPhase.code : WeldPhase → Nat
  | .check => 1
  | .touch => 2
  | .claimWait => 3
  | .preheat => 4
  | .flash => 5
  | .boost => 6
  | .upset => 7
  | .hold => 8
  | .trim => 9
  | .cool => 10
  | .closing => 11

/-- The code of the phase kept, 0 when no weld is in progress (R148). -/
def phaseCode (p : Option WeldPhase) : Nat := (p.map WeldPhase.code).getD 0

/-- Fault code (Table 9-6, codes 32 to 52). -/
def FaultCode.code : FaultCode → Nat
  | .supplySag => 32
  | .overcurrent => 33
  | .stressDeviation => 34
  | .pullDrift => 35
  | .upsetShort => 36
  | .upsetLong => 37
  | .upsetTimeout => 38
  | .upsetCurrentCut => 39
  | .trimLate => 40
  | .trimFail => 41
  | .flashFreeze => 42
  | .flashLost => 43
  | .flashTimeout => 44
  | .noContact => 45
  | .fluxImbalance => 46
  | .supplyLost => 47
  | .eStop => 48
  | .abortOrder => 49
  | .clampSlip => 50
  | .sensorFault => 51
  | .oversubscribed => 52

/-- Reason code (Table 9-6). -/
def Reason.code : Reason → Nat
  | .none => 0
  | .unconfigured => 1
  | .queueFull => 2
  | .tagBusy => 3
  | .badOrder => 4
  | .badSchedule => 5
  | .demandExceeds => 6
  | .outOfRange => 7
  | .wrongState => 8
  | .notFound => 9
  | .notHeld => 10
  | .notClamped => 16
  | .isolated => 17
  | .discord => 18
  | .clockSpent => 19
  | .logFull => 20
  | .sensor => 21
  | .electrodeContact => 22
  | .touchFail => 23
  | .strokeShort => 24
  | .forceShort => 25
  | .claimTimeout => 26
  | .aborted => 27
  | .clampTimeout => 28
  | .fault c => c.code

/-- Outcome code (Table 9-5). -/
def OrderOutcome.code : OrderOutcome → Nat
  | .good => 1
  | .reject => 2
  | .incomplete => 3
  | .notStarted => 4
  | .done => 5
  | .failed => 6
  | .cancelled => 7
  | .interrupted => 8

/-- Severity code (Table 10-4). -/
def Severity.code : Severity → Nat
  | .info => 0
  | .quality => 1
  | .abort => 2

/-- The severity of a fault (Table 6-3). OVERCURRENT's goes by its count within the weld (R62). -/
def FaultCode.severity (overcurrentCount : Nat) : FaultCode → Severity
  | .supplySag => .info
  | .overcurrent => if overcurrentCount ≤ 1 then .info else .abort
  | .stressDeviation => .quality
  | .pullDrift => .quality
  | .upsetShort => .quality
  | .upsetLong => .quality
  | .upsetTimeout => .quality
  | .upsetCurrentCut => .quality
  | .trimLate => .quality
  | .trimFail => .quality
  | .flashFreeze => .abort
  | .flashLost => .abort
  | .flashTimeout => .abort
  | .noContact => .abort
  | .fluxImbalance => .abort
  | .supplyLost => .abort
  | .eStop => .abort
  | .abortOrder => .abort
  | .clampSlip => .abort
  | .sensorFault => .abort
  | .oversubscribed => .abort

/-- Stop state code (Table 9-7). -/
def StopState.code : StopState → Nat
  | .run => 0
  | .active => 1
  | .held => 2

/-- Pause state code (R165). -/
def PauseState.code : PauseState → Nat
  | .normal => 0
  | .sag => 1
  | .paused => 2
  | .resuming => 3

/-- Drive state code (Table 9-7). -/
def DriveState.code : DriveState → Nat
  | .blocked => 0
  | .ready => 1
  | .running => 2

/-- Drive mode code (Table 9-7). -/
def DriveMode.code : DriveMode → Nat
  | .off => 0
  | .preheatContact => 1
  | .flash => 2
  | .boost => 3
  | .upsetCurrent => 4

/-- Clamp state code (Table 9-7). -/
def ClampState.code : ClampState → Nat
  | .open => 0
  | .closing => 1
  | .closed => 2
  | .opening => 3

/-- Platen mode code (Table 9-7). -/
def PlatenMode.code : PlatenMode → Nat
  | .hold => 0
  | .speed _ => 1
  | .position _ => 2
  | .force _ _ => 3
  | .retract _ => 4

/-- TRU state code (Table 9-7). -/
def TruState.code : TruState → Nat
  | .retracted => 0
  | .advancing => 1
  | .atEnd => 2
  | .returning => 3
  | .fault => 4

/-- Trim result code (Tables 9-7 and 10-3). -/
def TrimResult.code : TrimResult → Nat
  | .done => 1
  | .late => 2
  | .failed => 3
  | .skipped => 4

/-- Feed stage code (Table 9-7). -/
def FeedStage.code : FeedStage → Nat
  | .approach => 0
  | .feeding => 1
  | .stepping => 2
  | .held => 3

/-- Presence code (Table 9-7); 3 is SELF. -/
def Presence.code : Presence → Nat
  | .absent => 0
  | .present => 1
  | .discordant => 2

/-- Claim state code (R165). -/
def ClaimState.code : ClaimState → Nat
  | .queued => 0
  | .drawing => 1
  | .stale => 2

/-- Weld kind code (Table 9-2). -/
def weldKindCode : WeldKind → Nat
  | .join => 0
  | .closure => 1

/-- Frame kind code (Table 8-3). -/
def FrameKind.code : FrameKind → Nat
  | .beacon => 1
  | .claim => 2
  | .yield => 3
  | .order => 4
  | .answer => 5
  | .notice => 6
  | .record => 7

/-- A BEACON, CLAIM or YIELD (R154). -/
def FrameKind.isShare : FrameKind → Bool
  | .beacon | .claim | .yield => true
  | _ => false

/-- A flag as a bit of the given place. -/
def flagBit (b : Bool) (place : Nat) : Nat := if b then 2 ^ place else 0

/-- The bit of the given place of a byte's value. -/
def bit (n place : Nat) : Bool := n / 2 ^ place % 2 == 1

/-- The flags byte of a BEACON (Table 8-4). -/
def beaconFlags (claimPresent drawing isolated aborting : Bool) : Nat :=
  flagBit claimPresent 0 + flagBit drawing 1 + flagBit isolated 2 + flagBit aborting 3

/-- The flags byte of STATUS(STATION) part 1 (R165). -/
def stationFlags (isolated aborting barred : Bool) : Nat :=
  flagBit isolated 0 + flagBit aborting 1 + flagBit barred 2

/-- The order code of what a queued order asks for (Table 9-2). -/
def QueuedKind.code : QueuedKind → Nat
  | .clamp _ => 1
  | .weld _ _ _ => 2
  | .unclamp => 3

/-- The order is a WELD. -/
def QueuedKind.isWeld : QueuedKind → Bool
  | .weld _ _ _ => true
  | _ => false

end Sys2Proof.Machine
end

