-- ==== Sys2Proof/Machine/Operands.lean ====
section
/-! DEFINITION. Bytes and layouts: multi-byte fields, the CRC, link frames (R147 to R149), ORDER bodies (R161, Table 9-2),
ANSWER, NOTICE and RECORD bodies (Tables 9-3, 9-4, 10-3, 10-4) and the settings image (Table 11-1, R178). -/

namespace Sys2Proof.Machine

/-! ### Multi-byte fields (section 5.3: most significant byte first) -/

/-- `k` bytes of `n`, most significant first. -/
def be : Nat → Nat → List Byte
  | 0, _ => []
  | k + 1, n => BitVec.ofNat 8 (n / 256 ^ k) :: be k n

/-- The number `bytes` spell, most significant first. -/
def fromBe (bytes : List Byte) : Nat := bytes.foldl (fun acc b => acc * 256 + b.toNat) 0

/-- `k` bytes of a signed number, two's complement (section 9.2). -/
def beInt (k : Nat) (x : Int) : List Byte := be k (x % (256 ^ k : Nat)).toNat

/-- All ones: an absent item (section 9.2). -/
def beAbsent (k : Nat) : List Byte := List.replicate k 255

/-- A value, or all ones where it is absent. -/
def beOpt (k : Nat) (x : Option Nat) : List Byte := x.elim (beAbsent k) (be k)

/-- A signed value, or all ones where it is absent. -/
def beOptInt (k : Nat) (x : Option Int) : List Byte := x.elim (beAbsent k) (beInt k)

/-- The field of `k` bytes at offset `o`. -/
def field (bytes : List Byte) (o k : Nat) : Nat := fromBe ((bytes.drop o).take k)

/-- The two's complement reading of one byte. -/
def signedByte (n : Nat) : Int := if n < 128 then n else (n : Int) - 256

/-! ### CRC-16 (R147): x^16 + x^12 + x^5 + 1, initial value all ones, no final inversion -/

/-- One bit of the CRC register: shift left, and take the polynomial off when a one leaves. -/
def crcShift (c : Nat) : Nat := if c < 32768 then c * 2 else (c * 2) ^^^ 0x11021

/-- One byte taken into the CRC, most significant bit first. -/
def crcByte (c : Nat) (b : Byte) : Nat :=
  crcShift (crcShift (crcShift (crcShift (crcShift (crcShift (crcShift (crcShift (c ^^^ (b.toNat * 256)))))))))

/-- The CRC of a run of bytes. -/
def crc16 (bytes : List Byte) : Nat := bytes.foldl crcByte 0xFFFF

/-! ### Frames (Table 8-2) -/

/-- Bytes 0 to 2 + L of a frame. -/
def frameHead (kind src dest : Nat) (body : List Byte) : List Byte :=
  BitVec.ofNat 8 (kind * 16 + src) :: BitVec.ofNat 8 (dest * 16) :: BitVec.ofNat 8 body.length :: body

/-- A frame as it stands on the line (R147). -/
def frameBytes (kind src dest : Nat) (body : List Byte) : List Byte :=
  frameHead kind src dest body ++ be 2 (crc16 (frameHead kind src dest body))

/-- A transmit frame as this station sends it. -/
def TxFrame.bytes (f : TxFrame) (node : Nat) : List Byte := frameBytes f.kind.code node f.dest f.body

/-- A level of the line: dominant for a 0 bit, at rest for a 1 bit (section 8.1). -/
inductive LineLevel
  | dominant | rest
  deriving DecidableEq, Repr

/-- The level of a bit. -/
def levelOf (bit : Bool) : LineLevel := if bit then .rest else .dominant

/-- The ten bit times of a byte: a dominant start bit, eight data bits least significant first, a stop bit at rest
(R147). -/
def byteLevels (b : Byte) : List LineLevel :=
  .dominant :: ([0, 1, 2, 3, 4, 5, 6, 7].map fun i => levelOf (b.getLsbD i)) ++ [.rest]

/-- A transmit frame level by level, as it is sent on the line (R147). -/
def TxFrame.levels (f : TxFrame) (node : Nat) : List LineLevel := (f.bytes node).flatMap byteLevels

/-- Bit times a frame occupies on the line (R147). -/
def TxFrame.bitTimes (f : TxFrame) (node : Nat) : Nat := (f.levels node).length

/-- What R149's checks and R150's delivery make of a frame that ended on the line. `passedOver` is a frame not for
this node, or an ANSWER, NOTICE or RECORD. -/
inductive RxFate
  | lengthError
  | crcError
  | badKind
  | foreignOrder
  | passedOver
  | share (kind : FrameKind) (src : Nat) (body : List Byte)
  | order (src : Nat) (body : List Byte)
  deriving DecidableEq, Repr

/-- The body of a frame of `n` bytes in all. -/
def frameBody (frame : List Byte) : List Byte := (frame.drop 3).take (frame.length - 5)

/-- The body length a share frame must have (R149, check 4), for kind codes 1 to 3. -/
def shareLength (kind : Nat) : Nat := if kind = 1 then 19 else if kind = 2 then 6 else 4

/-- R149's checks in their order, and R150's delivery, for a receiver of number `node`. Check 6 (own sending) is not
made here: the frame of FRAME_TRANSMITTED is the station's own. -/
def receiveFate (node : Nat) (frame : List Byte) : RxFate :=
  let kind := field frame 0 1 / 16
  let src := field frame 0 1 % 16
  let dest := field frame 1 1 / 16
  let len := field frame 2 1
  if frame.length < 5 ∨ 64 < len ∨ frame.length ≠ 5 + len then .lengthError
  else if crc16 (frame.take (3 + len)) ≠ field frame (3 + len) 2 then .crcError
  else if kind = 0 ∨ 8 ≤ kind ∨ src = 15 then .badKind
  else if kind ≤ 3 ∧ len ≠ shareLength kind then .lengthError
  else if dest ≠ node ∧ dest ≠ 15 then .passedOver
  else if kind = 4 ∧ src ≤ 7 then .foreignOrder
  else if kind = 1 then .share .beacon src (frameBody frame)
  else if kind = 2 then .share .claim src (frameBody frame)
  else if kind = 3 then .share .yield src (frameBody frame)
  else if kind = 4 then .order src (frameBody frame)
  else .passedOver

/-! ### Share frame bodies (Table 8-4) -/

/-- The 19 bytes of a BEACON body. -/
def beaconBytes (b : BeaconBody) : List Byte :=
  be 1 b.stateCode ++ be 1 b.phaseCode ++ be 1 (beaconFlags b.claimPresent b.drawing b.isolated b.aborting)
    ++ be 4 b.claimNumber ++ be 2 b.demand ++ be 4 b.clock ++ be 2 b.digest ++ be 4 b.weldCounter

/-- A BEACON body read from its bytes. -/
def beaconOfBytes (l : List Byte) : BeaconBody where
  stateCode := field l 0 1
  phaseCode := field l 1 1
  claimPresent := bit (field l 2 1) 0
  drawing := bit (field l 2 1) 1
  isolated := bit (field l 2 1) 2
  aborting := bit (field l 2 1) 3
  claimNumber := field l 3 4
  demand := field l 7 2
  clock := field l 9 4
  digest := field l 13 2
  weldCounter := field l 15 4

/-- The 6 bytes of a CLAIM body. -/
def claimBody (number demand : Nat) : List Byte := be 4 number ++ be 2 demand

/-- The 4 bytes of a YIELD body. -/
def yieldBody (number : Nat) : List Byte := be 4 number

/-! ### ORDER bodies (Tables 9-1 and 9-2, R161) -/

/-- The order code of a body, 0 when its length is 0. -/
def orderCode (body : List Byte) : Nat := field body 0 1

/-- The body length Table 9-2 gives for a code; none for a code that is not in it. -/
def orderLength (code : Nat) : Option Nat :=
  if code = 1 then some 3
  else if code = 2 then some 5
  else if code = 3 then some 2
  else if code = 16 then some 3
  else if code = 17 then some 2
  else if code = 18 then some 4
  else if code = 19 then some 5
  else if code = 20 then some 6
  else if code = 21 then some 6
  else if code = 22 then some 2
  else if code = 23 then some 2
  else none

/-- R161: the body is malformed. -/
def malformed (body : List Byte) : Bool :=
  body.length == 0
    || orderLength (orderCode body) != some body.length
    || (decide (orderCode body ≤ 3) && decide (15 < field body 1 1))
    || (orderCode body == 2 && decide (1 < field body 3 1))

/-- An ORDER body as ORQ reads it (R161, Table 9-2). -/
def parseOrder (body : List Byte) : OrderBody :=
  let code := orderCode body
  let tag := field body 1 1
  if malformed body then .malformed body
  else if code = 1 then .queued tag (.clamp (field body 2 1))
  else if code = 2 then
    .queued tag (.weld (field body 2 1) (if field body 3 1 = 0 then .join else .closure) (signedByte (field body 4 1)))
  else if code = 3 then .queued tag .unclamp
  else if code = 16 then .abort tag (field body 2 1)
  else if code = 17 then .clear tag
  else if code = 18 then .status tag (field body 2 1) (field body 3 1)
  else if code = 19 then
    .adjust tag (signedByte (field body 2 1)) (signedByte (field body 3 1)) (signedByte (field body 4 1))
  else if code = 20 then .readRecord tag (field body 2 4)
  else if code = 21 then .releaseHold tag (field body 2 4)
  else if code = 22 then .rest tag
  else .restart tag

/-- The body a panel sends for an order (Table 9-2). -/
def OrderBody.bytes : OrderBody → List Byte
  | .queued tag (.clamp sched) => be 1 1 ++ be 1 tag ++ be 1 sched
  | .queued tag (.weld sched kind neutral) => be 1 2 ++ be 1 tag ++ be 1 sched ++ be 1 (weldKindCode kind) ++ beInt 1 neutral
  | .queued tag .unclamp => be 1 3 ++ be 1 tag
  | .abort tag target => be 1 16 ++ be 1 tag ++ be 1 target
  | .clear tag => be 1 17 ++ be 1 tag
  | .status tag selector part => be 1 18 ++ be 1 tag ++ be 1 selector ++ be 1 part
  | .adjust tag trip speed force => be 1 19 ++ be 1 tag ++ beInt 1 trip ++ beInt 1 speed ++ beInt 1 force
  | .readRecord tag weldNo => be 1 20 ++ be 1 tag ++ be 4 weldNo
  | .releaseHold tag weldNo => be 1 21 ++ be 1 tag ++ be 4 weldNo
  | .rest tag => be 1 22 ++ be 1 tag
  | .restart tag => be 1 23 ++ be 1 tag
  | .malformed body => body

/-! ### ANSWER and NOTICE bodies (Tables 9-3 and 9-4) -/

/-- Result codes of an ANSWER (Table 9-3). -/
def resultAccepted : Nat := 0
/-- See resultAccepted. -/
def resultRefused : Nat := 1
/-- See resultAccepted. -/
def resultData : Nat := 2

/-- An ANSWER body: order code, tag, result, reason, data. -/
def answerBody (code tag result : Nat) (reason : Reason) (data : List Byte) : List Byte :=
  be 1 code ++ be 1 tag ++ be 1 result ++ be 1 reason.code ++ data

/-- A DONE notice body. -/
def doneBody (tag code : Nat) (outcome : OrderOutcome) (reason : Reason) (weldNo : Option Nat) : List Byte :=
  be 1 1 ++ be 1 tag ++ be 1 code ++ be 1 outcome.code ++ be 1 reason.code ++ beOpt 4 weldNo

/-- A STOP notice body. -/
def stopBody (stop : StopState) (station : StationState) (phase : Option WeldPhase) (aborting : Bool) : List Byte :=
  be 1 2 ++ be 1 stop.code ++ be 1 station.code ++ be 1 (phaseCode phase) ++ be 1 (flagBit aborting 0)

/-! ### Samples of a half-cycle (R51) -/

/-- Samples CDR takes in every half-cycle (R51). -/
def samplesPerHalf : Nat := 32

/-! ### RECORD bodies (Tables 10-3 and 10-4) -/

/-- The presence mask: bit i set when the i-th of the 20 fields is present (Table 10-3). -/
def presenceMask (present : List Bool) : Nat :=
  present.foldr (fun b acc => (if b then 1 else 0) + 2 * acc) 0

/-- An optional field of a RECORD body: an absent one is sent as 0. -/
def beZero (k : Nat) (x : Option Nat) : List Byte := be k (x.getD 0)

/-- An optional signed field of a RECORD body. -/
def beZeroInt (k : Nat) (x : Option Int) : List Byte := beInt k (x.getD 0)

/-- Which of the 20 fields from offset 14 to offset 49 are present, in table order. -/
def WeldRecord.present (r : WeldRecord) : List Bool :=
  [r.schedule.isSome, r.kind.isSome, r.railTemp.isSome, r.neutral.isSome, r.pullTarget.isSome, r.gap.isSome,
    r.preCyclesDone.isSome, r.preEnergy.isSome, r.flashScale.isSome, r.burnOff.isSome, r.flashTime.isSome,
    r.shortCount.isSome, r.boostDistance.isSome, r.upsetDistance.isSome, r.upsetPeak.isSome,
    r.upsetCurrentTime.isSome, r.pullAtHoldEnd.isSome, r.trimResult.isSome, r.coolingTime.isSome,
    r.claimWaitTime.isSome]

/-- RECORD body, part 1 (Table 10-3, 55 bytes). A negative value is sent in two's complement in every field, and a value
larger than its field modulo the field's size (assumption log 34). -/
def recordPart1 (r : WeldRecord) (held : Bool) (tag : Nat) : List Byte :=
  be 1 1 ++ be 1 tag ++ be 4 r.weldNo ++ be 1 (if held then 3 else 2) ++ be 1 r.outcome.code ++ be 1 r.cause.code
    ++ be 1 r.station ++ be 1 (phaseCode r.phase) ++ be 3 (presenceMask r.present)
    ++ beZero 1 r.schedule ++ beZero 1 (r.kind.map weldKindCode) ++ beZeroInt 1 r.railTemp ++ beZeroInt 1 r.neutral
    ++ beZero 2 r.pullTarget ++ beZeroInt 2 r.gap ++ beZero 1 r.preCyclesDone ++ beZero 4 r.preEnergy
    ++ beZero 1 r.flashScale ++ beZeroInt 2 r.burnOff ++ beZero 4 r.flashTime ++ beZero 2 r.shortCount
    ++ beZeroInt 2 r.boostDistance ++ beZeroInt 2 r.upsetDistance ++ beZeroInt 2 r.upsetPeak
    ++ beZero 2 r.upsetCurrentTime ++ beZeroInt 2 r.pullAtHoldEnd ++ beZero 1 (r.trimResult.map TrimResult.code)
    ++ beZero 2 r.coolingTime ++ beZero 4 r.claimWaitTime ++ be 1 r.faults.length ++ be 1 r.overflow

/-- The 7 bytes of one fault entry (Table 10-4). -/
def FaultEntry.bytes (e : FaultEntry) : List Byte :=
  be 1 e.code.code ++ be 1 e.severity.code ++ be 1 e.phase.code ++ be 4 e.offsetMs

/-- RECORD body, part 2 (Table 10-4, 8 + 7n bytes). -/
def recordPart2 (r : WeldRecord) (tag : Nat) : List Byte :=
  be 1 2 ++ be 1 tag ++ be 4 r.weldNo ++ be 1 r.faults.length ++ be 1 r.overflow ++ r.faults.flatMap FaultEntry.bytes

/-! ### The settings image (Table 11-1, R178) -/

/-- A value lies within a range, both ends included. -/
def inRange (v : Nat) (r : Nat × Nat) : Bool := decide (r.1 ≤ v) && decide (v ≤ r.2)

/-- Every value lies within the range beside it. -/
def allInRange (vs : List Nat) (rs : List (Nat × Nat)) : Bool := (vs.zip rs).all fun p => inRange p.1 p.2

/-- `n` two-byte values from offset `o`. -/
def words (image : List Byte) (o : Nat) : Nat → List Nat
  | 0 => []
  | n + 1 => field image o 2 :: words image (o + 2) n

/-- A part of `n` bytes at offset `o` is followed by its CRC. -/
def crcMatches (image : List Byte) (o n : Nat) : Bool := crc16 ((image.drop o).take n) == field image (o + n) 2

/-- Check 1: the header (offsets 0 to 11). -/
def headerOk (image : List Byte) : Bool :=
  crcMatches image 0 10 && field image 0 2 == 1 && field image 2 1 == 1 && field image 3 1 == 8
    && field image 4 2 == 11 && field image 6 2 == 66 && field image 8 2 == 80

/-- The shared section (offsets 12 to 22). -/
def sharedOf (image : List Byte) : SharedSettings where
  capacityKva := field image 12 2
  beaconMs := field image 14 2
  lossCount := field image 16 1
  settleMs := field image 17 2
  drainS := field image 19 2
  bitRateCode := field image 21 1
  slotBits := field image 22 1

/-- Check 2: the shared section (ranges of Tables 7-1 and 8-1). -/
def sharedOk (image : List Byte) : Bool :=
  let v := sharedOf image
  crcMatches image 12 11 && inRange v.capacityKva (50, 9999) && inRange v.beaconMs (50, 500)
    && inRange v.lossCount (3, 8) && inRange v.settleMs (20, 500) && inRange v.drainS (10, 600)
    && inRange v.bitRateCode (0, 2) && inRange v.slotBits (8, 64)

/-- The digest: the CRC-16 of the shared section's 11 bytes (R179). -/
def digestOf (image : List Byte) : Nat := crc16 ((image.drop 12).take 11)

/-- The ranges of the 33 local settings, in the order of Table 11-1. -/
def localRanges : List (Nat × Nat) :=
  [(1000, 3000), (300, 2500), (500, 3000), (5, 50), (10, 200), (1000, 30000), (5, 100), (50, 500), (2000, 60000),
    (1000, 20000), (20, 200), (50, 95), (5, 200), (10, 2000), (50, 300), (2, 20), (2, 20), (100, 800)]
  ++ [(0, 25), (0, 64), (200, 5000), (10, 100), (5, 200)]
  ++ [(100, 900), (5, 100), (1, 50), (100, 5000), (10, 200)]
  ++ [(1000, 15000), (60, 900), (0, 120), (50, 1000), (0, 900)]

/-- The local section from its 33 values. -/
def localOf (v : List Nat) : LocalSettings where
  strokeFwd := v.getD 0 0
  platenMaxKn := v.getD 1 0
  forceSpanKn := v.getD 2 0
  posJump := v.getD 3 0
  moveSpeed := v.getD 4 0
  moveTimeoutMs := v.getD 5 0
  touchSpeed := v.getD 6 0
  touchReserve := v.getD 7 0
  touchTimeoutMs := v.getD 8 0
  clampTimeoutMs := v.getD 9 0
  clampRelKn := v.getD 10 0
  slipPct := v.getD 11 0
  slipMs := v.getD 12 0
  shoeLimitUohm := v.getD 13 0
  pullCoef := v.getD 14 0
  pullTolPct := v.getD 15 0
  pullMinBand := v.getD 16 0
  pullSettleMs := v.getD 17 0
  blankPct := v.getD 18 0
  rampCycles := v.getD 19 0
  ocLimitA := v.getD 20 0
  ocDeglitchUs := v.getD 21 0
  contactKa := v.getD 22 0
  sagV := v.getD 23 0
  sagHystV := v.getD 24 0
  sagMs := v.getD 25 0
  pauseMaxMs := v.getD 26 0
  abortRetract := v.getD 27 0
  trimStrokeMs := v.getD 28 0
  recoverS := v.getD 29 0
  idleMin := v.getD 30 0
  wakeMs := v.getD 31 0
  claimWaitS := v.getD 32 0

/-- Check 3: the local section (offsets 25 to 90). -/
def localOk (image : List Byte) : Bool :=
  let v := words image 25 33
  let l := localOf v
  crcMatches image 25 66 && allInRange v localRanges
    && [0, 5, 10, 15, 20, 25].contains l.blankPct && [10, 25, 50, 100].contains l.ocDeglitchUs
    && decide (l.touchReserve < l.strokeFwd)

/-- The ranges of the 40 schedule fields (Table 1-2, in stored units). -/
def scheduleRanges : List (Nat × Nat) :=
  [(10, 999), (500, 2000), (200, 1500), (0, 24), (200, 4000), (100, 4000), (10, 100), (50, 2000), (0, 9999)]
  ++ [(50, 2000), (1, 20), (2, 40), (30, 300), (10, 999), (1, 99), (2, 50), (2, 30), (2, 20), (100, 2000), (4, 256),
      (100, 200), (200, 5000), (10, 300)]
  ++ [(0, 80), (50, 2000), (5, 60)]
  ++ [(100, 1500), (100, 600), (5, 60), (20, 250), (20, 250), (200, 3000)]
  ++ [(50, 1500), (1, 30), (0, 1), (5, 90), (0, 900), (0, 10), (0, 20), (0, 10)]

/-- A schedule from its 40 values. -/
def scheduleOf (v : List Nat) : Schedule where
  demandKva := v.getD 0 0
  carrierHz := v.getD 1 0
  clampForce := v.getD 2 0
  preCycles := v.getD 3 0
  preContactMs := v.getD 4 0
  preOpenMs := v.getD 5 0
  preOpenDist := v.getD 6 0
  preTripA := v.getD 7 0
  preEnergyRef := v.getD 8 0
  flashTripA := v.getD 9 0
  flashV0 := v.getD 10 0
  flashV1 := v.getD 11 0
  flashBurnoff := v.getD 12 0
  shortKa := v.getD 13 0
  shortV := v.getD 14 0
  shortDeglitchMs := v.getD 15 0
  retractStep := v.getD 16 0
  streakLimit := v.getD 17 0
  streakResetMs := v.getD 18 0
  openCycles := v.getD 19 0
  openBoostPct := v.getD 20 0
  flashLostMs := v.getD 21 0
  flashTimeS := v.getD 22 0
  boostDist := v.getD 23 0
  boostTripA := v.getD 24 0
  boostSpeed := v.getD 25 0
  upsetForce := v.getD 26 0
  upsetSpeed := v.getD 27 0
  upsetCurDist := v.getD 28 0
  upsetMin := v.getD 29 0
  upsetMax := v.getD 30 0
  upsetTimeMs := v.getD 31 0
  holdForce := v.getD 32 0
  holdS := v.getD 33 0
  trimEnable := v.getD 34 0
  trimWindowS := v.getD 35 0
  coolS := v.getD 36 0
  adjTripPct := v.getD 37 0
  adjSpeedPct := v.getD 38 0
  adjForcePct := v.getD 39 0

/-- The values of schedule `k` (offset 93 + 82k). -/
def scheduleWords (image : List Byte) (k : Nat) : List Nat := words image (93 + 82 * k) 40

/-- R18: the ranges and cross-field conditions of one schedule. -/
def scheduleFieldsOk (v : List Nat) : Bool :=
  let c := scheduleOf v
  allInRange v scheduleRanges && [4, 16, 64, 256].contains c.openCycles && decide (c.flashV0 ≤ c.flashV1)
    && decide (c.upsetMin ≤ c.upsetMax) && decide (c.upsetCurDist ≤ c.upsetMin) && decide (c.holdForce ≤ c.upsetForce)

/-- Check 4, for schedule `k`. -/
def scheduleOk (image : List Byte) (k : Nat) : Bool :=
  crcMatches image (93 + 82 * k) 80 && scheduleFieldsOk (scheduleWords image k)

/-- The cross-checks of Table 3-1 between the local section and one schedule. -/
def crossOk (l : LocalSettings) (c : Schedule) : Bool :=
  decide (c.preTripA < l.ocLimitA) && decide (c.boostTripA < l.ocLimitA)
    && decide (roundDiv (addPct c.flashTripA c.adjTripPct) 100 < l.ocLimitA) && decide (l.contactKa < c.shortKa)

/-- The numbers of the schedules. -/
def scheduleNumbers : List Nat := [0, 1, 2, 3, 4, 5, 6, 7]

/-- The settings an image spells. -/
def settingsOf (image : List Byte) : Settings where
  shared := sharedOf image
  loc := localOf (words image 25 33)
  schedules := scheduleNumbers.map fun k => scheduleOf (scheduleWords image k)

/-- Check 5: across sections. -/
def acrossOk (image : List Byte) : Bool := (settingsOf image).schedules.all (crossOk (settingsOf image).loc)

/-- Checks 1 and 2 pass: the shared section may be used for the link (R146, R179). -/
def sharedUsable (image : List Byte) : Bool := headerOk image && sharedOk image

/-- Every check of R178 passes, on an image of 749 bytes. -/
def imageOk (image : List Byte) : Bool :=
  image.length == 749 && sharedUsable image && localOk image && scheduleNumbers.all (scheduleOk image) && acrossOk image

/-- The bit rate of a code (Table 11-1), kbit/s. -/
def bitRateOf (code : Nat) : Nat := if code = 0 then 125 else if code = 1 then 250 else 500

end Sys2Proof.Machine
end

