-- ==== Sys2Proof/Machine/Link.lean ====
section
/-! DEFINITION. LKC, the Link Controller (chapter 8): the transmit queue with its two parts, the send slot, the medium
access wait and the rest, beacons, and what the report of a frame's sending does in the block that queued it. -/

namespace Sys2Proof.Machine

/-! ### Medium access (R151, R152) -/

/-- Length of a medium access wait, in bit times (R151), longer while the rest is in force (R152). -/
def waitLength (node slotBits : Nat) (rest : Bool) : Nat :=
  20 + (node + 1) * slotBits + (if rest then 16 * slotBits else 0)

/-- The wait is run whenever there is a frame to send and the line is free for it; one already under way keeps its
length (R151, R152). -/
def armWait (s : State) : State :=
  if s.lkc.wait.isNone && !s.lkc.sending && !s.lkc.lineBusy && (s.lkc.slot.isSome || !s.lkc.queue.isEmpty) then
    { s with lkc.wait := some (waitLength s.node s.lkc.slotBits s.lkc.rest) }
  else s

/-- A frame of another node ended on the line: the line is at rest again and a new wait begins (R151). -/
def lineFree (s : State) : State := armWait { s with lkc.lineBusy := false }

/-! ### Reports to the block that queued a frame (table of R153) -/

/-- The settle window of the own claim starts (R131), unless it has started or run out already. -/
def startSettle (s : State) : State :=
  if s.sht.settleTimer.isNone && !s.sht.settleFlag then { s with sht.settleTimer := some s.shr.settleMs } else s

/-- The own claim holds this number. -/
def ownClaimIs (s : State) (number : Nat) : Bool := s.ownClaim.any (·.number == number)

/-- CLAIM transmitted (R131). -/
def claimTransmitted (number : Nat) (s : State) : State :=
  if ownClaimIs s number then startSettle s else s

/-- CLAIM dropped: the window starts at the first beacon naming the claim, or now if one has been sent (R131). -/
def claimDropped (number : Nat) (s : State) : State :=
  if ownClaimIs s number then
    if s.sht.beaconNamed then startSettle s else { s with sht.claimDropped := true }
  else s

/-- A beacon was transmitted: the first one naming a claim whose CLAIM was dropped starts its window (R131). -/
def beaconTransmitted (names : Option Nat) (s : State) : State :=
  match names with
  | none => s
  | some n =>
    if ownClaimIs s n then
      if s.sht.claimDropped then startSettle { s with sht.beaconNamed := true }
      else { s with sht.beaconNamed := true }
    else s

/-- The read transfer of that number ends (R175). -/
def endRead (read : Nat) (l : List ReadTransfer) : List ReadTransfer := l.eraseP (·.id == read)

/-- Part 2 of a read transfer has been reported transmitted or dropped: the transfer ends (R175). -/
def recordReported (part read : Nat) (s : State) : State :=
  if part = 2 then { s with wrs.reads := endRead read s.wrs.reads } else s

/-- What a transmission report means to the block that queued the frame. -/
def reportTransmitted (p : Purpose) (s : State) : State :=
  match p with
  | .beacon names => beaconTransmitted names s
  | .claim n => claimTransmitted n s
  | .yield _ => s
  | .answer => s
  | .restartAnswer => { s with orq.restartDue := true }
  | .readAnswer => s
  | .doneNotice => s
  | .notice => s
  | .recordPart part read => recordReported part read s

/-- What a drop report means to the block that queued the frame. -/
def reportDropped (p : Purpose) (s : State) : State :=
  match p with
  | .beacon _ => s
  | .claim n => claimDropped n s
  | .yield _ => s
  | .answer => s
  | .restartAnswer => { s with orq.restartDue := true }
  | .readAnswer => s
  | .doneNotice => s
  | .notice => s
  | .recordPart part read => recordReported part read s

/-! ### Placing a non-share frame (R154, R156) -/

/-- The first read transfer in this stage goes on to the next. -/
def advanceRead (frm into : ReadStage) : List ReadTransfer → List ReadTransfer
  | [] => []
  | r :: l => if r.stage == frm then { r with stage := into } :: l else r :: advanceRead frm into l

/-- The head order leaves the order queue when its DONE notice has been placed (R163). -/
def popEnded (q : List QueuedOrder) : List QueuedOrder :=
  match q with
  | [] => []
  | o :: l => if o.status == .ended then l else o :: l

/-- What it means to the block that made a frame that it stands in the transmit queue. -/
def placed (p : Purpose) (s : State) : State :=
  match p with
  | .beacon _ => s
  | .claim _ => s
  | .yield _ => s
  | .answer => s
  | .restartAnswer => s
  | .readAnswer => { s with wrs.reads := advanceRead .answering .part1 s.wrs.reads }
  | .doneNotice => { s with orq.queue := popEnded s.orq.queue }
  | .notice => s
  | .recordPart part _ =>
    if part = 1 then { s with wrs.reads := advanceRead .part1Waiting .part2 s.wrs.reads }
    else { s with wrs.reads := advanceRead .part2Waiting .part2Placed s.wrs.reads }

/-- Entries of the transmit queue (R154). -/
def queueSize : Nat := 6

/-- A non-share frame enters the queue at its end, or waits behind the frames already waiting (R156, R168). -/
def sendOther (f : TxFrame) (s : State) : State :=
  if s.lkc.queue.length < queueSize ∧ s.lkc.waiters = [] then
    armWait (placed f.purpose { s with lkc.queue := s.lkc.queue ++ [f] })
  else { s with lkc.waiters := s.lkc.waiters ++ [f] }

/-- A frame of ORQ: its waiting ones form the outgoing wait list (R160). -/
def ofOrq (f : TxFrame) : Bool := f.kind != .record

/-- The outgoing wait list is empty. -/
def noOutgoing (s : State) : Bool := !s.lkc.waiters.any ofOrq

/-! ### Placing a share frame (R154, R156) -/

/-- A share frame stands behind the last share frame, ahead of every other (R154). -/
def insertShare (f : TxFrame) (q : List TxFrame) : List TxFrame :=
  q.takeWhile (·.kind.isShare) ++ f :: q.dropWhile (·.kind.isShare)

/-- A CLAIM or YIELD, whose entry a share frame may take (R156). -/
def claimOrYield (f : TxFrame) : Bool := f.kind == .claim || f.kind == .yield

/-- Which frame gives up its entry in a full queue: the newest non-share frame, or the oldest CLAIM or YIELD when all
are share frames (R156). -/
def victim (q : List TxFrame) : Option TxFrame :=
  if q.all (·.kind.isShare) then q.find? claimOrYield else q.getLast?

/-- The queue without that frame. -/
def withoutVictim (q : List TxFrame) : List TxFrame :=
  if q.all (·.kind.isShare) then q.eraseP claimOrYield else q.dropLast

/-- A share frame enters the queue, taking another frame's entry if the queue is full (R154, R156). -/
def sendShare (f : TxFrame) (s : State) : State :=
  if s.lkc.queue.length < queueSize then
    armWait { s with lkc.queue := insertShare f s.lkc.queue }
  else
    match victim s.lkc.queue with
    | none => s
    | some v =>
      reportDropped v.purpose
        { s with
          lkc.queue := insertShare f (withoutVictim s.lkc.queue)
          lkc.queueFullDrops := bump16 s.lkc.queueFullDrops }

/-! ### Beacons (R148, R155) -/

/-- The body of a beacon built from the state at this moment (R133, R148). -/
def beaconNow (s : State) : BeaconBody where
  stateCode := s.wsq.station.code
  phaseCode := phaseCode s.wsq.phase
  claimPresent := s.ownClaim.isSome
  drawing := s.drawing
  isolated := s.wsq.isolated
  aborting := s.aborting
  claimNumber := (s.ownClaim.map (·.number)).getD 0
  demand := (s.ownClaim.map (·.demand)).getD 0
  clock := s.sht.clock
  digest := s.sht.ownDigest
  weldCounter := s.wrs.counter

/-- A beacon frame built at this moment. -/
def beaconFrame (s : State) : TxFrame where
  kind := .beacon
  dest := 15
  body := beaconBytes (beaconNow s)
  purpose := .beacon (s.ownClaim.map (·.number))

/-- A beacon stands in the queue. -/
def isBeacon (f : TxFrame) : Bool := f.kind == .beacon

/-- A beacon is to be queued: it takes the place of one that waits, and is queued otherwise (R155). A beacon in the queue
is replaced first (assumption log 16). -/
def queueBeacon (s : State) : State :=
  if s.lkc.queue.any isBeacon then
    { s with lkc.queue := s.lkc.queue.map fun f => if isBeacon f then beaconFrame s else f }
  else if s.lkc.slot.any isBeacon && !s.lkc.sending then
    { s with lkc.slot := some (beaconFrame s) }
  else sendShare (beaconFrame s) s

/-! ### ORQ's and STL's frames -/

/-- An ANSWER to a panel (R160, Table 9-3). -/
def sendAnswer (dest code tag result : Nat) (reason : Reason) (data : List Byte) (p : Purpose) (s : State) : State :=
  sendOther ⟨.answer, dest, answerBody code tag result reason data, p⟩ s

/-- A refusal. -/
def refuse (dest code tag : Nat) (reason : Reason) (s : State) : State :=
  sendAnswer dest code tag resultRefused reason [] .answer s

/-- An acceptance. -/
def accept (dest code tag : Nat) (s : State) : State := sendAnswer dest code tag resultAccepted .none [] .answer s

/-- A STOP notice at a change of stop state (R111, R168); not while LOADING. -/
def stopNotice (s : State) : State :=
  if s.wsq.station = .loading then s
  else sendOther ⟨.notice, 15, stopBody s.stl.stop s.wsq.station s.wsq.phase s.aborting, .notice⟩ s

end Sys2Proof.Machine
end

