-- ==== Sys2Proof/Machine/Store.lean ====
section
/-! DEFINITION. WRS, the Weld Record Store (chapter 10): the reservation rule, the nonvolatile updates, the working
record with its fault list, and looking up, reading and releasing stored records. -/

namespace Sys2Proof.Machine

/-! ### Slots -/

/-- Number of slots (section 10.1). -/
def slotCount : Nat := 48

/-- The reservation rule may choose the slot: EMPTY or VALID (R172). -/
def Slot.free : Slot → Bool
  | .empty => true
  | .reserved => false
  | .valid _ => true
  | .held _ => false

/-- The record a slot shows, with its held state; none from an EMPTY or RESERVED slot (Table 10-1). -/
def Slot.readable : Slot → Option (WeldRecord × Bool)
  | .empty => none
  | .reserved => none
  | .valid r => some (r, false)
  | .held r => some (r, true)

/-- The slot is RESERVED. -/
def Slot.isReserved : Slot → Bool
  | .reserved => true
  | _ => false

/-- The slot is VALID_HELD. -/
def Slot.isHeld : Slot → Bool
  | .held _ => true
  | _ => false

/-- The slot is EMPTY. -/
def Slot.isEmpty : Slot → Bool
  | .empty => true
  | _ => false

/-- Slot numbers in circular order from the one after `newest` (R172). -/
def circular (newest : Nat) : List Nat := (List.range slotCount).map fun k => (newest + 1 + k) % slotCount

/-- The reservation rule: the first slot after the newest index, in circular order, that is EMPTY or VALID (R172). -/
def reservation (w : Wrs) : Option Nat :=
  (circular w.newest).find? fun i => (w.slots.getD i .reserved).free

/-- CHECK test 5: the rule finds a slot and the weld counter is below its top value (R170, R172). -/
def slotAvailable (w : Wrs) : Bool := (reservation w).isSome && decide (w.counter < top32)

/-- Number of the RESERVED slot. -/
def reservedSlot (w : Wrs) : Option Nat := w.slots.findIdx? Slot.isReserved

/-! ### The working record (R23, R171) -/

/-- A record with every field absent, for a weld number and a station (R171, R181). -/
def WeldRecord.blank (weldNo station : Nat) : WeldRecord where
  weldNo := weldNo
  station := station
  schedule := none
  kind := none
  railTemp := none
  neutral := none
  pullTarget := none
  gap := none
  preCyclesDone := none
  preEnergy := none
  flashScale := none
  burnOff := none
  flashTime := none
  shortCount := none
  boostDistance := none
  upsetDistance := none
  upsetPeak := none
  upsetCurrentTime := none
  pullAtHoldEnd := none
  trimResult := none
  coolingTime := none
  claimWaitTime := none
  phase := none
  cause := .none
  outcome := .good
  faults := []
  overflow := 0

/-- The record as it is opened: from the order and CHECK, from TOUCH, and from CLAIM_WAIT (R23). -/
def openedRecord (s : State) (weldNo : Nat) : WeldRecord :=
  { WeldRecord.blank weldNo s.node with
    schedule := some s.wsq.sched
    kind := some s.wsq.kind
    railTemp := s.wsq.railTemp
    neutral := if s.wsq.kind = .closure then some s.wsq.neutral else none
    pullTarget := s.pcu.pullTarget
    gap := s.pcu.gap
    claimWaitTime := some (s.now - s.wsq.claimWaitAt) }

/-- The one nonvolatile update of R23, and the working record it opens: the counter rises, the chosen slot becomes
RESERVED, the marker names the weld and the phase being entered. -/
def weldNumberUpdate (phase : WeldPhase) (s : State) : State :=
  let n := s.wrs.counter + 1
  { s with
    wrs.counter := n
    wrs.slots := ((reservation s.wrs).map fun i => s.wrs.slots.set i .reserved).getD s.wrs.slots
    wrs.marker := some (n, phase)
    wrs.working := some ⟨openedRecord s n, s.now, false⟩
    wsq.weldNo := some n }

/-- The marker is rewritten with the phase entered (R24). -/
def rewriteMarker (phase : WeldPhase) (s : State) : State :=
  { s with wrs.marker := s.wrs.marker.map fun m => (m.1, phase) }

/-- A change of the working record, if one is open. -/
def onRecord (f : WeldRecord → WeldRecord) (s : State) : State :=
  { s with wrs.working := s.wrs.working.map fun w => { w with record := f w.record } }

/-- Entries a fault list holds at most (R28). -/
def faultListSize : Nat := 6

/-- A fault is filed in the working record: an entry of its list, or the overflow count when the list is full (R28,
R171). -/
def fileEntry (code : FaultCode) (severity : Severity) (phase : WeldPhase) (s : State) : State :=
  { s with
    wrs.working := s.wrs.working.map fun w =>
      { w with
        quality := w.quality || severity == .quality
        record :=
          if w.record.faults.length < faultListSize then
            { w.record with faults := w.record.faults ++ [⟨code, severity, phase, s.now - w.openedAt⟩] }
          else { w.record with overflow := bumpTo 255 w.record.overflow } } }

/-! ### Writing (R173, R181) -/

/-- A write into the RESERVED slot starts; it takes at most 50 ms. -/
def startWrite (r : WeldRecord) (s : State) : State :=
  { s with wrs.writing := some r, wrs.writeTimer := some 50 }

/-- The INTERRUPTED record of a set marker (R181). -/
def interruptedRecord (node weldNo : Nat) (phase : WeldPhase) : WeldRecord :=
  { WeldRecord.blank weldNo node with phase := some phase, outcome := .interrupted }

/-- At the start of the listening window a set marker makes WRS write the INTERRUPTED record (R181). -/
def settleMarker (s : State) : State :=
  match s.wrs.marker with
  | none => s
  | some (n, phase) => startWrite (interruptedRecord s.node n phase) s

/-- The slot a written record makes: VALID if GOOD, VALID_HELD otherwise (R173). -/
def writtenSlot (r : WeldRecord) : Slot := if r.outcome = .good then .valid r else .held r

/-- Write completion: one nonvolatile update of slot, newest index and marker; the working record is discarded (R173,
R171). -/
def completeWrite (r : WeldRecord) (s : State) : State :=
  let i := (reservedSlot s.wrs).getD slotCount
  { s with
    wrs.slots := s.wrs.slots.set i (writtenSlot r)
    wrs.newest := (reservedSlot s.wrs).getD s.wrs.newest
    wrs.marker := none
    wrs.writing := none
    wrs.writeTimer := none
    wrs.working := none }

/-! ### Looking up (R175, R176) -/

/-- The record of a weld number, in a VALID or VALID_HELD slot; 0 means the slot at the newest index (R175). -/
def lookup (w : Wrs) (weldNo : Nat) : Option (WeldRecord × Bool) :=
  if weldNo = 0 then (w.slots.getD w.newest .empty).readable
  else (w.slots.filterMap Slot.readable).find? fun p => p.1.weldNo == weldNo

/-- A held slot of that weld number becomes VALID (R176). -/
def releaseSlot (weldNo : Nat) : Slot → Slot
  | .held r => if r.weldNo = weldNo then .valid r else .held r
  | x => x

/-- RELEASE_HOLD on the slots: one nonvolatile update (R176). -/
def releaseHeld (weldNo : Nat) (s : State) : State :=
  { s with wrs.slots := s.wrs.slots.map (releaseSlot weldNo) }

/-! ### STATUS(RECORDS) (R169) -/

/-- Newest weld number. -/
def newestWeld (w : Wrs) : Option Nat := (lookup w 0).map (·.1.weldNo)

/-- Held count. -/
def heldCount (w : Wrs) : Nat := w.slots.countP Slot.isHeld

/-- Empty count. -/
def emptyCount (w : Wrs) : Nat := w.slots.countP Slot.isEmpty

end Sys2Proof.Machine
end

