-- ==== Sys2Proof/Machine/Platen.lean ====
section
/-! DEFINITION. PCU, the Platen and Clamp Unit (chapter 2): platen mode requests, the contact moves, the electrode contact
check, the clamps with slip detector and top-up, the pull, and the millisecond sample. -/

namespace Sys2Proof.Machine

/-! ### Platen mode requests (R38 to R41) -/

/-- A position kept within the stroke limits (R39). -/
def strokeClip (s : State) (x : Int) : Int := clampInt 0 s.loc.strokeFwd x

/-- A commanded position kept within the stroke limits, in thousandths of 0.1 mm (R39). -/
def commandClip (s : State) (x : Int) : Int := clampInt 0 (s.loc.strokeFwd * 1000) x

/-- The commanded position formed at a platen position (R39); without settings only the rear limit is known (assumption
log 10). -/
def formCommand (s : State) (position : Int) : Int :=
  if s.configured then commandClip s (position * 1000) else max 0 (position * 1000)

/-- A mode request replaces the running mode with its setpoint, its movement timer and any contact move (R38). While STL
is ACTIVE or HELD the platen stays in HOLD (R38). -/
def platenMode (m : PlatenMode) (s : State) : State :=
  { s with
    pcu.mode := if s.stl.stop = .run then m else .hold
    pcu.commanded := formCommand s s.pcu.position
    pcu.moveTimer := none
    pcu.nearCount := 0
    pcu.forceReported := false
    pcu.contactMove := .none
    pcu.contactSense := false
    pcu.contactRun := 0
    pcu.contactFromStart := false
    pcu.touchTimer := none }

/-- HOLD (Table 2-2). -/
def platenHold (s : State) : State := platenMode .hold s

/-- A POSITION or RETRACT request runs with the movement timer (R40). -/
def platenMove (m : PlatenMode) (s : State) : State :=
  if s.stl.stop = .run then { platenMode m s with pcu.moveTimer := some s.loc.moveTimeoutMs } else platenMode m s

/-- POSITION toward a target, clipped to the stroke limits (R39, R40). -/
def platenPosition (target : Int) (s : State) : State := platenMove (.position (strokeClip s target)) s

/-- RETRACT by a distance from the present position, shortened at the rear limit (R39, R40). -/
def platenRetract (distance : Nat) (s : State) : State :=
  platenMove (.retract (strokeClip s (s.pcu.position - distance))) s

/-- SPEED at a signed speed. -/
def platenSpeed (v : Int) (s : State) : State := platenMode (.speed v) s

/-- The total target of a FORCE request: target plus force basis, clipped to the platen maximum (R41). -/
def totalTarget (s : State) (target : Nat) : Int := min (target + s.pcu.forceBasis) s.loc.platenMaxKn

/-- FORCE with a target and a speed limit (R41). -/
def platenForce (target limit : Nat) (s : State) : State :=
  { platenMode (.force (totalTarget s target) limit) s with pcu.highForce := s.pcu.force }

/-- FORCE requested again after a stop: the highest force seen so far is kept (R96, R120). -/
def platenForceAgain (target limit : Nat) (s : State) : State :=
  platenMode (.force (totalTarget s target) limit) s

/-! ### Contact moves (R44, R75, R79) -/

/-- The touch move, or the advance to contact: SPEED at touch_speed with the contact sense on and its timer. -/
def startContactMove (m : ContactMove) (s : State) : State :=
  { platenSpeed s.loc.touchSpeed s with
    pcu.contactMove := m
    pcu.contactSense := true
    pcu.contactFromStart := true
    pcu.touchTimer := some s.loc.touchTimeoutMs
    pcu.touchStart := if m = .touch then s.pcu.position else s.pcu.touchStart }

/-- Samples of contact a contact report needs (R44). -/
def contactSamples : Nat := 5

/-! ### Electrode contact check (R43) -/

/-- The check starts with LEFT_FIXED; the last electrode result is replaced. -/
def startShoes (s : State) : State :=
  { s with
    pcu.shoe := some 0
    pcu.shoeTimer := some 50
    pcu.resistances := [none, none, none, none]
    pcu.failedShoes := [false, false, false, false] }

/-- The check is stopped: test current off, shoes not yet measured stay absent. -/
def stopShoes (s : State) : State := { s with pcu.shoe := none, pcu.shoeTimer := none }

/-! ### Clamps (R32 to R37) -/

/-- The slip detector is armed. -/
def armSlip (s : State) : State := { s with pcu.slip := .armed, pcu.slipCount := 0 }

/-- A clamp movement starts, with a fresh clamp timer. -/
def clampMove (state : ClampState) (valve : ClampValve) (reversal : Bool) (s : State) : State :=
  { s with
    pcu.clamp := some state
    pcu.clampValve := valve
    pcu.clampTimer := some s.loc.clampTimeoutMs
    pcu.stopped := false
    pcu.reversal := reversal
    pcu.topUp := false
    pcu.slip := .disarmed
    pcu.slipCount := 0 }

/-- A close request (table of R33). -/
def closeRequest (reversal : Bool) (s : State) : State :=
  match s.pcu.clamp with
  | some .open => clampMove .closing .close reversal s
  | some .opening => clampMove .closing .close reversal s
  | some .closing => if s.pcu.stopped then clampMove .closing .close reversal s else s
  | some .closed => s
  | none => s

/-- An open request (table of R34). -/
def openRequest (reversal : Bool) (s : State) : State :=
  match s.pcu.clamp with
  | some .closed => clampMove .opening .open reversal s
  | some .closing => clampMove .opening .open reversal s
  | some .opening => if s.pcu.stopped then clampMove .opening .open reversal s else s
  | some .open => s
  | none => s

/-- The clamps read closed by the release level (section 2.2). -/
def readsClosed (s : State) (pressure : Nat) : Bool := decide (s.loc.clampRelKn ≤ pressure)

/-- The clamp state is settled from the latest pressure sample (R34); the force in use is cleared when OPEN (R3). -/
def settleClamp (s : State) : State :=
  if readsClosed s s.pcu.pressure then armSlip { s with pcu.clamp := some .closed, pcu.reversal := false }
  else { s with pcu.clamp := some .open, pcu.reversal := false, pcu.clampForceInUse := none }

/-- The recovery top-up ends, with the detector armed (R37). -/
def endTopUp (s : State) : State :=
  armSlip { s with pcu.topUp := false, pcu.clampValve := .hold, pcu.clampTimer := none }

/-- The recovery top-up (R37). -/
def startTopUp (s : State) : State :=
  if s.pcu.clampForceInUse.getD 0 ≤ s.pcu.pressure then endTopUp s
  else { s with pcu.topUp := true, pcu.clampValve := .close, pcu.clampTimer := some s.loc.clampTimeoutMs }

/-- A movement of the clamps is under way. -/
def clampsMoving (s : State) : Bool := s.pcu.clamp == some .closing || s.pcu.clamp == some .opening

/-- STL enters ACTIVE: the clamp valve holds, a movement is marked stopped, a top-up ends (R35, R37). -/
def clampsStop (s : State) : State :=
  if clampsMoving s then { s with pcu.clampValve := .hold, pcu.stopped := true, pcu.clampTimer := none }
  else if s.pcu.topUp then endTopUp s
  else { s with pcu.clampValve := .hold }

/-- The slip level is crossed: the pressure is below the force in use times slip_pct / 100 (R36). -/
def belowSlip (s : State) (pressure : Nat) : Bool :=
  decide (100 * pressure < s.pcu.clampForceInUse.getD 0 * s.loc.slipPct)

/-! ### Pull (R47 to R49) -/

/-- The pull target of a closure weld (R47): pull_coef (0.1 kN/K) times N - T, to the whole kN. -/
def pullTargetOf (coef : Nat) (neutral rail : Int) : Nat := roundDiv (coef * (neutral - rail).toNat) 10

/-- A hundred times the tolerance half-width of a pull (R47). -/
def halfWidth100 (s : State) (pull : Int) : Int := max (pull * s.loc.pullTolPct) (s.loc.pullMinBand * 100)

/-- The pull lies within the band around the target, both ends included (R48). -/
def pullInBand (s : State) (target : Nat) (pull : Int) : Bool :=
  decide (100 * (target : Int) - halfWidth100 s target ≤ 100 * pull)
    && decide (100 * pull ≤ 100 * (target : Int) + halfWidth100 s target)

/-- The force lies below the drift threshold of a pull at HOLD end (R49). -/
def belowDrift (s : State) (pull force : Int) : Bool := decide (100 * force < 100 * pull - halfWidth100 s pull)

/-! ### The millisecond sample (R31) -/

/-- A position sample is plausible after the one before it (R42); the first after powering is not compared. Without
settings no sample is compared. -/
def positionPlausible (s : State) (x : Int) : Bool :=
  !s.configured || !s.pcu.posSeen
    || (decide (x - s.pcu.position ≤ s.loc.posJump) && decide (s.pcu.position - x ≤ s.loc.posJump))

/-- A force sample is plausible (R42); without settings only the lower bound is known (assumption log 8). -/
def forcePlausible (s : State) (f : Int) : Bool :=
  decide (-50 ≤ f) && (!s.configured || decide (f ≤ s.loc.forceSpanKn))

/-- The slip count after a sample: consecutive samples below the level while armed, at or above it while tripped (R36). -/
def slipCountAfter (s : State) (pressure : Nat) : Nat :=
  match s.pcu.clamp, s.pcu.slip with
  | some .closed, .armed => if belowSlip s pressure then s.pcu.slipCount + 1 else 0
  | some .closed, .tripped => if belowSlip s pressure then 0 else s.pcu.slipCount + 1
  | _, _ => 0

/-- The target of a POSITION or RETRACT move. -/
def PlatenMode.target : PlatenMode → Option Int
  | .hold => none
  | .speed _ => none
  | .position t => some t
  | .force _ _ => none
  | .retract t => some t

/-- The platen is in FORCE mode. -/
def PlatenMode.isForce : PlatenMode → Bool
  | .force _ _ => true
  | _ => false

/-- Consecutive samples within 0.2 mm of the target (R40). -/
def nearCountAfter (s : State) (x : Int) : Nat :=
  match s.pcu.mode.target with
  | none => 0
  | some t => if x - t ≤ 2 ∧ t - x ≤ 2 then s.pcu.nearCount + 1 else 0

/-- The sample is taken: latest values, plausibility, and the running counts of R36, R40, R41, R42, R44 and R49. -/
def takeSample (f : FieldSample) (s : State) : State :=
  let posOk := positionPlausible s f.position
  let forceOk := forcePlausible s f.force
  let contact := s.pcu.contactSense && f.contact
  let first := contact && s.pcu.contactRun == 0
  { s with
    pcu.position := f.position
    pcu.force := f.force
    pcu.pressure := f.pressure
    pcu.posOk := posOk
    pcu.forceOk := forceOk
    pcu.posSeen := true
    pcu.plausPosition := if posOk then f.position else s.pcu.plausPosition
    pcu.posHistory := (f.position :: s.pcu.posHistory).take 20
    pcu.plausibleRun := if posOk && forceOk then bumpTo 100 s.pcu.plausibleRun else 0
    pcu.slipCount := slipCountAfter s f.pressure
    pcu.nearCount := nearCountAfter s f.position
    pcu.highForce := if s.pcu.mode.isForce && forceOk then max s.pcu.highForce f.force else s.pcu.highForce
    pcu.contactRun := if contact then s.pcu.contactRun + 1 else 0
    pcu.contactFromStart := s.pcu.contactFromStart && contact
    pcu.contactPosition := if first then f.position else s.pcu.contactPosition
    pcu.contactForce := if first then f.force else s.pcu.contactForce
    pcu.lowestForce :=
      if s.pcu.driftWatch && !s.motionHeld && forceOk then some (min f.force (s.pcu.lowestForce.getD f.force))
      else s.pcu.lowestForce }

/-! #### Commanded position (Table 2-2, R39) -/

/-- A step of at most `limit` toward a target. -/
def stepToward (x target : Int) (limit : Nat) : Int := clampInt (x - limit) (x + limit) target

/-- The step of FORCE mode, limited to the speed limit: forward while the force is below the total target, in either
direction once it is there (R41). Which step within the limit is a free value (assumption log 3). -/
def forceStep (below : Bool) (limit free : Nat) : Int :=
  if below then (free % (limit + 1) : Nat) else ((free % (2 * limit + 1) : Nat) : Int) - limit

/-- The commanded position after a sample. The platen does not move while contact is present from the start of a contact
move (R44, R75). -/
def advanceCommand (s : State) : State :=
  match s.pcu.mode with
  | .hold => s
  | .speed v =>
    if s.pcu.contactFromStart then s
    else { s with pcu.commanded := commandClip s (s.pcu.commanded + v) }
  | .position t =>
    { s with pcu.commanded := commandClip s (stepToward s.pcu.commanded (t * 1000) s.loc.moveSpeed) }
  | .retract t =>
    { s with pcu.commanded := commandClip s (stepToward s.pcu.commanded (t * 1000) s.loc.moveSpeed) }
  | .force total limit =>
    let (free, t) := s.fresh
    { t with
      pcu.commanded :=
        commandClip s (s.pcu.commanded + forceStep (decide (s.pcu.force < total)) limit.toNat free) }

/-! #### Burn-off and feed speed (R80, R81, R87, R88) -/

/-- Flash control follows the high mark: from the end of the approach to the end of FLASH or BOOST. -/
def followsMark (s : State) : Bool :=
  !s.aborting && (s.wsq.phase == some .flash || s.wsq.phase == some .boost) && s.flash.feed.isSome
    && s.flash.feed != some .approach

/-- A plausible sample moves the high mark forward, and with it the burn-off or the boost distance (R81, R88), in every feed
stage after the approach: also in STEPPING and HELD, where R81 and R90 expect no forward sample (assumption log 32). -/
def updateMark (s : State) : State :=
  if followsMark s && s.pcu.posOk then
    let mark := max s.pcu.position (s.flash.highMark.getD s.pcu.position)
    if s.wsq.phase = some .flash then
      { s with flash.highMark := some mark, flash.burnOff := s.flash.startPos.map fun p => mark - p }
    else
      { s with flash.highMark := some mark, flash.boostDone := s.flash.boostBase.map fun p => mark - p }
  else s

/-- The profile speed (R80): v0 + (v1 - v0) b / flash_burnoff, to the whole 0.1 mm/s. -/
def profileSpeed (v0 v1 burnOff limit : Nat) : Nat := roundDiv (v0 * limit + (v1 - v0) * burnOff) limit

/-- The unboosted feed speed of the phase (R80, R87). -/
def plainFeed (s : State) : Nat :=
  if s.wsq.phase = some .boost then s.wsq.active.speed
  else profileSpeed s.wsq.active.v0 s.wsq.active.v1 (s.flash.burnOff.getD 0).toNat s.sched.flashBurnoff

/-- The feed speed, boosted while the open boost mark is set (R80, R84, R87). -/
def feedSpeed (s : State) : Nat :=
  if s.flash.openMark then roundDiv (plainFeed s * s.sched.openBoostPct) 100 else plainFeed s

/-- While FEEDING, flash control sets the speed at every sample; that is no mode request (R80). -/
def setFeed (s : State) : State :=
  if s.flash.feed = some .feeding ∧ s.aborting = false then
    match s.pcu.mode with
    | .speed _ => { s with pcu.mode := .speed (feedSpeed s) }
    | _ => s
  else s

end Sys2Proof.Machine
end

