-- ==== Sys2Proof/Machine/Share.lean ====
section
/-! DEFINITION. SHT, the Share Table (chapter 7), as far as it acts alone: the claim clock, the claim list, the peer table,
the own claim's creation and removal, and the tests of admission and oversubscription. What an admission or a back-off
does to the weld stands in Machine/Weld.lean and Machine/Phases.lean. -/

namespace Sys2Proof.Machine

/-! ### The claim clock (R128) -/

/-- A received number raises the clock; nothing raises it past its top value (R128). -/
def raiseClock (n : Nat) (s : State) : State := { s with sht.clock := max s.sht.clock (min n top32) }

/-- The clock is spent (R128). -/
def clockSpent (s : State) : Bool := decide (top32 ≤ s.sht.clock)

/-! ### The claim list (R129) -/

/-- An entry sorts ahead of another: smaller claim number, or equal number and smaller station number (R129). -/
def Claim.ahead (a b : Claim) : Bool :=
  decide (a.number < b.number) || (a.number == b.number && decide (a.station < b.station))

/-- An entry is put at its place in the order (R129). -/
def insertClaim (c : Claim) : List Claim → List Claim
  | [] => [c]
  | d :: l => if c.ahead d then c :: d :: l else d :: insertClaim c l

/-- The entry of a station is taken out. -/
def removeClaim (station : Nat) (l : List Claim) : List Claim := l.filter (·.station != station)

/-- The entry of a station is inserted, or replaced in place of the one it had (R129). -/
def putClaim (c : Claim) (l : List Claim) : List Claim := insertClaim c (removeClaim c.station l)

/-- The entry of a station. -/
def claimOf (s : State) (station : Nat) : Option Claim := s.sht.claims.find? (·.station == station)

/-- A change of state, demand and drain timer does not move an entry (R129). -/
def updateClaim (station : Nat) (f : Claim → Claim) (l : List Claim) : List Claim :=
  l.map fun c => if c.station == station then f c else c

/-! ### The peer table (R126, R127) -/

/-- A change of one peer's entry. -/
def onPeer (p : Nat) (f : Peer → Peer) (s : State) : State := { s with sht.peers := s.sht.peers.modify p f }

/-- The entry of a peer. -/
def peerOf (s : State) (p : Nat) : Peer := s.sht.peers.getD p .unknown

/-- Some peer is DISCORDANT (R141). -/
def discord (s : State) : Bool := s.sht.peers.any (·.presence == .discordant)

/-! ### The own claim (R130, R135) -/

/-- The own claim is made: number clock + 1, entry QUEUED, CLAIM frame, beacon, claim-wait timer (R130). -/
def makeClaim (demand : Nat) (s : State) : State :=
  let n := s.sht.clock + 1
  queueBeacon
    (sendShare ⟨.claim, 15, claimBody n demand, .claim n⟩
      { s with
        sht.clock := n
        sht.claims := putClaim ⟨s.node, n, demand, .queued, none⟩ s.sht.claims
        sht.lastOwnClaim := some n
        sht.settleFlag := false
        sht.settleTimer := none
        sht.claimDropped := false
        sht.beaconNamed := false
        sht.claimWait := if s.loc.claimWaitS = 0 then none else some (seconds s.loc.claimWaitS) })

/-- The own entry leaves the list, with its settle window and its claim-wait timer (R135, step 1). -/
def dropOwnClaim (s : State) : State :=
  { s with
    sht.claims := removeClaim s.node s.sht.claims
    sht.settleFlag := false
    sht.settleTimer := none
    sht.claimDropped := false
    sht.beaconNamed := false
    sht.claimWait := none
    sht.oversubscribed := false }

/-- The frames of a yield: YIELD with the own number, and a beacon with no claim (R135, steps 2 and 3). -/
def yieldFrames (number : Nat) (s : State) : State :=
  queueBeacon (sendShare ⟨.yield, 15, yieldBody number, .yield number⟩ s)

/-! ### Admission and oversubscription (R132, R142) -/

/-- The sum of demands. -/
def demandSum (l : List Claim) : Nat := (l.map (·.demand)).sum

/-- DRAWING or STALE: the claim's load may be on the generator. -/
def Claim.loads (c : Claim) : Bool := c.state != .queued

/-- Every entry ahead of `own`, and every loading entry behind it (R132). -/
def countedWith (own : Claim) (l : List Claim) : List Claim :=
  l.filter fun c => c.station != own.station && (c.ahead own || c.loads)

/-- The admission sum of the own entry (R132). -/
def admissionSum (own : Claim) (l : List Claim) : Nat := own.demand + demandSum (countedWith own l)

/-- The own claim may be admitted (R132). -/
def admissible (s : State) : Bool :=
  s.ownClaim.any fun own =>
    own.state == .queued && s.sht.settleFlag && !s.wsq.isolated && !discord s
      && decide (admissionSum own s.sht.claims ≤ s.shr.capacityKva)

/-- The own entry is oversubscribed (R142). -/
def oversubscribed (s : State) : Bool :=
  s.drawing && decide (s.shr.capacityKva < demandSum (s.sht.claims.filter Claim.loads))

/-- A DRAWING or STALE entry sorts ahead of the own entry (R142). -/
def loadAhead (s : State) : Bool :=
  s.ownClaim.any fun own => s.sht.claims.any fun c => c.station != own.station && c.ahead own && c.loads

/-- The own entry becomes DRAWING, with its counter and its beacon (R132, steps 1 to 4). -/
def admitClaim (s : State) : State :=
  queueBeacon
    { s with
      sht.claims := updateClaim s.node (fun c => { c with state := .drawing }) s.sht.claims
      sht.claimWait := none
      sht.admissions := bump16 s.sht.admissions }

/-! ### Received share frames (R126, R136 to R139) -/

/-- A CLAIM's number names a claim, and so does a beacon's (R136, R148). -/
def beaconNames (b : BeaconBody) : Bool := b.claimPresent && b.claimNumber != 0

/-- The entry of a CLAIM is inserted or replaced, QUEUED; an ABSENT peer is watched from now on (R136). -/
def enterClaim (src number demand : Nat) (s : State) : State :=
  let t := { s with sht.claims := putClaim ⟨src, number, demand, .queued, none⟩ s.sht.claims }
  if (peerOf s src).presence = .absent then
    onPeer src (fun p => { p with missed := 0, lossTimer := some s.shr.beaconMs }) t
  else t

/-- What a CLAIM does to the entry of its sender (table of R136). -/
def claimEffect (src number demand : Nat) (s : State) : State :=
  match claimOf s src with
  | some c => if c.number < number then enterClaim src number demand s else s
  | none => enterClaim src number demand s

/-- A YIELD removes the entry that holds its number, and is counted as ignored otherwise (R137). -/
def yieldEffect (src number : Nat) (s : State) : State :=
  if (claimOf s src).any (·.number == number) then { s with sht.claims := removeClaim src s.sht.claims }
  else { s with sht.ignoredYields := bump16 s.sht.ignoredYields }

/-- A DRAWING or QUEUED state by a beacon's drawing flag (R138). -/
def stateOfFlag (drawing : Bool) : ClaimState := if drawing then .drawing else .queued

/-- A beacon reconciles the claim entry of its sender (R138); a STALE entry of the number it names keeps its demand. -/
def reconcile (src : Nat) (b : BeaconBody) (s : State) : State :=
  if beaconNames b then
    if (claimOf s src).any (·.number == b.claimNumber) then
      { s with
        sht.claims :=
          updateClaim src
            (fun c =>
              { c with
                demand := if c.state = .stale then c.demand else b.demand
                state := stateOfFlag b.drawing
                drain := none })
            s.sht.claims }
    else
      { s with
        sht.claims := putClaim ⟨src, b.claimNumber, b.demand, stateOfFlag b.drawing, none⟩ s.sht.claims }
  else { s with sht.claims := removeClaim src s.sht.claims }

/-- A beacon raises the clock from the claim it names and from its clock field (R128). -/
def raiseFromBeacon (b : BeaconBody) (s : State) : State :=
  raiseClock b.clock (if beaconNames b then raiseClock b.claimNumber s else s)

/-- The presence a beacon's digest gives its sender (R126). -/
def presenceOf (s : State) (digest : Nat) : Presence := if digest = s.sht.ownDigest then .present else .discordant

/-- The reported flags byte of a beacon, as a peer's entry keeps it and STATUS(SHARE) shows it: all four flag bits. The manual
names ISOLATED alone and gives the byte no layout (assumption log 29). With the claim-present flag clear the drawing flag is
ignored (R148). -/
def reportedFlags (b : BeaconBody) : Nat :=
  beaconFlags b.claimPresent (b.claimPresent && b.drawing) b.isolated b.aborting

/-- The peer entry after a beacon (R126, steps 1 to 3). -/
def Peer.afterBeacon (s : State) (b : BeaconBody) (p : Peer) : Peer where
  presence := presenceOf s b.digest
  missed := 0
  lossTimer := some s.shr.beaconMs
  reported := some (b.stateCode, reportedFlags b)
  digest := some b.digest
  weldCounter := some b.weldCounter
  lastClaim := if beaconNames b then some b.claimNumber else p.lastClaim

/-- Steps 1 to 4 of R126: the peer's entry, the clock, the claim entry; with the discord event of a change to DISCORDANT
counted (R141). -/
def beaconEffect (src : Nat) (b : BeaconBody) (s : State) : State :=
  let before := (peerOf s src).presence
  let t := onPeer src (Peer.afterBeacon s b) s
  let u := reconcile src b (raiseFromBeacon b t)
  if before ≠ .discordant ∧ presenceOf s b.digest = .discordant then
    { u with sht.discordEvents := bump16 u.sht.discordEvents }
  else u

/-- The claim entry of a peer that becomes ABSENT (R139). -/
def staleEffect (src : Nat) (s : State) : State :=
  match claimOf s src with
  | none => s
  | some c =>
    if c.state = .queued then { s with sht.claims := removeClaim src s.sht.claims }
    else if c.state = .drawing then
      { s with
        sht.claims :=
          updateClaim src (fun c => { c with state := .stale, drain := some (seconds s.shr.drainS) }) s.sht.claims }
    else s

/-- A loss timer's expiry (R127), of a peer watched after a CLAIM too (R136). -/
def lossEffect (p : Nat) (s : State) : State :=
  let missed := (peerOf s p).missed + 1
  if missed < s.shr.lossCount then
    onPeer p (fun e => { e with missed := missed, lossTimer := some s.shr.beaconMs }) s
  else
    let t := onPeer p (fun e => { e with missed := missed, lossTimer := none, presence := .absent }) s
    let u :=
      if (peerOf s p).presence = .absent then t else { t with sht.peerLosses := bump16 t.sht.peerLosses }
    staleEffect p u

/-- A drain expiry (R140). -/
def drainEffect (station : Nat) (s : State) : State :=
  { s with sht.claims := removeClaim station s.sht.claims, sht.staleDrains := bump16 s.sht.staleDrains }

end Sys2Proof.Machine
end

