-- ==== Sys2Proof/Machine/Stop.lean ====
section
/-! DEFINITION. STL, the Stop Logic (sections 6.1 to 6.3), as far as it acts alone: the end of a pause, and what the bus
voltage samples do to the pause state. -/

namespace Sys2Proof.Machine

/-- The bus has recovered past sag_v + sag_hyst_v (R112, R114). -/
def recovered (s : State) (volts : Nat) : Bool := decide (s.loc.sagV + s.loc.sagHystV ≤ volts)

/-- The bus is below the sag threshold (R112). -/
def sags (s : State) (volts : Nat) : Bool := decide (volts < s.loc.sagV)

/-- The sag detector runs (R112). -/
def detectorRuns (s : State) : Bool := s.configured && s.wsq.station != .dormant

/-- The resume event at flash control (R91): a feed stage of HELD ends with a retract step. Its work has ended once the
abort path has started (R92, R116). -/
def flashResume (s : State) : State :=
  if s.flash.feed = some .held ∧ s.aborting = false ∧ s.motionHeld = false then
    { platenRetract s.sched.retractStep s with flash.feed := some .stepping }
  else s

/-- The resume event on recovery (R114): the pause timer stops and the pause state is NORMAL. -/
def resumeRecovered (s : State) : State :=
  flashResume { s with stl.pause := .normal, stl.pauseTimer := none, stl.lostReported := false }

/-- The resume event without recovery (R115, R116): NORMAL, or SAG with the deglitched mark, by the latest sample. -/
def resumeForced (s : State) : State :=
  flashResume
    { s with
      stl.pause := if recovered s s.stl.volts then .normal else .sag
      stl.deglitched := !recovered s s.stl.volts
      stl.pauseTimer := none
      stl.lostReported := false }

/-- A pause in force ends when STL enters ACTIVE or the station enters FAULT_HOLD (R116). -/
def endPause (s : State) : State := if s.paused then resumeForced s else s

/-- The station has stopped drawing: a pause whose timer has expired ends (R115). -/
def drawingEnded (s : State) : State := if s.paused && s.stl.lostReported then resumeForced s else s

/-- Carrier timing stops while RESUMING: the resume event is emitted at once (R114). -/
def timingStopped (s : State) : State := if s.stl.pause = .resuming then resumeRecovered s else s

/-- A bus voltage sample in NORMAL, SAG, PAUSED or RESUMING (R112, R114). -/
def takeVolts (volts : Nat) (s : State) : State :=
  let t := { s with stl.volts := volts }
  match s.stl.pause with
  | .normal => if sags s volts then { t with stl.pause := .sag, stl.deglitch := some s.loc.sagMs } else t
  | .sag =>
    if s.stl.deglitched then
      if recovered s volts then { t with stl.pause := .normal, stl.deglitched := false } else t
    else if sags s volts then t
    else { t with stl.pause := .normal, stl.deglitch := none }
  | .paused =>
    if recovered s volts then
      if s.cdr.mode = .off then resumeRecovered t else { t with stl.pause := .resuming }
    else t
  | .resuming => if sags s volts then { t with stl.pause := .paused } else t

/-- The sag detector starts again from NORMAL, at the powering of the field side (R7, R112), and stops in DORMANT. -/
def detectorReset (s : State) : State :=
  { s with
    stl.pause := .normal
    stl.deglitch := none
    stl.deglitched := false
    stl.pauseTimer := none
    stl.lostReported := false }

end Sys2Proof.Machine
end

