-- ==== Sys2Proof/Machine/Trim.lean ====
section
/-! DEFINITION. TRU, the Trim Unit (section 5.4), as far as it acts alone. -/

namespace Sys2Proof.Machine

/-- TRU's state from the first switch sample after a reset or a wake (R99); RETRACTED has no stopped marker. The marker stays
clear where a wake that ends in STOPPED turns a RETRACTED trimmer to FAULT: R103 sets it for FAULT at the entry to ACTIVE, and
the manual is silent on a FAULT found later (assumption log 35). -/
def truFirstSample (returnSwitch : Bool) (s : State) : State :=
  { s with
    tru.state := if returnSwitch then .retracted else .fault
    tru.stopped := !returnSwitch && s.tru.stopped }

/-- The stroke starts: the window closes with its remaining time kept (R101). -/
def startStroke (s : State) : State :=
  { s with
    tru.windowKept := s.tru.window
    tru.window := none
    tru.startWaiting := false
    tru.state := .advancing
    tru.valve := .advance
    tru.strokeTimer := some s.loc.trimStrokeMs }

/-- A stroke is under way. -/
def strokeUnderWay (s : State) : Bool :=
  s.tru.state == .advancing || s.tru.state == .atEnd || s.tru.state == .returning

/-- The request of TRIM entry (R101), with the window open and no result. -/
def requestStroke (s : State) : State :=
  if s.tru.state = .retracted ∧ s.tru.window.isSome then startStroke s
  else if s.tru.state = .fault ∧ s.tru.window.isSome then { s with tru.startWaiting := true }
  else s

/-- The shear starts back: valve to return with a fresh stroke timer (R102). -/
def startReturn (s : State) : State :=
  { s with
    tru.state := .returning
    tru.valve := .return
    tru.dwell := none
    tru.strokeTimer := some s.loc.trimStrokeMs }

/-- The first half of the stroke ends at the end switch: dwell of 200 ms (R102). -/
def reachEnd (s : State) : State :=
  { s with tru.strokeTimer := none, tru.valve := .hold, tru.state := .atEnd, tru.dwell := some 200 }

/-- TRU holds the trimmer: at STL's ACTIVE and at FAULT_HOLD entry (R103). -/
def truHold (s : State) : State :=
  if s.tru.state = .retracted then { s with tru.valve := .hold }
  else { s with tru.valve := .hold, tru.stopped := true, tru.strokeTimer := none, tru.dwell := none }

/-- TRU takes up a stopped movement at CLEAR (table of R103). -/
def truTakeUp (s : State) : State :=
  let t := { s with tru.stopped := false }
  match s.tru.state with
  | .advancing => { t with tru.valve := .advance, tru.strokeTimer := some s.loc.trimStrokeMs }
  | .atEnd => startReturn t
  | .returning => { t with tru.valve := .return, tru.strokeTimer := some s.loc.trimStrokeMs }
  | .fault => { t with tru.valve := .return }
  | .retracted => { t with tru.valve := .return }

/-- The trim window opens at UPSET end when trim_enable is on and no abort path is under way; with trim_enable off the
result is SKIPPED (R100, R104). Those rules name no moment for that result: the model sets it here, at UPSET end (assumption
log 35). -/
def openWindow (s : State) : State :=
  if s.sched.trimEnable = 0 then { s with tru.result := some .skipped }
  else if s.aborting then s
  else { s with tru.window := some (seconds s.sched.trimWindowS) }

/-- The abort path starts: a window with no stroke started is closed, a waiting start is dropped, and the result is
SKIPPED unless one was decided or a stroke was started (R104, R117). -/
def truAbort (s : State) : State :=
  { s with
    tru.window := none
    tru.startWaiting := false
    tru.result := if s.tru.result.isNone && s.tru.windowKept.isNone then some .skipped else s.tru.result }

/-- CHECK entry of a weld: the trim result goes (R104). The fail-filed mark and what is left of the last stroke's window go
with it by the model's choice: R99 clears the mark at resets only, and R102 files TRIM_FAIL once in a weld (assumption log
35). -/
def truNewWeld (s : State) : State :=
  { s with
    tru.result := none
    tru.failFiled := false
    tru.window := none
    tru.windowKept := none
    tru.startWaiting := false }

end Sys2Proof.Machine
end

