-- ==== Sys2Proof/Machine/Drive.lean ====
section
/-! DEFINITION. CDR, the Current Drive (chapter 3), as far as it acts alone: lengths of carrier timing, pulses, the trip
ramp, energy, current-mode requests, and the classing of a complete carrier cycle. -/

namespace Sys2Proof.Machine

/-! ### Lengths (R56 to R58, R67). The events at their ends are the sender's (assumption log 2); no meaning reads them. -/

/-- Half-cycle length in µs (R56). The manual gives no rounding of a length that is no whole number of µs; the model
rounds down, here and in the three lengths below (assumption log 28). -/
def halfCycleUs (hz : Nat) : Nat := 1000000 / (2 * hz)

/-- Off-time after a trip, one quarter of the half-cycle (R57). -/
def offTimeUs (hz : Nat) : Nat := halfCycleUs hz / 4

/-- Blanking interval (R58). -/
def blankingUs (hz pct : Nat) : Nat := halfCycleUs hz * pct / 100

/-- Conduction window of a polarity by the flux correction, in steps of 0.5 % (R67). -/
def windowUs (hz : Nat) (flux : Int) (positive : Bool) : Nat :=
  let cut := if positive then flux.toNat else (-flux).toNat
  halfCycleUs hz * (200 - cut) / 200

/-! ### Values for the four modes (R69, R70) -/

/-- The entry of a mode; OFF has none, and reads as `d`. -/
def PerMode.get {α : Type} (p : PerMode α) (d : α) : DriveMode → α
  | .off => d
  | .preheatContact => p.preheat
  | .flash => p.flash
  | .boost => p.boost
  | .upsetCurrent => p.upset

/-- A change of a mode's entry; none for OFF. -/
def PerMode.update {α : Type} (p : PerMode α) (f : α → α) : DriveMode → PerMode α
  | .off => p
  | .preheatContact => { p with preheat := f p.preheat }
  | .flash => { p with flash := f p.flash }
  | .boost => { p with boost := f p.boost }
  | .upsetCurrent => { p with upset := f p.upset }

/-- Two values for each mode, put together. -/
def PerMode.zip {α : Type} (f : α → α → α) (p q : PerMode α) : PerMode α :=
  ⟨f p.preheat q.preheat, f p.flash q.flash, f p.boost q.boost, f p.upset q.upset⟩

/-- The largest sum a total holds: 99,999 kJ, a sample lasting 1 / (64 carrier_hz) s and a unit being 10 W (R69;
assumption log 12). -/
def energyTop (hz : Nat) : Int := 99999 * 6400 * hz

/-- A total in whole kJ, rounded to the nearest, halves up (R69). -/
def energyKj (hz : Nat) (raw : Int) : Nat := if hz = 0 then 0 else roundDiv raw.toNat (6400 * hz)

/-- Energy of the samples taken since the last division goes to the part of the mode in force, and so does the time
RUNNING: where a mode changes inside a cycle, the part before the request belongs to the old mode (R69). -/
def divideCycle (s : State) : State :=
  { s with
    cdr.partEnergy := s.cdr.partEnergy.update (· + (s.cdr.sums.energy - s.cdr.sums.credited)) s.cdr.mode
    cdr.sums.credited := s.cdr.sums.energy
    cdr.partMs := s.cdr.partMs.update (· + s.cdr.runMs) s.cdr.mode
    cdr.runMs := 0 }

/-- The parts of a cycle are added to the totals and the tallies of their modes, at the cycle's end or where RUNNING ends; a
total stops rising at its top (R69, R70). -/
def creditEnergy (s : State) : State :=
  let t := divideCycle s
  { t with
    cdr.energy := s.cdr.energy.zip (fun e part => min (e + part) (energyTop s.cdr.carrierHz)) t.cdr.partEnergy
    cdr.partEnergy := ⟨0, 0, 0, 0⟩
    cdr.tally := s.cdr.tally.zip (· + ·) t.cdr.partMs
    cdr.partMs := ⟨0, 0, 0, 0⟩ }

/-! ### Pulses (R57, R58) -/

/-- A pulse starts: in its blanking interval, or with the trip comparison made when blank_pct is 0 (R58). -/
def freshPulse (s : State) : Pulse := if s.loc.blankPct = 0 then .conducting else .blanking

/-- Each half-cycle in RUNNING begins a pulse, unless an overcurrent lockout is in force (R57, R61). -/
def startPulse (s : State) : State :=
  { s with cdr.pulse := if s.cdr.drive = .running ∧ s.cdr.lockout = false then freshPulse s else .none }

/-! ### Trip ramp (R59) -/

/-- The applied trip level of the i-th of k cycles: to the whole A, halves up (R59). -/
def rampLevel (start target i k : Nat) : Nat :=
  if start ≤ target then roundDiv (start * k + (target - start) * i) k
  else roundDiv (start * k - (start - target) * i) k

/-- A carrier cycle begins in RUNNING: the ramp takes its next step (R59). -/
def rampStep (s : State) : State :=
  match s.cdr.ramp with
  | none => s
  | some r =>
    let target := s.cdr.tripTarget.getD r.start
    let i := r.step + 1
    if r.cycles ≤ i then { s with cdr.applied := some target, cdr.ramp := none }
    else { s with cdr.applied := some (rampLevel r.start target i r.cycles), cdr.ramp := some { r with step := i } }

/-- The trip target of a request (R59): a new target starts a ramp from the applied level. -/
def setTarget (trip : Nat) (s : State) : State :=
  if s.cdr.tripTarget = some trip then s
  else
    { s with
      cdr.tripTarget := some trip
      cdr.ramp := some ⟨s.cdr.applied.getD trip, s.loc.rampCycles, 0⟩ }

/-! ### Carrier cycles (R54, R56) -/

/-- A carrier cycle begins with the positive half-cycle, driven if every run condition holds (R54). -/
def beginCycle (s : State) : State :=
  let t :=
    { s with
      cdr.half := .positive
      cdr.sums := .zero
      cdr.sampled := 0
      cdr.lockout := false
      cdr.drive := if s.runConditions then .running else .ready
      cdr.whole := s.runConditions }
  startPulse (if s.runConditions then rampStep t else t)

/-- RUNNING ends at once: energy so far is credited, both gate groups off, the drive READY with carrier timing running,
the cycle in progress incomplete and a lockout over (R54, R62). A cycle that has run to its boundary is complete, and is
still evaluated there (R60, R90). -/
def cutRunning (s : State) : State :=
  let t := creditEnergy s
  { t with
    cdr.sums := if s.cdr.half = .boundary then t.cdr.sums else .zero
    cdr.drive := .ready
    cdr.pulse := .none
    cdr.lockout := false
    cdr.whole := s.cdr.whole && s.cdr.half == .boundary }

/-- The drive is BLOCKED with mode OFF and carrier timing stopped (R52, R53, R55). A cycle that has run whole to its boundary
and meets this there, before CARRIER_CYCLE_END, has its energy added and is not evaluated: the manual does not say whether R60
still holds where carrier timing stops (assumption log 9). -/
def blockDrive (s : State) : State :=
  let t := if s.cdr.drive = .running then cutRunning s else s
  { t with
    cdr.mode := .off
    cdr.drive := .blocked
    cdr.half := .positive
    cdr.pulse := .none
    cdr.offPending := false
    cdr.lockout := false
    cdr.whole := false
    cdr.sums := .zero }

/-! ### Current-mode requests (R52, R66) -/

/-- The weld start opens a fresh weld context (R52). -/
def weldContext (trip : Nat) (s : State) : State :=
  { s with
    cdr.flux := 0
    cdr.boundCount := 0
    cdr.fluxReported := false
    cdr.overcurrentCount := 0
    cdr.energy := ⟨0, 0, 0, 0⟩
    cdr.tally := ⟨0, 0, 0, 0⟩
    cdr.runMs := 0
    cdr.partEnergy := ⟨0, 0, 0, 0⟩
    cdr.partMs := ⟨0, 0, 0, 0⟩
    cdr.tripTarget := some trip
    cdr.applied := some trip
    cdr.ramp := none }

/-- The two runs are kept from FLASH to BOOST and on a request of the mode in force, and start afresh otherwise (R66). -/
def keepsRuns (old new : DriveMode) : Bool := old == new || (old == .flash && new == .boost)

/-- The runs at a request (R66). -/
def setRuns (new : DriveMode) (s : State) : State :=
  if keepsRuns s.cdr.mode new then s
  else { s with cdr.shortRun := 0, cdr.openRun := 0, cdr.openReported := false }

/-- A current-mode request while STL is in RUN (R52, R53): it cancels a waiting normal OFF, divides the cycle in progress
between the modes (R69), and starts carrier timing from BLOCKED (R56). -/
def requestCurrent (mode : DriveMode) (trip hz : Nat) (weldStart : Bool) (s : State) : State :=
  let split := if s.cdr.drive = .running ∧ s.cdr.mode ≠ mode then divideCycle s else s
  let runs := setRuns mode split
  let t :=
    { (if weldStart then weldContext trip runs else setTarget trip runs) with
      cdr.mode := mode
      cdr.carrierHz := hz
      cdr.offPending := false }
  if s.cdr.drive = .blocked then beginCycle t else t

/-! ### Samples of a half-cycle (R51, R63, R67, R69) -/

/-- One sample taken in. -/
def CycleSums.add (c : CycleSums) (d : DriveSample) : CycleSums :=
  { c with
    maxCurrent := max c.maxCurrent d.current.natAbs
    voltageSum := if d.conducting then c.voltageSum + d.voltage.natAbs else c.voltageSum
    voltageCount := if d.conducting then c.voltageCount + 1 else c.voltageCount
    energy := c.energy + d.voltage * d.current }

/-- Samples of the half-cycle in progress are taken in, while the drive is RUNNING: 32 of a half-cycle at most (R51). -/
def takeSamples (samples : List DriveSample) (s : State) : State :=
  if s.cdr.drive = .running ∧ s.cdr.half ≠ .boundary then
    let new := samples.take (samplesPerHalf - s.cdr.sampled)
    { s with
      cdr.sums := new.foldl CycleSums.add s.cdr.sums
      cdr.sampled := s.cdr.sampled + new.length }
  else s

/-- The primary integral of a half-cycle driven in RUNNING (R67). -/
def takeIntegral (integral : Nat) (s : State) : State :=
  if s.cdr.drive = .running then
    { s with
      cdr.sums :=
        if s.cdr.half = .positive then { s.cdr.sums with posIntegral := integral }
        else { s.cdr.sums with negIntegral := integral } }
  else s

/-! ### A complete carrier cycle (R63 to R68) -/

/-- Short cycles needed for a SHORT event (R64). -/
def shortNeeded (deglitchMs hz : Nat) : Nat := max 1 ((deglitchMs * hz + 999) / 1000)

/-- Cycle voltage at or below short_v: the mean over `count` samples; with none it is the free value `free` (R63). -/
def lowVoltage (sum count limit free : Nat) : Bool :=
  if count = 0 then decide (free ≤ limit) else decide (sum ≤ limit * count)

/-- Classes of a complete cycle (R63). -/
inductive CycleClass
  | short | open | conducting
  deriving DecidableEq, Repr

/-- The class of a complete cycle by its current and voltage (R63). -/
def classify (current shortKa contactKa : Nat) (low : Bool) : CycleClass :=
  if shortKa ≤ current ∧ low = true then .short
  else if current < contactKa then .open
  else .conducting

/-- The class of the cycle that has just ended. -/
def cycleClass (s : State) : CycleClass × State :=
  let c := s.cdr.sums
  let sched := s.sched
  if c.voltageCount = 0 then
    let (free, t) := s.fresh
    (classify c.maxCurrent sched.shortKa s.loc.contactKa (lowVoltage c.voltageSum 0 sched.shortV free), t)
  else (classify c.maxCurrent sched.shortKa s.loc.contactKa (lowVoltage c.voltageSum c.voltageCount sched.shortV 0), s)

/-- FLASH or BOOST: short cycles are evaluated (R64). -/
def evaluatesShort (m : DriveMode) : Bool := m == .flash || m == .boost

/-- The flux correction after a complete cycle (R67). -/
def fluxAfter (flux : Int) (pos neg : Nat) : Int :=
  if neg < pos then min (flux + 1) 16 else if pos < neg then max (flux - 1) (-16) else flux

/-- The bound count after the change of R67 (R68). -/
def boundAfter (flux : Int) (count : Nat) : Nat := if flux = 16 ∨ flux = -16 then count + 1 else 0

/-- What a complete cycle reports (R64, R65, R68). -/
structure CycleReports where
  short : Bool
  openReached : Bool
  regained : Bool
  imbalance : Bool
  deriving DecidableEq, Repr

/-- Runs, flux correction and bound count after a complete cycle of a class, and what is reported (R64 to R68). -/
def evaluateRuns (k : CycleClass) (s : State) : CycleReports × State :=
  let c := s.cdr
  let flux := fluxAfter c.flux c.sums.posIntegral c.sums.negIntegral
  let bound := boundAfter flux c.boundCount
  let shortRun := if evaluatesShort c.mode && k == .short then c.shortRun + 1 else 0
  let short := decide (shortNeeded s.sched.shortDeglitchMs c.carrierHz ≤ shortRun)
  let openRun := if k = .open then c.openRun + 1 else 0
  let openReached := k == .open && openRun == s.sched.openCycles
  let imbalance := decide (50 ≤ bound) && !c.fluxReported
  (⟨short, openReached, k != .open && c.openReported, imbalance⟩,
    { s with
      cdr.flux := flux
      cdr.boundCount := bound
      cdr.fluxReported := c.fluxReported || imbalance
      cdr.shortRun := if short then 0 else shortRun
      cdr.openRun := openRun
      cdr.openReported := (c.openReported && k == .open) || openReached })

end Sys2Proof.Machine
end

