-- ==== Sys2Proof/Machine/Weld.lean ====
section
/-! DEFINITION. WSQ, the Weld Sequencer (chapters 1, 4, 5 and 6), first part: the station state, the end of an order, the
active set, the phase boundary, the record at CLOSING, the yield and drive off report, and the abort path with its
faults. -/

namespace Sys2Proof.Machine

/-! ### Station state (R1, R11, R37) -/

/-- Full length of the idle timer, none when idle_min is 0 (R11). -/
def idleStart (s : State) : Timer := if s.loc.idleMin = 0 then none else some (s.loc.idleMin * 60000)

/-- A recovery top-up still due is made at the first entry to RECOVER or CLAMPED (R37, R182). -/
def makeTopUp (s : State) : State :=
  if s.wsq.topUpDue ∧ (s.wsq.station = .recover ∨ s.wsq.station = .clamped) then
    startTopUp { s with wsq.topUpDue := false }
  else s

/-- The station state changes; the idle timer runs in IDLE only (R11). -/
def setStation (st : StationState) (s : State) : State :=
  makeTopUp
    { s with
      wsq.station := st
      wsq.idleTimer := if st = .idle then idleStart s else none }

/-- The clamps are OPEN: the clamp force in use is cleared (R3). -/
def clearClampForce (s : State) : State := { s with pcu.clampForceInUse := none }

/-! ### The end of an order (R2, R30, R163) -/

/-- The order that is executing, at the head (R2). -/
def executing (s : State) : Option QueuedOrder := s.orq.queue.head?.filter (·.status == .executing)

/-- The head order's status. -/
def setHead (st : OrderStatus) : List QueuedOrder → List QueuedOrder
  | [] => []
  | o :: l => { o with status := st } :: l

/-- The DONE notice of an order, to the panel that sent it (R163). -/
def doneNotice (o : QueuedOrder) (outcome : OrderOutcome) (reason : Reason) (weldNo : Option Nat) (p : Purpose) :
    TxFrame :=
  ⟨.notice, o.src, doneBody o.tag o.kind.code outcome reason weldNo, p⟩

/-- WSQ ends the executing order; ORQ sends its DONE notice, and the order leaves the queue when that is placed (R2,
R163). -/
def endOrder (outcome : OrderOutcome) (reason : Reason) (weldNo : Option Nat) (s : State) : State :=
  match executing s with
  | none => s
  | some o =>
    sendOther (doneNotice o outcome reason weldNo .doneNotice) { s with orq.queue := setHead .ended s.orq.queue }

/-- Both sets return to neutral (R22). -/
def neutralSets (s : State) : State :=
  { s with wsq.pendingSet := .neutral, wsq.inForce := .neutral, wsq.switchPending := false, wsq.active := .none }

/-- What PCU keeps until the end of the weld order (R41, R44, R47). -/
def pcuWeldEnd (s : State) : State :=
  { s with
    pcu.touchPos := none
    pcu.gap := none
    pcu.initialPull := none
    pcu.forceBasis := 0
    pcu.pullTarget := none
    pcu.pullAtHoldEnd := none
    pcu.driftWatch := false }

/-- What WSQ keeps until the end of the weld order. -/
def wsqWeldEnd (s : State) : State :=
  { s with
    wsq.phase := none
    wsq.weldNo := none
    wsq.weldStarted := false
    wsq.abort := none
    wsq.ending := none
    wsq.barred := false
    wsq.contactTimer := none
    wsq.openTimer := none
    wsq.flashTimer := none
    wsq.upsetTimer := none
    wsq.holdTimer := none
    wsq.coolTimer := none
    wsq.expired := false
    wsq.upsetMark := false
    wsq.pullRequested := false }

/-- What a weld leaves at its end: the weld's state goes, the station is CLAMPED, or stays STOPPED or in FAULT_HOLD with
CLAMPED as its return state (R30, R107, R118). -/
def leaveWeld (s : State) : State :=
  let t := neutralSets (pcuWeldEnd (wsqWeldEnd s))
  if s.motionHeld then { t with wsq.returnState := some .clamped } else setStation .clamped t

/-- A weld order ends (R30, R107, R118). -/
def endWeld (outcome : OrderOutcome) (reason : Reason) (weldNo : Option Nat) (s : State) : State :=
  endOrder outcome reason weldNo (leaveWeld s)

/-! ### Active set (R19) and phase boundary (R14, R19, R24) -/

/-- At a phase boundary a set switch-pending copies the pending set into the adjustment in force (R19). -/
def switchSets (s : State) : State :=
  if s.wsq.switchPending then { s with wsq.inForce := s.wsq.pendingSet, wsq.switchPending := false } else s

/-- A speed of the flash profile: base × scale / 100 × (100 + offset) / 100, rounded once (R19). -/
def scaledSpeed (base scale : Nat) (offset : Int) : Nat := roundDiv (base * scale * (100 + offset).toNat) 10000

/-- A value with a percent offset, rounded once (R19). -/
def withOffset (base : Nat) (offset : Int) : Nat := roundDiv (addPct base offset) 100

/-- The targets of a phase from the schedule, the adjustment in force and the targets of the phase before (R19). -/
def formActive (c : Schedule) (a : Adjustment) (before : ActiveSet) : WeldPhase → ActiveSet
  | .preheat => { ActiveSet.none with trip := c.preTripA }
  | .flash =>
    { ActiveSet.none with
      trip := withOffset c.flashTripA a.trip
      v0 := scaledSpeed c.flashV0 a.scale a.speed
      v1 := scaledSpeed c.flashV1 a.scale a.speed }
  | .boost => { ActiveSet.none with trip := c.boostTripA, speed := c.boostSpeed }
  | .upset => { ActiveSet.none with trip := before.trip, upsetForce := withOffset c.upsetForce a.force }
  | .hold => { ActiveSet.none with holdForce := c.holdForce }
  | .check => .none
  | .touch => .none
  | .claimWait => .none
  | .trim => .none
  | .cool => .none
  | .closing => .none

/-- A phase is entered: sets switched, active set formed, and the marker of a numbered weld rewritten (R19, R24). -/
def enterPhase (p : WeldPhase) (s : State) : State :=
  let t := switchSets s
  let u :=
    { t with
      wsq.phase := some p
      wsq.active := formActive s.sched t.wsq.inForce s.wsq.active p }
  if s.wsq.weldNo.isSome then rewriteMarker p u else u

/-! ### CLOSING (R29, R106) -/

/-- The outcome of a numbered weld (R29). -/
def outcomeOf (abort : Option Abort) (quality : Bool) (trim : Option TrimResult) (trimEnable : Nat) : OrderOutcome :=
  match abort with
  | some a =>
    match a.phase with
    | .preheat => .incomplete
    | .flash => .incomplete
    | .boost => .incomplete
    | .check => .reject
    | .touch => .reject
    | .claimWait => .reject
    | .upset => .reject
    | .hold => .reject
    | .trim => .reject
    | .cool => .reject
    | .closing => .reject
  | none =>
    if quality then .reject
    else if trim = some .done ∨ (trim = some .skipped ∧ trimEnable = 0) then .good
    else .reject

/-- The working record completed at CLOSING entry (Tables 5-4 and 10-2). The preheat energy is present whenever pre_cycles is not
0, as Table 10-2 has it, also in a weld aborted before its weld start, where R74 has what was never formed absent: CDR's total is
then still that of the weld before (DESIGN CHOICE, assumption log 38). -/
def completedRecord (s : State) (w : WorkingRecord) : WeldRecord :=
  let flashed := w.record.flashScale.isSome
  { w.record with
    preCyclesDone := if s.sched.preCycles = 0 then none else some s.flash.cyclesDone
    preEnergy := if s.sched.preCycles = 0 then none else some (energyKj s.cdr.carrierHz s.cdr.energy.preheat)
    burnOff := s.flash.burnOff
    flashTime := if flashed then some s.flash.flashTime else none
    shortCount := if flashed then some s.flash.shortCount else none
    boostDistance := s.flash.boostDone
    upsetDistance := s.wsq.upsetDistance
    upsetPeak := s.wsq.upsetPeak
    upsetCurrentTime := s.wsq.upsetStart.map fun _ => s.cdr.tally.upset
    pullAtHoldEnd := s.pcu.pullAtHoldEnd
    trimResult := s.tru.result
    coolingTime := s.wsq.coolingDone
    phase := s.wsq.abort.map (·.phase)
    cause := s.wsq.abort.elim .none fun a => .fault a.cause
    outcome := outcomeOf s.wsq.abort w.quality s.tru.result s.sched.trimEnable }

/-- CLOSING entry: the marker reads CLOSING, the record is completed and its write starts (R106, R173). -/
def enterClosing (s : State) : State :=
  let t := enterPhase .closing s
  match t.wrs.working with
  | none => t
  | some w =>
    let r := completedRecord t w
    startWrite r { t with wrs.working := some { w with record := r } }

/-! ### Abort retract (R119, steps 4 and 5) -/

/-- The abort path's step. -/
def setStep (step : AbortStep) (s : State) : State :=
  { s with wsq.abort := s.wsq.abort.map fun a => { a with step := step } }

/-- The abort retract begins, waits for CLEAR, or is not made with the motion-barred mark (R117, R119, R123). -/
def beginRetract (s : State) : State :=
  if s.motionHeld then setStep .retractWait s
  else if s.wsq.barred then enterClosing (setStep .runOn s)
  else
    platenRetract s.loc.abortRetract
      (setStep (.retracting (strokeClip s (s.pcu.position - s.loc.abortRetract))) s)

/-! ### Yield and drive off (R52, R115, R119, R135) -/

/-- The own claim is withdrawn: its entry, its frames, and the end of drawing at STL (R135, R115). A request that finds no
own claim changes nothing. The end of DRAWING at CDR is loseRun's. -/
def yieldClaim (s : State) : State :=
  match s.ownClaim with
  | none => s
  | some own =>
    let t := yieldFrames own.number (dropOwnClaim s)
    if own.state = .drawing then drawingEnded t else t

/-- The drive off report at flash control: a CONTACT step that waited for it goes on to PART (R76, R77). -/
def contactStepEnds (s : State) : State :=
  if s.flash.offAwaited ∧ s.aborting = false ∧ s.motionHeld = false then
    { platenRetract s.sched.preOpenDist s with flash.offAwaited := false, flash.step := some .part }
  else s

/-- The abort path of PREHEAT, FLASH or BOOST waits for the drive off report (R119, step 2). -/
def awaitsDriveOff (s : State) : Bool :=
  s.wsq.abort.any (·.step == .driveIdle)
    && (s.wsq.phase == some .preheat || s.wsq.phase == some .flash || s.wsq.phase == some .boost)

/-- The drive off report at an abort path that waited for it: yield, then the retract (R119, steps 3 and 4). -/
def abortStepEnds (s : State) : State := if awaitsDriveOff s then beginRetract (yieldClaim s) else s

/-- WSQ takes the drive off report (R52). -/
def driveOffReport (s : State) : State := abortStepEnds (contactStepEnds s)

/-- OFF takes effect: mode OFF, drive BLOCKED, carrier timing stopped, drive off report (R52, R114). -/
def driveOff (s : State) : State := driveOffReport (timingStopped (blockDrive s))

/-- A normal OFF: at the end of the half-cycle while RUNNING, at once while READY (R52). While STL is ACTIVE or HELD it is
answered with the drive off report (R55). In RUN it does nothing to a BLOCKED drive, and no report follows: the manual gives
this case no effect (assumption log 9). -/
def normalOff (s : State) : State :=
  match s.cdr.drive with
  | .running => { s with cdr.offPending := true }
  | .ready => driveOff s
  | .blocked => if s.stl.stop = .run then s else driveOffReport s

/-- An immediate OFF takes effect at once in any drive state, and is reported (R52, R55). -/
def immediateOff (s : State) : State := driveOff s

/-- A run condition is lost while RUNNING: the drive becomes READY, and a waiting normal OFF takes effect (R52, R54). -/
def loseRun (s : State) : State :=
  if s.cdr.drive = .running ∧ s.runConditions = false then
    let t := cutRunning s
    if s.cdr.offPending then driveOff t else t
  else s

/-- The own claim is yielded, and CDR takes the end of DRAWING (R133, R135). -/
def yieldOwn (s : State) : State := loseRun (yieldClaim s)

/-- A current-mode request; while STL is ACTIVE or HELD it is not carried out and answered with drive off (R52, R55). The
first of a weld order carries the weld start mark. -/
def driveRequest (mode : DriveMode) (trip : Nat) (s : State) : State :=
  if s.stl.stop = .run then
    { requestCurrent mode trip s.sched.carrierHz (!s.wsq.weldStarted) s with wsq.weldStarted := true }
  else driveOffReport s

/-- Upset current ends: mark OFF, normal OFF, yield (R94). -/
def endUpsetCurrent (s : State) : State :=
  if s.wsq.upsetMark then yieldOwn (normalOff { s with wsq.upsetMark := false }) else s

/-! ### COOL (R105) -/

/-- COOL ends: the cooling time done is taken, the drift watch stops, CLOSING is entered. -/
def endCool (s : State) : State :=
  enterClosing
    { s with
      wsq.coolTimer := none
      wsq.expired := false
      wsq.coolingDone := s.wsq.coolAt.map fun t => (s.now - t) / 1000
      pcu.driftWatch := false }

/-- COOL is entered; with cool_s 0 it ends at once (R15, R105). -/
def enterCool (s : State) : State :=
  let t := enterPhase .cool s
  let u :=
    { t with
      wsq.coolTimer := some (seconds s.sched.coolS)
      wsq.coolAt := some s.now
      wsq.expired := false
      pcu.lowestForce := none
      pcu.driftWatch := s.wsq.kind == .closure && s.pcu.pullAtHoldEnd.isSome }
  if s.sched.coolS = 0 then endCool u else u

/-! ### The NOT_STARTED endings (R26, R118) -/

/-- A NOT_STARTED ending from TOUCH onward begins: retract to the CHECK position as a POSITION move (R26). -/
def beginEnding (reason : Reason) (s : State) : State :=
  platenPosition s.wsq.checkPos { s with wsq.ending := some ⟨reason, true, true⟩ }

/-- The reason of a NOT_STARTED ending by an abort (R118). -/
def abortReason (cause : FaultCode) : Reason := if cause = .abortOrder then .aborted else .fault cause

/-- CLAMP_SLIP and SENSOR_FAULT: the codes that take the station to FAULT_HOLD (R8). -/
def holdCode (c : FaultCode) : Bool := c == .clampSlip || c == .sensorFault

/-- The end of an aborted CHECK (R118): at once, or at CLEAR for E_STOP. By an ABORT order the weld is left at once too, and
the order's DONE notice follows the answer of the ABORT (R164). -/
def abortCheck (cause : FaultCode) (s : State) : State :=
  if cause = .eStop then { stopShoes s with wsq.ending := some ⟨.fault .eStop, false, false⟩ }
  else if cause = .abortOrder then leaveWeld (stopShoes s)
  else endWeld .notStarted (abortReason cause) none (stopShoes s)

/-- The end of an aborted TOUCH or CLAIM_WAIT (R118): at once without a retract for CLAMP_SLIP and SENSOR_FAULT, after CLEAR
for E_STOP or while the station is held, otherwise after the retract. -/
def abortBeforeCurrent (cause : FaultCode) (s : State) : State :=
  if holdCode cause then endWeld .notStarted (abortReason cause) none s
  else if s.motionHeld then { s with wsq.ending := some ⟨abortReason cause, false, false⟩ }
  else beginEnding (abortReason cause) s

/-! ### The abort path (R117 to R121) -/

/-- Flash time elapsed on the limit, which is stopped (R86). -/
def stopFlashTime (s : State) : State :=
  match s.wsq.flashTimer with
  | none => s
  | some left => { s with wsq.flashTimer := none, flash.flashTime := seconds s.sched.flashTimeS - left }

/-- Flash control ends its work: at the start of the abort path (R78, R92) and at UPSET entry (R89). -/
def flashEnds (s : State) : State :=
  { s with
    flash.step := none
    flash.offAwaited := false
    flash.feed := none
    flash.streakTimer := none
    flash.openMark := false
    flash.lostTimer := none }

/-- Work in hand stops: the timers of R17, flash control, the trim window (R117, step 3). -/
def stopWork (s : State) : State :=
  truAbort
    (flashEnds
      (stopFlashTime { s with wsq.contactTimer := none, wsq.openTimer := none, wsq.upsetTimer := none }))

/-- The path of PREHEAT, FLASH and BOOST: hold, drive idle, yield, retract (R119). -/
def abortFlash (s : State) : State :=
  let t := platenHold s
  if s.cdr.mode ≠ .off ∧ s.cdr.drive ≠ .blocked then normalOff (setStep .driveIdle t)
  else beginRetract (yieldOwn t)

/-- The path of UPSET: current ends, the forge runs on under a fresh time limit (R120). -/
def abortUpset (s : State) : State :=
  let t := endUpsetCurrent s
  { t with wsq.upsetTimer := if s.motionHeld then none else some s.sched.upsetTimeMs }

/-- The path of TRIM: with a stroke under way it waits for the report; otherwise COOL is entered, at CLEAR if the station is
held (R121, R122). -/
def abortTrim (s : State) : State := if strokeUnderWay s || s.motionHeld then s else enterCool s

/-- The path of the abort phase begins (R117, step 4). -/
def beginPath (cause : FaultCode) (phase : WeldPhase) (s : State) : State :=
  match phase with
  | .check => abortCheck cause s
  | .touch => abortBeforeCurrent cause (platenHold s)
  | .claimWait => abortBeforeCurrent cause (yieldOwn s)
  | .preheat => abortFlash s
  | .flash => abortFlash s
  | .boost => abortFlash s
  | .upset => abortUpset s
  | .hold => s
  | .trim => abortTrim s
  | .cool => s
  | .closing => s

/-- The abort path starts (R117). -/
def startAbort (cause : FaultCode) (phase : WeldPhase) (s : State) : State :=
  beginPath cause phase (stopWork { s with wsq.abort := some ⟨cause, phase, .runOn⟩ })

/-- A NOT_STARTED ending has begun its retract: no abort path starts (R26, R117). -/
def endingBegun (s : State) : Bool := s.wsq.ending.any (·.begun)

/-- The abort path may start: a weld is in progress from CHECK entry to CLOSING entry, with no path under way and no ending
begun (R117). -/
def mayAbort (s : State) : Bool :=
  s.welding && s.wsq.phase != some .closing && !s.aborting && !endingBegun s

/-- An abort path starts if it may. -/
def tryAbort (cause : FaultCode) (s : State) : State :=
  match s.wsq.phase with
  | none => s
  | some p => if mayAbort s then startAbort cause p s else s

/-! ### Faults (R28) -/

/-- A fault is filed in the open record with its severity, or set as the last fault code (R28). -/
def fileFault (code : FaultCode) (s : State) : State :=
  match s.wsq.phase with
  | none => { s with wsq.lastFault := .fault code }
  | some p =>
    if s.recordOpen then fileEntry code (code.severity s.cdr.overcurrentCount) p s
    else { s with wsq.lastFault := .fault code }

/-- A block reports a fault: it is filed, and ABORT severity starts the abort path if none is under way (R28). -/
def reportFault (code : FaultCode) (s : State) : State :=
  let t := fileFault code s
  if code.severity s.cdr.overcurrentCount = .abort then tryAbort code t else t

end Sys2Proof.Machine
end

