-- ==== Sys2Proof/Machine/Phases.lean ====
section
/-! DEFINITION. WSQ, second part: pauses, the weld phases from CHECK to TRIM, admission with its first current phase,
oversubscription, and the reports of PCU, TRU and CDR that carry a weld from one phase to the next. -/

namespace Sys2Proof.Machine

/-! ### Pause (R90, R95, R113) -/

/-- A pause event at flash control: the platen holds, and the feed stage becomes HELD (R90). -/
def flashPause (s : State) : State :=
  if s.aborting = false ∧ (s.flash.feed = some .feeding ∨ s.flash.feed = some .stepping) then
    { platenHold s with flash.feed := some .held }
  else s

/-- A pause cuts the upset current for the rest of UPSET (R95). -/
def cutUpset (s : State) : State :=
  if s.wsq.upsetMark then endUpsetCurrent (reportFault .upsetCurrentCut s) else s

/-- A pause begins (R113): counters and timer, the pause event at CDR and WSQ, SUPPLY_SAG reported. -/
def beginPause (s : State) : State :=
  let t :=
    { s with
      stl.pause := .paused
      stl.deglitched := false
      stl.deglitch := none
      stl.pauseCount := bump16 s.stl.pauseCount
      stl.pauseTimer := some s.loc.pauseMaxMs
      stl.lostReported := false }
  reportFault .supplySag (cutUpset (flashPause (loseRun t)))

/-! ### HOLD, TRIM (R98, R100, R101) -/

/-- HOLD is entered (R98): FORCE at the hold force unless motion is barred, and the hold time. -/
def enterHold (s : State) : State :=
  let t := enterPhase .hold s
  let u := if s.wsq.barred then t else platenForce t.wsq.active.holdForce s.loc.moveSpeed t
  { u with
    wsq.holdTimer := some (seconds s.sched.holdS)
    wsq.pullRequested := false
    wsq.expired := false }

/-- TRIM is entered (R101): a result LATE ends it at once, otherwise TRU is asked for the stroke. -/
def enterTrim (s : State) : State :=
  let t := enterPhase .trim s
  if s.tru.result = some .late then enterCool t else requestStroke t

/-- TRU reports its result: TRIM ends and COOL is entered (R100, R102). -/
def trimReport (result : TrimResult) (s : State) : State :=
  let t := { s with tru.result := some result }
  if s.wsq.phase = some .trim then enterCool t else t

/-- The pull at HOLD end of a closure weld, read and checked (R48); skipped while the plausibility check is tripped. -/
def readPull (s : State) : State :=
  if s.wsq.kind = .closure ∧ s.pcu.tripped = false then
    let t := { s with pcu.pullAtHoldEnd := some s.pcu.force }
    if pullInBand s (s.pcu.pullTarget.getD 0) s.pcu.force then t else reportFault .stressDeviation t
  else s

/-- HOLD ends: pull, then TRIM, or COOL when trim_enable is off or the weld is aborted (R98, R120, R121). -/
def endHold (s : State) : State :=
  let t := readPull { s with wsq.holdTimer := none, wsq.expired := false }
  if s.aborting || s.sched.trimEnable == 0 then enterCool t else enterTrim t

/-! ### UPSET (R93 to R97) -/

/-- The FORCE request of UPSET (R93). -/
def requestUpset (s : State) : State := platenForce s.wsq.active.upsetForce s.sched.upsetSpeed s

/-- UPSET is entered (R89, R93); a pause in force ends upset current at once (R93, R95). -/
def enterUpset (s : State) : State :=
  let t := enterPhase .upset (flashEnds (stopFlashTime s))
  let u :=
    { requestUpset t with
      wsq.upsetStart := some s.pcu.plausPosition
      wsq.upsetMark := true
      wsq.upsetDistance := none
      wsq.upsetPeak := none }
  let v := { driveRequest .upsetCurrent t.wsq.active.trip u with wsq.upsetTimer := some s.sched.upsetTimeMs }
  if s.paused then cutUpset v else v

/-- The comparison of step 4 of R96. -/
def checkUpset (distance : Int) (s : State) : State :=
  if distance < s.sched.upsetMin then reportFault .upsetShort s
  else if s.sched.upsetMax < distance then reportFault .upsetLong s
  else s

/-- UPSET ends at a position with a highest force: limit stopped, current ended, distance and peak taken and checked, trim
window opened, HOLD entered (R96, R97). -/
def endUpset (position peak : Int) (s : State) : State :=
  let distance := position - s.wsq.upsetStart.getD position
  let t := endUpsetCurrent { s with wsq.upsetTimer := none }
  enterHold
    (openWindow
      (checkUpset distance { t with wsq.upsetDistance := some distance, wsq.upsetPeak := some peak }))

/-! ### FLASH and BOOST (R79, R81, R82, R84, R87) -/

/-- Flash control takes up the feed at the speed of R80 or R87. -/
def feed (s : State) : State := { platenSpeed (feedSpeed s) s with flash.feed := some .feeding }

/-- BOOST is entered (R87). -/
def enterBoost (s : State) : State :=
  let t := enterPhase .boost s
  driveRequest .boost t.wsq.active.trip
    { t with flash.boostBase := s.flash.highMark, flash.boostDone := some 0 }

/-- FLASH ends on burn-off: BOOST, or UPSET when boost_dist is 0 (R81). -/
def endFlash (s : State) : State := if s.sched.boostDist = 0 then enterUpset s else enterBoost s

/-- FLASH is entered (R79): flash scale recorded, approach begun, flash time started. -/
def enterFlash (s : State) : State :=
  let t := enterPhase .flash s
  startContactMove .advance
    (onRecord (fun r => { r with flashScale := some t.wsq.inForce.scale })
      { t with
        flash.feed := some .approach
        flash.step := none
        wsq.flashTimer := some (seconds s.sched.flashTimeS)
        flash.flashTime := 0 })

/-- Flash control acts on SHORT, OPEN and contact regained: FLASH or BOOST, after the approach, no abort path (R82,
R84). -/
def flashActs (s : State) : Bool := followsMark s

/-- A retract step answers a SHORT (table of R82). -/
def retractStep (s : State) : State :=
  if s.flash.feed = some .held then s
  else { platenRetract s.sched.retractStep s with flash.feed := some .stepping }

/-- A SHORT event (R82, R83). -/
def shortEvent (s : State) : State :=
  if flashActs s then
    let t :=
      { s with
        flash.shortCount := bump16 s.flash.shortCount
        flash.streak := s.flash.streak + 1
        flash.streakTimer := some s.sched.streakResetMs }
    if s.sched.streakLimit < s.flash.streak + 1 then reportFault .flashFreeze t else retractStep t
  else s

/-- An open run reaches its count (R65): OPEN to flash control, or NO_CONTACT. -/
def openEvent (mode : DriveMode) (s : State) : State :=
  if mode = .flash ∨ mode = .boost then
    if flashActs s then { s with flash.openMark := true, flash.lostTimer := some s.sched.flashLostMs } else s
  else reportFault .noContact s

/-- Contact regained (R84); in the other modes WSQ takes no action on it (R65). -/
def contactRegained (s : State) : State :=
  if flashActs s ∧ s.flash.openMark then { s with flash.openMark := false, flash.lostTimer := none } else s

/-- The reports of a complete carrier cycle, in the order of their rules (assumption log 9). -/
def deliverReports (mode : DriveMode) (r : CycleReports) (s : State) : State :=
  let a := if r.short then shortEvent s else s
  let b := if r.openReached then openEvent mode a else a
  let c := if r.regained then contactRegained b else b
  if r.imbalance then reportFault .fluxImbalance c else c

/-- A complete carrier cycle is classed, the flux correction and the bound count updated, and the reports delivered (R63 to
R68). -/
def evaluateCycle (s : State) : State :=
  let (k, t) := cycleClass s
  let (r, u) := evaluateRuns k t
  deliverReports s.cdr.mode r u

/-! ### PREHEAT (R75 to R77, R21) -/

/-- A preheat cycle starts with its ADVANCE step (R75). -/
def startAdvance (s : State) : State :=
  startContactMove .advance { s with flash.step := some .advance }

/-- PREHEAT is entered (R23, R75). -/
def enterPreheat (s : State) : State := startAdvance (enterPhase .preheat s)

/-- The flash speed scale of an energy (R21): 100 × reference / E, halves up, clipped to 80 to 120. -/
def adaptedScale (ref e : Nat) : Nat := clampNat 80 120 (roundDiv (100 * ref) e)

/-- Preheat adaptation at PREHEAT end (R21). -/
def adaptPreheat (s : State) : State :=
  let e := energyKj s.cdr.carrierHz s.cdr.energy.preheat
  if s.sched.preEnergyRef = 0 ∨ e = 0 then s
  else { s with wsq.pendingSet.scale := adaptedScale s.sched.preEnergyRef e, wsq.switchPending := true }

/-! ### Admission (R14, R23, R132) and oversubscription (R142) -/

/-- The first current phase is entered with the nonvolatile update of R23: PREHEAT, or FLASH when pre_cycles is 0. -/
def enterFirstPhase (s : State) : State :=
  if s.sched.preCycles = 0 then enterFlash (weldNumberUpdate .flash s)
  else enterPreheat (weldNumberUpdate .preheat s)

/-- The station begins drawing while the bus is in a deglitched SAG: a pause begins (R113). -/
def pauseAtAdmission (s : State) : State :=
  if s.stl.pause = .sag ∧ s.stl.deglitched ∧ s.motionHeld = false then beginPause s else s

/-- The own claim is admitted (R132): SHT's changes, then WSQ's phase, then STL's pause if the bus sags. -/
def admitOwn (s : State) : State := pauseAtAdmission (enterFirstPhase (admitClaim s))

/-- Admission is evaluated (R132). -/
def evaluateAdmission (s : State) : State := if admissible s then admitOwn s else s

/-- Oversubscription is evaluated: counted when it comes to hold, backed off from in PREHEAT behind a loading entry
(R142). -/
def evaluateOversubscription (s : State) : State :=
  let now := oversubscribed s
  let t :=
    { s with
      sht.oversubscriptions :=
        if now && !s.sht.oversubscribed then bump16 s.sht.oversubscriptions else s.sht.oversubscriptions
      sht.oversubscribed := now }
  if now && s.wsq.phase == some .preheat && loadAhead s then yieldOwn (reportFault .oversubscribed t) else t

/-- After a change of the claim list: admission, then oversubscription (R129). -/
def evaluateShare (s : State) : State := evaluateOversubscription (evaluateAdmission s)

/-- A peer became DISCORDANT while the own claim is QUEUED: it is yielded and the weld ends NOT_STARTED (R141, R27). -/
def discordYield (s : State) : State :=
  if s.ownClaim.any (·.state == .queued) then
    let t := yieldOwn s
    if s.wsq.phase = some .claimWait ∧ mayAbort s then beginEnding .discord t else t
  else s

/-! ### CHECK, TOUCH, CLAIM_WAIT (R25 to R27) -/

/-- CLAIM_WAIT is entered and a claim is asked for (R27, R130); the new claim is QUEUED (R54). With the clock spent and a peer
DISCORDANT together the reason is CLOCK_SPENT, the first that R130 names (assumption log 26). -/
def enterClaimWait (s : State) : State :=
  let t := { enterPhase .claimWait s with wsq.claimWaitAt := s.now }
  if clockSpent s then beginEnding .clockSpent t
  else if discord s then beginEnding .discord t
  else evaluateShare (loseRun (makeClaim s.sched.demandKva t))

/-- The required stroke (R46, test 1). -/
def strokeNeeded (c : Schedule) : Nat :=
  (if c.preCycles = 0 then 0 else c.preOpenDist) + c.flashBurnoff + c.boostDist + c.upsetMax

/-- The upset force of the force budget: formed from the pending force offset at the test (R26, R46). -/
def budgetForce (s : State) : Nat := withOffset s.sched.upsetForce s.wsq.pendingSet.force

/-- The two budget tests after touch completion (R46), and what follows from them (R26). -/
def budgetTests (touchPos : Int) (s : State) : State :=
  if s.loc.strokeFwd - touchPos < strokeNeeded s.sched then beginEnding .strokeShort s
  else if s.loc.platenMaxKn < budgetForce s + s.pcu.pullTarget.getD 0 then beginEnding .forceShort s
  else enterClaimWait s

/-- Touch completion (R44): touch_pos, gap, and in a closure weld the initial pull, which is the force basis (R41). -/
def completeTouch (s : State) : State :=
  let t := platenHold s
  budgetTests s.pcu.contactPosition
    { t with
      pcu.touchPos := some s.pcu.contactPosition
      pcu.gap := some (if s.pcu.contactFromStart then 0 else s.pcu.contactPosition - s.pcu.touchStart)
      pcu.initialPull := if s.wsq.kind = .closure then some s.pcu.contactForce else none
      pcu.forceBasis := if s.wsq.kind = .closure then s.pcu.contactForce else 0 }

/-- TOUCH is entered (R26, R44). -/
def enterTouch (s : State) : State := startContactMove .touch (enterPhase .touch s)

/-- TOUCH_FAIL (R26, R44). -/
def touchFail (s : State) : State := beginEnding .touchFail (platenHold s)

/-- An offset clipped to a schedule's bound (R20). -/
def clipOffset (bound : Nat) (x : Int) : Int := clampInt (-bound) bound x

/-- The pending offsets are clipped at CHECK entry; switch-pending is kept (R20). -/
def clipPending (c : Schedule) (a : Adjustment) : Adjustment where
  scale := a.scale
  trip := clipOffset c.adjTripPct a.trip
  speed := clipOffset c.adjSpeedPct a.speed
  force := clipOffset c.adjForcePct a.force

/-- A rail temperature reading is valid: present and within -40 to +90 °C (R25). -/
def validTemp : Option Int → Option Int
  | none => none
  | some t => if -40 ≤ t ∧ t ≤ 90 then some t else none

/-- CHECK entry: the order's parameters, the CHECK position, the clipped offsets, the sampled temperature, and what is
cleared for the new weld (R25, R74, R93, R104). -/
def beginCheck (sched : Nat) (kind : WeldKind) (neutral : Int) (railTemp : Option Int) (s : State) : State :=
  truNewWeld
    { s with
      flash := .initial
      wsq.sched := sched
      wsq.kind := kind
      wsq.neutral := neutral
      wsq.checkPos := s.pcu.position
      wsq.railTemp := validTemp railTemp
      wsq.pendingSet := clipPending (s.schedule sched) s.wsq.pendingSet
      wsq.upsetStart := none
      wsq.upsetMark := false
      wsq.upsetDistance := none
      wsq.upsetPeak := none
      wsq.coolAt := none
      wsq.coolingDone := none
      wsq.expired := false
      wsq.abort := none
      wsq.ending := none
      wsq.barred := false
      wsq.weldNo := none
      wsq.weldStarted := false }

/-- Tests 2 to 6 of CHECK: the reason of the first that fails (R25). -/
def checkFailure (s : State) : Option Reason :=
  if s.wsq.isolated then some .isolated
  else if discord s then some .discord
  else if clockSpent s then some .clockSpent
  else if !slotAvailable s.wrs then some .logFull
  else if s.wsq.kind == .closure && s.wsq.railTemp.isNone then some .sensor
  else none

/-- The pull target of a closure weld that passes test 6 (R25, R47). -/
def setPullTarget (s : State) : State :=
  { s with
    pcu.pullTarget :=
      if s.wsq.kind = .closure then s.wsq.railTemp.map fun t => pullTargetOf s.loc.pullCoef s.wsq.neutral t else none }

/-- PCU makes the electrode contact check only with CDR not RUNNING and the clamps CLOSED (R43, R53). -/
def mayMeasure (s : State) : Bool := s.cdr.drive != .running && s.pcu.clamp == some .closed

/-- WSQ asks for the electrode contact check (R43). In CHECK both of its conditions hold. -/
def askShoes (s : State) : State := if mayMeasure s then startShoes s else s

/-- Tests 2 to 6, and the start of test 7 (R25, R43). -/
def runCheck (s : State) : State :=
  match checkFailure s with
  | some reason => endWeld .notStarted reason none s
  | none => askShoes (setPullTarget s)

/-- CHECK of a WELD order taken (R25). Test 1 decides whether the station state becomes WELDING. -/
def takeWeld (sched : Nat) (kind : WeldKind) (neutral : Int) (railTemp : Option Int) (s : State) : State :=
  let t := beginCheck sched kind neutral railTemp s
  if s.wsq.station = .clamped then
    runCheck { setStation .welding t with wsq.phase := some .check }
  else endOrder .notStarted .notClamped none (neutralSets t)

/-! ### Movement reports (R26, R77, R82, R91, R119) -/

/-- PCU reports a move complete or complete short; the platen is in HOLD. -/
def movementDone (s : State) : State :=
  match s.wsq.ending with
  | some e => if e.moving then endWeld .notStarted e.reason none s else s
  | none =>
    match s.wsq.abort with
    | some a =>
      match a.step with
      | .retracting _ => enterClosing (setStep .runOn s)
      | _ => s
    | none =>
      if s.flash.step = some .part then
        { s with flash.step := some .open, wsq.openTimer := some s.sched.preOpenMs }
      else if s.flash.feed = some .stepping then feed s
      else s

/-- The advance to contact ends with contact (R75, R76, R79). -/
def advanceDone (s : State) : State :=
  let t := platenHold s
  if s.flash.step = some .advance then
    { driveRequest .preheatContact s.wsq.active.trip { t with flash.step := some .contact } with
      wsq.contactTimer := some s.sched.preContactMs }
  else if s.flash.feed = some .approach then
    let u :=
      driveRequest .flash s.wsq.active.trip
        { t with
          flash.startPos := some s.pcu.position
          flash.highMark := some s.pcu.position
          flash.burnOff := some 0 }
    if s.paused then { u with flash.feed := some .held } else feed u
  else t

/-- The OPEN step ends: the cycle is counted, and the next ADVANCE or FLASH begins (R77, R21). -/
def openStepEnds (s : State) : State :=
  let t := { s with wsq.openTimer := none, flash.cyclesDone := s.flash.cyclesDone + 1 }
  if s.flash.cyclesDone + 1 < s.sched.preCycles then startAdvance t else enterFlash (adaptPreheat t)

end Sys2Proof.Machine
end

