-- ==== Sys2Proof/Machine/Holds.lean ====
section
/-! DEFINITION. What holds the head and what lets it go again: FAULT_HOLD, the emergency stop, CLEAR, and the clamp reports
that bring a station from one state to the next (R3 to R9, R107, R122, R123). -/

namespace Sys2Proof.Machine

/-! ### Clamp reports at WSQ (R3 to R5, R9) -/

/-- How the executing CLAMP or UNCLAMP ends at a clamp report: DONE, or FAILED with the reason kept since a timeout (R3,
R4). -/
def endClampOrder (s : State) : State :=
  match s.wsq.clampFail with
  | none => endOrder .done .none none s
  | some reason => endOrder .failed reason none { s with wsq.clampFail := none }

/-- An executing CLAMP or UNCLAMP ends FAILED (R5, R8). -/
def failClampOrder (reason : Reason) (s : State) : State :=
  if s.wsq.station = .clamping ∨ s.wsq.station = .unclamping then
    endOrder .failed reason none { s with wsq.clampFail := none }
  else s

/-- PCU reports the clamps CLOSED or OPEN: the clamp movement of the station ends in this state (R3, R4, R5, R9). -/
def clampReport (st : StationState) (s : State) : State :=
  if s.wsq.station = .clamping ∨ s.wsq.station = .unclamping then endClampOrder (setStation st s) else s

/-- The clamps are CLOSED: timer and valve, detector armed, reported (R33). -/
def clampsClosed (s : State) : State :=
  clampReport .clamped
    (armSlip
      { s with
        pcu.clamp := some .closed
        pcu.clampValve := .hold
        pcu.clampTimer := none
        pcu.reversal := false })

/-- The clamps are OPEN: timer and valve, force in use cleared, reported (R3, R34). -/
def clampsOpen (s : State) : State :=
  clampReport .idle
    (clearClampForce
      { s with
        pcu.clamp := some .open
        pcu.clampValve := .hold
        pcu.clampTimer := none
        pcu.reversal := false })

/-! ### FAULT_HOLD (R8, R123) -/

/-- FAULT_HOLD applies: after the listening window, with the clamps not OPEN (R8). -/
def holdApplies (s : State) : Bool := s.configured && s.wsq.station != .listening && s.clampsNotOpen

/-- The station state of a FAULT_HOLD entry: STOPPED keeps it as part of its return; RECOVER is remembered (R8). -/
def faultStation (s : State) : State :=
  if s.wsq.station = .stopped then { s with wsq.returnFault := true }
  else if s.wsq.station = .faultHold then s
  else
    { s with
      wsq.station := .faultHold
      wsq.idleTimer := none
      wsq.returnState := if s.wsq.station = .recover then some .recover else none }

/-- The abort path's step when its motion is stopped: a retract under way is kept as the step to make again (R122). -/
def stopStep (s : State) : State :=
  match s.wsq.abort with
  | some ⟨_, _, .retracting target⟩ => setStep (.retractStopped target) s
  | _ => s

/-- The move of a NOT_STARTED ending is stopped (R26, R122). -/
def stopEnding (s : State) : State :=
  { s with wsq.ending := s.wsq.ending.map fun e => { e with moving := false } }

/-- A weld in progress is held: motion steps stop, and the upset time limit with them (R120, R122). -/
def holdWeld (s : State) : State := stopEnding (stopStep { s with wsq.upsetTimer := none })

/-- The entry changes of FAULT_HOLD (R8, R116, R123): platen and trimmer held, a pause ended by the latest sample, the drive
off at once, motion barred in a weld; a check or touch move ends (R42, R43). -/
def faultHoldEntry (s : State) : State :=
  let t := stopShoes (platenHold (faultStation s))
  let u := holdWeld { t with wsq.barred := s.wsq.barred || s.welding }
  immediateOff (endPause (truHold u))

/-- A NOT_STARTED ending that has begun its retract ends at once (R26). -/
def endBegunEnding (s : State) : State :=
  match s.wsq.ending with
  | some e => if e.begun then endWeld .notStarted e.reason none s else s
  | none => s

/-- CLAMP_SLIP or SENSOR_FAULT is reported (R8, R28, R42, R107): the clamp valve holds, and a clamp movement under way is
marked stopped, its order ending FAILED. In FAULT_HOLD already, it is filed and has no further effect. -/
def reportHold (code : FaultCode) (s : State) : State :=
  if !holdApplies s then fileFault code s
  else if s.wsq.station = .faultHold then reportFault code s
  else endBegunEnding (reportFault code (faultHoldEntry (clampsStop (failClampOrder (.fault code) s))))

/-- A reversal timeout is reported (R8, R34): the valve holds, the clamp state stays with no stopped marker, an executing
order ends FAILED with CLAMP_TIMEOUT, and the last fault code is CLAMP_TIMEOUT. -/
def reversalTimeout (s : State) : State :=
  let t := failClampOrder .clampTimeout { s with pcu.clampValve := .hold, pcu.clampTimer := none }
  { faultHoldEntry t with wsq.lastFault := .clampTimeout }

/-! ### The emergency stop (R7, R35, R55, R103, R108, R122) -/

/-- The field side is powered from DORMANT: detector from NORMAL, first samples awaited, TRU from its first switch sample
(R7, R13, R35, R99, R112). -/
def powerField (s : State) : State :=
  detectorReset
    { s with
      pcu.powered := true
      pcu.posSeen := false
      pcu.wakeSample := true
      pcu.clampValve := .hold }

/-- WSQ's station state at ACTIVE (table of R7); the field side is powered when DORMANT is left. -/
def stopStation (returnSwitch : Bool) (s : State) : State :=
  match s.wsq.station with
  | .loading => s
  | .unconfigured => s
  | .listening => s
  | .stopped => s
  | .dormant =>
    truFirstSample returnSwitch
      (powerField { s with wsq.station := .stopped, wsq.returnState := some .dormant })
  | .faultHold => { s with wsq.station := .stopped, wsq.returnFault := true }
  | .recover => { s with wsq.station := .stopped, wsq.returnState := some .recover }
  | .idle => { s with wsq.station := .stopped, wsq.returnState := some .idle, wsq.idleTimer := none }
  | .clamping => { s with wsq.station := .stopped, wsq.returnState := some .clamping }
  | .clamped => { s with wsq.station := .stopped, wsq.returnState := some .clamped }
  | .unclamping => { s with wsq.station := .stopped, wsq.returnState := some .unclamping }
  | .welding => { s with wsq.station := .stopped, wsq.returnState := some .welding }
  | .waking => { s with wsq.station := .stopped, wsq.returnState := some .waking }

/-- A weld in progress when ACTIVE is entered: E_STOP is filed and starts the path if none is under way; not in CLOSING
(R7, R107, R122), where it does not become the last fault code either (assumption log 22). -/
def stopWeld (s : State) : State :=
  if s.welding && s.wsq.phase != some .closing then reportFault .eStop s else s

/-- WSQ at ACTIVE, from the state the station left: nothing more if it was STOPPED already (R7, R109). -/
def stopOrders (left : StationState) (s : State) : State :=
  match left with
  | .clamping => endOrder .failed (.fault .eStop) none { s with wsq.clampFail := none }
  | .unclamping => endOrder .failed (.fault .eStop) none { s with wsq.clampFail := none }
  | .welding => stopWeld s
  | .faultHold => stopWeld s
  | _ => s

/-- STL enters ACTIVE (R108): the outputs hold, the station is STOPPED, a STOP notice is queued last (assumption log 14). A
pause ends by the latest sample before carrier timing stops (R116). The trimmer valve is set to hold in every station state,
in LOADING, UNCONFIGURED and LISTENING too, where R50 and R179 keep it at return (assumption log 31). -/
def enterActive (returnSwitch : Bool) (s : State) : State :=
  let t := stopStation returnSwitch { s with stl.stop := .active, stl.debounce := none }
  let u := holdWeld (stopShoes (platenHold t))
  let v := immediateOff (endPause (truHold (clampsStop u)))
  stopNotice (stopOrders s.wsq.station v)

/-! ### CLEAR (R9, R103, R122, R123) -/

/-- A held NOT_STARTED ending is taken up (R26, R118, R122, R123). -/
def resumeEnding (e : Ending) (s : State) : State :=
  if s.wsq.phase = some .check ∨ s.wsq.barred then endWeld .notStarted e.reason none s
  else beginEnding e.reason s

/-- UPSET is taken up: FORCE again with a fresh limit, or its end when motion is barred (R120, R122, R123). -/
def resumeUpset (s : State) : State :=
  if s.wsq.barred then endUpset s.pcu.plausPosition s.pcu.highForce s
  else
    { platenForceAgain s.wsq.active.upsetForce s.sched.upsetSpeed s with
      wsq.upsetTimer := some s.sched.upsetTimeMs }

/-- The phase kept is taken up when the path has no step of its own to wait for (tables of R122 and R123). -/
def resumePhase (s : State) : State :=
  match s.wsq.phase with
  | some .upset => resumeUpset s
  | some .hold => if s.wsq.expired then endHold s else s
  | some .trim => if strokeUnderWay s then s else enterCool s
  | some .cool => if s.wsq.expired then endCool s else s
  | _ => s

/-- The abort path continues from the step it was held at (R122, R123). -/
def resumeAbort (a : Abort) (s : State) : State :=
  match a.step with
  | .driveIdle => s
  | .retractWait => beginRetract s
  | .retracting _ => s
  | .retractStopped target =>
    if s.wsq.barred then enterClosing (setStep .runOn s)
    else platenPosition target (setStep (.retracting target) s)
  | .runOn => resumePhase s

/-- A weld in progress continues (R9, case 1). -/
def resumeWeld (s : State) : State :=
  if s.wsq.phase = some .closing then s
  else
    match s.wsq.ending with
    | some e => resumeEnding e s
    | none =>
      match s.wsq.abort with
      | some a => resumeAbort a s
      | none => s

/-- The return by PCU's clamp state (R9, case 3); a stopped movement is reversed, one left by a reversal timeout is
settled. -/
def returnByClamp (s : State) : State :=
  match s.pcu.clamp with
  | some .closed => setStation .clamped s
  | some .open => setStation .idle s
  | some .closing =>
    if s.pcu.stopped then openRequest true (setStation .unclamping s)
    else returnSettled (settleClamp s)
  | some .opening =>
    if s.pcu.stopped then closeRequest true (setStation .clamping s)
    else returnSettled (settleClamp s)
  | none => setStation .idle s
where
  /-- CLAMPED or IDLE by the settled clamp state. -/
  returnSettled (s : State) : State :=
    if s.pcu.clamp = some .closed then setStation .clamped s else setStation .idle s

/-- The station returns from STOPPED or FAULT_HOLD (R9); TRU has taken up its movement. -/
def returnFromHold (s : State) : State :=
  let back := s.wsq.returnState
  let t := { s with wsq.returnState := none, wsq.returnFault := false }
  if s.welding then resumeWeld { t with wsq.station := .welding }
  else if back = some .recover then
    if s.wsq.recoverTimer.isSome then setStation .recover t else setStation .clamped t
  else returnByClamp t

end Sys2Proof.Machine
end

