-- ==== Sys2Proof/Machine/Orders.lean ====
section
/-! DEFINITION. ORQ, the Order Queue (chapter 9): the acceptance checks, every immediate order with its answer, the STATUS
data, the wake with its held list, and the arrival list. -/

namespace Sys2Proof.Machine

/-! ### DORMANT and WAKING (R11 to R13) -/

/-- The station enters DORMANT: drive, valves and sensors unpowered, the sag detector off (R12, R35, R112). -/
def enterDormant (s : State) : State :=
  let t := detectorReset (stopShoes (platenHold (blockDrive s)))
  setStation .dormant
    { t with
      pcu.powered := false
      pcu.wakeSample := false
      pcu.clampValve := .unpowered
      pcu.clampTimer := none
      tru.valve := .return
      wsq.wakeTimer := none }

/-- The wake starts: the field side is powered for wake_ms (R13). -/
def startWake (s : State) : State :=
  { powerField s with wsq.station := .waking, wsq.wakeTimer := some s.loc.wakeMs }

/-! ### Queued orders (R162) -/

/-- The schedule number a queued order names. -/
def QueuedKind.sched : QueuedKind → Option Nat
  | .clamp n => some n
  | .weld n _ _ => some n
  | .unclamp => none

/-- A WELD's schedule asks for more than the capacity (R162, check 6). -/
def demandExceeds (s : State) : QueuedKind → Bool
  | .weld n _ _ => decide (s.shr.capacityKva < (s.schedule n).demandKva)
  | .clamp _ => false
  | .unclamp => false

/-- A WELD's neutral temperature lies outside -10 to +50 °C (R162, check 7). -/
def neutralOut : QueuedKind → Bool
  | .weld _ _ neutral => decide (neutral < -10) || decide (50 < neutral)
  | .clamp _ => false
  | .unclamp => false

/-- The first of R162's checks that refuses a queued order. -/
def queuedRefusal (tag : Nat) (kind : QueuedKind) (s : State) : Option Reason :=
  if s.wsq.station = .unconfigured then some .unconfigured
  else if s.wsq.station = .listening then some .wrongState
  else if 4 ≤ s.orq.queue.length then some .queueFull
  else if s.orq.queue.any (·.tag == tag) then some .tagBusy
  else if kind.sched.any (7 < ·) then some .badSchedule
  else if demandExceeds s kind then some .demandExceeds
  else if neutralOut kind then some .outOfRange
  else none

/-- A well-formed queued order is accepted or refused (R162). -/
def handleQueued (src tag : Nat) (kind : QueuedKind) (s : State) : State :=
  match queuedRefusal tag kind s with
  | some reason => refuse src kind.code tag reason s
  | none => accept src kind.code tag { s with orq.queue := s.orq.queue ++ [⟨src, tag, kind, .waiting⟩] }

/-! ### ABORT (R5, R117, R124, R164) -/

/-- An order is named by a target (R164). -/
def named (target : Nat) (o : QueuedOrder) : Bool := target == 255 || o.tag == target

/-- A waiting order named by the target: it is removed (R164, step 1). -/
def removable (target : Nat) (o : QueuedOrder) : Bool := named target o && o.status == .waiting

/-- Head results (R164, step 3). -/
inductive HeadResult
  | none | started | already | closing
  deriving DecidableEq, Repr

/-- Code of a head result (R164). -/
def HeadResult.code : HeadResult → Nat
  | .none => 0
  | .started => 1
  | .already => 2
  | .closing => 3

/-- What an ABORT finds of the executing order it names (R164, steps 2 and 3). A CLAMP or UNCLAMP whose movement PCU reverses
after a clamp timeout (R3, R4) is still executing, so it is named and answered STARTED: R5 and R164 leave unnamed an order
whose end was taken, and say nothing of this reversal (assumption log 36). -/
def headResult (target : Nat) (s : State) : HeadResult :=
  match executing s with
  | none => .none
  | some o =>
    if !named target o then .none
    else if o.kind.isWeld then
      if s.wsq.phase = some .closing then .closing
      else if s.aborting || endingBegun s then .already
      else .started
    else .started

/-- An ABORT order naming the weld is filed while a record is open (R117, R124). -/
def fileAbortOrder (s : State) : State := if s.recordOpen then fileFault .abortOrder s else s

/-- An executing CLAMP is reopened, an executing UNCLAMP reclosed (R5). Where PCU already reverses the movement after a clamp
timeout, that reversal runs on, and the order ends with ABORTED in place of CLAMP_TIMEOUT (assumption log 36). -/
def abortClamp (s : State) : State :=
  let t := { s with wsq.clampFail := none }
  if s.wsq.station = .clamping then loseRun (openRequest true t) else closeRequest true t

/-- The abort passed to WSQ (R164, step 2): not acted on in CLOSING nor once a NOT_STARTED ending has begun. An order it ends
at once is still executing after it; endAborted sends its DONE notice. -/
def passAbort (target : Nat) (s : State) : State :=
  match executing s with
  | none => s
  | some o =>
    if !named target o then s
    else if o.kind.isWeld then
      if s.wsq.phase = some .closing ∨ endingBegun s then s else tryAbort .abortOrder (fileAbortOrder s)
    else abortClamp s

/-- The outcome of an order that the abort ends at once: FAILED of a CLAMP or UNCLAMP (R5), NOT_STARTED of a WELD in CHECK
(R118). -/
def abortOutcome (target : Nat) (s : State) : Option OrderOutcome :=
  match executing s with
  | none => none
  | some o =>
    if !named target o then none
    else if o.kind.isWeld then if s.wsq.phase = some .check ∧ mayAbort s then some .notStarted else none
    else some .failed

/-- The executing order that the abort has ended gets its DONE notice, with reason ABORTED (R164). -/
def endAborted (outcome : Option OrderOutcome) (s : State) : State :=
  match outcome with
  | none => s
  | some outcome => endOrder outcome .aborted none s

/-- The CANCELLED notices of removed orders, in queue order (R164, step 4). -/
def sendCancelled (removed : List QueuedOrder) (s : State) : State :=
  removed.foldl (fun t o => sendOther (doneNotice o .cancelled .aborted none .notice) t) s

/-- ABORT (R164): the waiting orders are removed, the abort is passed to WSQ, the answer says what both found, the CANCELLED
notices follow, and the executing order's own DONE notice comes last. -/
def handleAbort (src tag target : Nat) (s : State) : State :=
  if 16 ≤ target ∧ target ≤ 254 then refuse src 16 tag .outOfRange s
  else
    let removed := s.orq.queue.filter (removable target)
    let t := passAbort target { s with orq.queue := s.orq.queue.filter fun o => !removable target o }
    let data := be 1 removed.length ++ be 1 (headResult target s).code
    endAborted (abortOutcome target s) (sendCancelled removed (sendAnswer src 16 tag resultData .none data .answer t))

/-! ### CLEAR (R110) -/

/-- CLEAR is accepted by the stop state and the station state (table of R110). -/
def clearAccepted (s : State) : Bool :=
  s.stl.stop == .held || (s.stl.stop == .run && s.wsq.station == .faultHold)

/-- WSQ ends STOPPED or FAULT_HOLD; CLEAR in any other station state has no effect on WSQ (R9). -/
def wsqClear (s : State) : State := if s.motionHeld then returnFromHold s else s

/-- STL and WSQ act on an accepted CLEAR: TRU takes up its movement, the station returns, and a change of the stop state is
notified (R103, R110, R111). -/
def actClear (s : State) : State :=
  let t := wsqClear (truTakeUp { s with stl.stop := .run })
  if s.stl.stop = .held then stopNotice t else t

/-- CLEAR (R110). -/
def handleClear (src tag : Nat) (s : State) : State :=
  if clearAccepted s then accept src 17 tag (actClear s) else refuse src 17 tag .wrongState s

/-! ### STATUS (R165) -/

/-- Whole seconds left of a timer, rounded down; absent while it does not run. -/
def secondsLeft (t : Timer) : Option Nat := t.map (· / 1000)

/-- Flash items are shown from PREHEAT entry to the end of the weld order (R74): while the weld has a number. -/
def flashShown (s : State) : Bool := s.wsq.weldNo.isSome

/-- An item shown only while `shown` holds. -/
def shownIf (shown : Bool) (x : Option Nat) : Option Nat := if shown then x else none

/-- STATUS(STATION) part 1. -/
def stationPart1 (s : State) : List Byte :=
  be 1 s.wsq.station.code ++ be 1 (phaseCode s.wsq.phase)
    ++ be 1 (stationFlags s.wsq.isolated s.aborting s.wsq.barred) ++ be 1 s.wsq.lastFault.code
    ++ be 1 s.stl.stop.code ++ be 1 s.stl.pause.code ++ be 2 s.stl.sagCount ++ be 2 s.stl.pauseCount
    ++ be 2 s.orq.ordersLost ++ beOpt 1 ((executing s).map (·.tag)) ++ be 1 s.orq.queue.length
    ++ beOpt 4 s.wsq.weldNo

/-- STATUS(STATION) part 2. R165 marks the platen force as signed, and neither the platen position nor the lowest cooling
force: a negative one of these is sent in two's complement too (assumption log 34). In DORMANT, with the sensors unpowered,
position and force are those of the last sample taken before it; from the powering of the field side to its first sample they are
absent (DESIGN CHOICE, assumption log 39). -/
def stationPart2 (s : State) : List Byte :=
  be 1 s.cdr.drive.code ++ be 1 s.cdr.mode.code ++ beOpt 2 s.cdr.applied ++ beInt 1 s.cdr.flux
    ++ beOpt 1 (s.pcu.clamp.map ClampState.code) ++ beOpt 2 s.pcu.clampForceInUse ++ be 1 s.pcu.mode.code
    ++ (if s.pcu.posSeen then beInt 2 s.pcu.position else beAbsent 2)
    ++ (if s.pcu.posSeen then beInt 2 s.pcu.force else beAbsent 2)
    ++ be 1 s.tru.state.code ++ be 1 (flagBit s.tru.stopped 0) ++ beOpt 1 (secondsLeft s.tru.window)
    ++ beOpt 1 (s.tru.result.map TrimResult.code) ++ beOptInt 2 s.pcu.lowestForce

/-- The failed shoes as a mask, bit 0 LEFT_FIXED (R165). -/
def shoeMask (l : List Bool) : Nat := presenceMask l

/-- STATUS(STATION) part 3. With no electrode result the four resistances are absent and the failed shoes 0 (assumption log
21). -/
def stationPart3 (s : State) : List Byte :=
  let shown := flashShown s
  beOpt 1 (shownIf shown (some s.flash.cyclesDone)) ++ beOpt 1 (shownIf shown (s.flash.feed.map FeedStage.code))
    ++ (if shown then beOptInt 2 s.flash.burnOff else beAbsent 2)
    ++ (if shown then beOptInt 2 s.flash.boostDone else beAbsent 2)
    ++ beOpt 2 (shownIf shown (some s.flash.shortCount)) ++ beOpt 1 (shownIf shown (some s.flash.streak))
    ++ s.pcu.resistances.flatMap (beOpt 2) ++ be 1 (shoeMask s.pcu.failedShoes)

/-- STATUS(STATION) part 4. -/
def stationPart4 (s : State) : List Byte :=
  let kj := energyKj s.cdr.carrierHz
  be 4 (kj s.cdr.energy.preheat) ++ be 4 (kj s.cdr.energy.flash) ++ be 4 (kj s.cdr.energy.boost)
    ++ be 4 (kj s.cdr.energy.upset) ++ be 4 s.cdr.tally.preheat ++ be 4 s.cdr.tally.flash ++ be 4 s.cdr.tally.boost
    ++ be 4 s.cdr.tally.upset

/-- The own entry of the peer table, as SELF (Table 7-2), with 0 missed beacons, as the manual gives the entry no such value
(assumption log 29). -/
def selfEntry (s : State) : List Byte :=
  be 1 3 ++ be 1 0 ++ be 1 s.wsq.station.code ++ be 1 (reportedFlags (beaconNow s)) ++ be 2 s.sht.ownDigest
    ++ be 4 s.wrs.counter ++ beOpt 4 s.sht.lastOwnClaim

/-- A peer's entry. -/
def Peer.bytes (p : Peer) : List Byte :=
  be 1 p.presence.code ++ be 1 p.missed ++ beOpt 1 (p.reported.map (·.1)) ++ beOpt 1 (p.reported.map (·.2))
    ++ beOpt 2 p.digest ++ beOpt 4 p.weldCounter ++ beOpt 4 p.lastClaim

/-- Four entries of the peer table from a number (STATUS(SHARE) parts 1 and 2). -/
def sharePeers (from0 : Nat) (s : State) : List Byte :=
  [from0, from0 + 1, from0 + 2, from0 + 3].flatMap fun p => if p = s.node then selfEntry s else (peerOf s p).bytes

/-- A claim list entry; absent beyond the list's length. -/
def claimBytes : Option Claim → List Byte
  | none => beAbsent 10
  | some c => be 1 c.station ++ be 4 c.number ++ be 2 c.demand ++ be 1 c.state.code ++ beOpt 2 (secondsLeft c.drain)

/-- Four entries of the claim list from a place (STATUS(SHARE) parts 3 and 4). -/
def shareClaims (from0 : Nat) (s : State) : List Byte :=
  be 1 s.sht.claims.length
    ++ [from0, from0 + 1, from0 + 2, from0 + 3].flatMap fun k => claimBytes s.sht.claims[k]?

/-- STATUS(SHARE) part 5. -/
def sharePart5 (s : State) : List Byte :=
  be 4 s.sht.clock ++ be 1 (flagBit (clockSpent s) 0) ++ be 2 s.sht.ownDigest ++ be 2 s.sht.admissions
    ++ be 2 s.sht.claimTimeouts ++ be 2 s.sht.peerLosses ++ be 2 s.sht.staleDrains ++ be 2 s.sht.discordEvents
    ++ be 2 s.sht.oversubscriptions ++ be 2 s.sht.ignoredYields

/-- STATUS(LINK) part 1. -/
def linkPart (s : State) : List Byte :=
  be 2 s.lkc.crcErrors ++ be 2 s.lkc.lengthErrors ++ be 2 s.lkc.badKinds ++ be 2 s.lkc.foreignOrders
    ++ be 2 s.lkc.collisions ++ be 2 s.lkc.jammedDrops ++ be 2 s.lkc.queueFullDrops

/-- STATUS(RECORDS) part 1. -/
def recordsPart (s : State) : List Byte :=
  beOpt 4 (newestWeld s.wrs) ++ be 1 (heldCount s.wrs) ++ be 1 (emptyCount s.wrs) ++ be 4 s.wrs.counter

/-- The number of parts of a selector, none outside 1 to 4 (R165). -/
def statusParts (selector : Nat) : Option Nat :=
  if selector = 1 then some 4 else if selector = 2 then some 5
  else if selector = 3 then some 1 else if selector = 4 then some 1 else none

/-- The items of a part (table of R165). -/
def statusItems (selector part : Nat) (s : State) : List Byte :=
  if selector = 1 then
    if part = 1 then stationPart1 s else if part = 2 then stationPart2 s
    else if part = 3 then stationPart3 s else stationPart4 s
  else if selector = 2 then
    if part = 1 then sharePeers 0 s else if part = 2 then sharePeers 4 s
    else if part = 3 then shareClaims 0 s else if part = 4 then shareClaims 4 s else sharePart5 s
  else if selector = 3 then linkPart s
  else recordsPart s

/-- The first condition that refuses a STATUS order (R165). -/
def statusRefusal (selector part : Nat) (s : State) : Option Reason :=
  if s.wsq.station = .unconfigured ∧ selector ≠ 1 then some .unconfigured
  else
    match statusParts selector with
    | none => some .outOfRange
    | some n => if 1 ≤ part ∧ part ≤ n then none else some .outOfRange

/-- STATUS (R165). -/
def handleStatus (src tag selector part : Nat) (s : State) : State :=
  match statusRefusal selector part s with
  | some reason => refuse src 18 tag reason s
  | none =>
    let data := be 1 selector ++ be 1 part ++ be 1 ((statusParts selector).getD 0) ++ statusItems selector part s
    sendAnswer src 18 tag resultData .none data .answer s

/-! ### ADJUST, READ_RECORD, RELEASE_HOLD, REST, RESTART (R20, R166, R167, R175, R176) -/

/-- A signed percent lies within a bound, both ends included. -/
def within (bound : Nat) (x : Int) : Bool := decide (-(bound : Int) ≤ x) && decide (x ≤ bound)

/-- The offsets lie within the wide bounds, and during a weld within its schedule's bounds (R20). -/
def adjustOk (trip speed force : Int) (s : State) : Bool :=
  within 10 trip && within 20 speed && within 10 force
    && (!s.welding
      || (within s.sched.adjTripPct trip && within s.sched.adjSpeedPct speed && within s.sched.adjForcePct force))

/-- ADJUST (R20, R166). -/
def handleAdjust (src tag : Nat) (trip speed force : Int) (s : State) : State :=
  if adjustOk trip speed force s then
    accept src 19 tag
      { s with
        wsq.pendingSet := { s.wsq.pendingSet with trip := trip, speed := speed, force := force }
        wsq.switchPending := true }
  else refuse src 19 tag .outOfRange s

/-- READ_RECORD (R175): a snapshot joins the read list, and its parts follow the answer. -/
def handleRead (src tag weldNo : Nat) (s : State) : State :=
  match lookup s.wrs weldNo with
  | none => refuse src 20 tag .notFound s
  | some (r, held) =>
    sendAnswer src 20 tag resultAccepted .none [] .readAnswer
      { s with
        wrs.reads := s.wrs.reads ++ [⟨s.wrs.nextRead, r, held, tag, src, .answering⟩]
        wrs.nextRead := s.wrs.nextRead + 1 }

/-- The record of a weld number in a VALID or VALID_HELD slot; no record has number 0 (R176). -/
def storedRecord (w : Wrs) (weldNo : Nat) : Option (WeldRecord × Bool) := if weldNo = 0 then none else lookup w weldNo

/-- RELEASE_HOLD (R176). -/
def handleRelease (src tag weldNo : Nat) (s : State) : State :=
  match storedRecord s.wrs weldNo with
  | none => refuse src 21 tag .notFound s
  | some (_, true) => accept src 21 tag (releaseHeld weldNo s)
  | some (_, false) => refuse src 21 tag .notHeld s

/-- REST (R11, R166): answered before the station enters DORMANT. -/
def handleRest (src tag : Nat) (s : State) : State :=
  if s.wsq.station = .idle ∧ s.orq.queue = [] then enterDormant (accept src 22 tag s)
  else refuse src 22 tag .wrongState s

/-- RESTART is accepted (R167). -/
def restartAccepted (s : State) : Bool :=
  (s.wsq.station == .idle || s.wsq.station == .clamped) && s.orq.queue.isEmpty

/-- RESTART (R167): the reset follows the report of the answer. -/
def handleRestart (src tag : Nat) (s : State) : State :=
  if restartAccepted s then
    sendAnswer src 23 tag resultAccepted .none [] .restartAnswer { s with orq.restartPending := true }
  else refuse src 23 tag .wrongState s

/-! ### One order (R161, R166) -/

/-- Order code, and tag where the body has one. -/
def OrderBody.codeTag : OrderBody → Nat × Option Nat
  | .queued tag kind => (kind.code, some tag)
  | .abort tag _ => (16, some tag)
  | .clear tag => (17, some tag)
  | .status tag _ _ => (18, some tag)
  | .adjust tag _ _ _ => (19, some tag)
  | .readRecord tag _ => (20, some tag)
  | .releaseHold tag _ => (21, some tag)
  | .rest tag => (22, some tag)
  | .restart tag => (23, some tag)
  | .malformed body => (orderCode body, if body.length < 2 then none else some (field body 1 1))

/-- A refusal that echoes code and tag; a body with no tag byte echoes a free value (R161; assumption log 3). -/
def refuseBody (d : Delivered) (reason : Reason) (s : State) : State :=
  match d.body.codeTag with
  | (code, some tag) => refuse d.src code tag reason s
  | (code, none) =>
    let (free, t) := s.fresh
    refuse d.src code (free % 256) reason t

/-- A well-formed order. -/
def OrderBody.wellFormed : OrderBody → Bool
  | .malformed _ => false
  | _ => true

/-- STATUS, the order restart-pending lets through (R161). -/
def OrderBody.isStatus : OrderBody → Bool
  | .status _ _ _ => true
  | _ => false

/-- A queued order (Table 9-1). -/
def OrderBody.isQueued : OrderBody → Bool
  | .queued _ _ => true
  | _ => false

/-- STATUS(STATION), the one order UNCONFIGURED answers; STATUS refuses its other selectors itself (R161, R165). -/
def refusedUnconfigured (s : State) (b : OrderBody) : Bool := s.wsq.station == .unconfigured && !b.isStatus

/-- The idle timer restarts when a well-formed immediate order is dispatched in IDLE (R11). An order that handleOrder refuses
before that, and a queued order, accepted or refused by R162, do not restart it on arrival (assumption log 20). -/
def restartIdle (b : OrderBody) (s : State) : State :=
  if s.wsq.station = .idle ∧ b.wellFormed ∧ b.isQueued = false then { s with wsq.idleTimer := idleStart s } else s

/-- What each order does (R162, section 9.4). -/
def dispatchOrder (src : Nat) (b : OrderBody) (s : State) : State :=
  match b with
  | .queued tag kind => handleQueued src tag kind s
  | .abort tag target => handleAbort src tag target s
  | .clear tag => handleClear src tag s
  | .status tag selector part => handleStatus src tag selector part s
  | .adjust tag trip speed force => handleAdjust src tag trip speed force s
  | .readRecord tag weldNo => handleRead src tag weldNo s
  | .releaseHold tag weldNo => handleRelease src tag weldNo s
  | .rest tag => handleRest src tag s
  | .restart tag => handleRestart src tag s
  | .malformed body => refuseBody ⟨src, .malformed body⟩ .badOrder s

/-- One order is handled, with its answer (R160, R161; assumption log 17). -/
def handleOrder (d : Delivered) (s : State) : State :=
  if refusedUnconfigured s d.body then refuseBody d .unconfigured s
  else if d.body.wellFormed = false then refuseBody d .badOrder s
  else if s.orq.restartPending ∧ d.body.isStatus = false then refuseBody d .wrongState s
  else dispatchOrder d.src d.body (restartIdle d.body s)

/-! ### Delivery (R12, R13, R159, R160) -/

/-- The order has an order code other than STATUS: in DORMANT it wakes the station, in WAKING it is held (R13, R159). -/
def wakes (b : OrderBody) : Bool := b.codeTag.1 != 18 && b != .malformed []

/-- The order is for the held list (R13, R159). -/
def toHold (s : State) (b : OrderBody) : Bool :=
  (s.wsq.station == .dormant || s.wsq.station == .waking) && wakes b

/-- Orders the held list and the arrival list take (section 9.1). -/
def listCapacity : Nat := 4

/-- An order with an order code other than STATUS starts the wake in DORMANT; a further one does not restart it (R12, R13). -/
def wakeUp (s : State) : State := if s.wsq.station = .dormant then startWake s else s

/-- An order is held for the wake, which it starts in DORMANT (R13). -/
def holdOrder (d : Delivered) (s : State) : State :=
  let t := wakeUp s
  { t with orq.heldList := t.orq.heldList ++ [d] }

/-- An order is taken: held for a wake, refused when the held list is full, or handled (R13, R160). With a restart pending in
DORMANT or WAKING it is held first, and refused WRONG_STATE once the station is awake: R161 gives both (assumption log
17). In DORMANT with four orders still held, which only the order of assumption log 37 leads to, it starts the wake as R12 has it
and is refused QUEUE_FULL as R13 has it of an order in the wake that it starts (DESIGN CHOICE, assumption log 40). -/
def takeOrder (d : Delivered) (s : State) : State :=
  if toHold s d.body then
    if s.orq.heldList.length < listCapacity then holdOrder d s else refuseBody d .queueFull (wakeUp s)
  else handleOrder d s

/-- The order does not wait for the outgoing wait list: it is held at once, with no answer, also while that list holds a frame
(R13, R159; R160 names the arrival list for every order: assumption log 19). -/
def holdsNow (d : Delivered) (s : State) : Bool :=
  toHold s d.body && decide (s.orq.heldList.length < listCapacity)

/-- An ORDER is delivered to ORQ: taken when the outgoing wait list is empty, otherwise placed in the arrival list, or lost
when that is full (R160). -/
def deliverOrder (d : Delivered) (s : State) : State :=
  if holdsNow d s || noOutgoing s then takeOrder d s
  else if s.orq.arrivals.length < listCapacity then { s with orq.arrivals := s.orq.arrivals ++ [d] }
  else { s with orq.ordersLost := bump16 s.orq.ordersLost }

/-- Back in IDLE, the orders held during a wake are taken one by one as if each had just arrived (R9, R13). A held REST takes
the station to DORMANT, and R13 does not say what becomes of the orders held behind it: the model has each arrive in the state
the station then has, so the next one other than STATUS wakes it again and is held (assumption log 19). -/
def takeHeldOrders (s : State) : State :=
  if s.wsq.station = .idle then
    s.orq.heldList.foldl (fun t d => deliverOrder d t) { s with orq.heldList := [] }
  else s

/-- An ORDER frame that passed R149 reaches ORQ (R150): the line is at rest again, the order is delivered, and held orders
are taken if it brought the station back to IDLE. LKC delivers nothing while LOADING (R146). -/
def receiveOrder (src : Nat) (b : OrderBody) (s : State) : State :=
  if s.inReset ∨ s.wsq.station = .loading then s
  else takeHeldOrders (deliverOrder ⟨src, b⟩ (lineFree s))

/-- Arrivals are handled oldest first while the outgoing wait list is empty; the rest stay (R160). -/
def handleArrivals : List Delivered → State → State
  | [], s => s
  | d :: l, s =>
    if noOutgoing s then handleArrivals l (takeOrder d s)
    else { s with orq.arrivals := s.orq.arrivals ++ (d :: l) }

end Sys2Proof.Machine
end

