-- ==== Sys2Proof/Machine/Receive.lean ====
section
/-! DEFINITION. From the bytes of a frame that ended on the line to the command it is (R149, R150, Table 9-2): how the
structured receive commands relate to the line (assumption log 5). -/

namespace Sys2Proof.Machine

/-- The command of an ORDER body. -/
def orderCommand (src : Nat) (body : List Byte) : Instr :=
  match parseOrder body with
  | .queued tag (.clamp sched) => .orderClamp src tag sched
  | .queued tag (.weld sched kind neutral) => .orderWeld src tag sched kind neutral
  | .queued tag .unclamp => .orderUnclamp src tag
  | .abort tag target => .abort src tag target
  | .clear tag => .clear src tag
  | .status tag selector part => .status src tag selector part
  | .adjust tag trip speed force => .adjust src tag trip speed force
  | .readRecord tag weldNo => .readRecord src tag weldNo
  | .releaseHold tag weldNo => .releaseHold src tag weldNo
  | .rest tag => .rest src tag
  | .restart tag => .restart src tag
  | .malformed bytes => .badOrder src bytes

/-- The command of a frame received by a station of number `node`: a share frame, an order, or FRAME_DISCARDED for a frame
that is discarded or passed over. -/
def frameCommand (node : Nat) (frame : List Byte) : Instr :=
  match receiveFate node frame with
  | .share .beacon src body => .beaconReceived src (beaconOfBytes body)
  | .share .claim src body => .claimReceived src (field body 0 4) (field body 4 2)
  | .share .yield src body => .yieldReceived src (field body 0 4)
  | .order src body => orderCommand src body
  | _ => .frameDiscarded frame

/-- The ORDER frame a panel sends (R147, Table 9-2). -/
def orderFrame (src dest : Nat) (b : OrderBody) : List Byte := frameBytes 4 src dest b.bytes

/-- The frame by which another node makes this station take the command; none for an event that no frame is. -/
def commandFrame (dest : Nat) : Instr → Option (List Byte)
  | .orderClamp src tag sched => some (orderFrame src dest (.queued tag (.clamp sched)))
  | .orderWeld src tag sched kind neutral => some (orderFrame src dest (.queued tag (.weld sched kind neutral)))
  | .orderUnclamp src tag => some (orderFrame src dest (.queued tag .unclamp))
  | .abort src tag target => some (orderFrame src dest (.abort tag target))
  | .clear src tag => some (orderFrame src dest (.clear tag))
  | .status src tag selector part => some (orderFrame src dest (.status tag selector part))
  | .adjust src tag trip speed force => some (orderFrame src dest (.adjust tag trip speed force))
  | .readRecord src tag weldNo => some (orderFrame src dest (.readRecord tag weldNo))
  | .releaseHold src tag weldNo => some (orderFrame src dest (.releaseHold tag weldNo))
  | .rest src tag => some (orderFrame src dest (.rest tag))
  | .restart src tag => some (orderFrame src dest (.restart tag))
  | .badOrder src body => some (orderFrame src dest (.malformed body))
  | .beaconReceived src body => some (frameBytes 1 src dest (beaconBytes body))
  | .claimReceived src number demand => some (frameBytes 2 src dest (claimBody number demand))
  | .yieldReceived src number => some (frameBytes 3 src dest (yieldBody number))
  | _ => none

/-- The counters of a frame that is discarded; a frame passed over, or one that is no discarded frame at all, counts
nothing (R149, R158). -/
def countDiscard (fate : RxFate) (s : State) : State :=
  match fate with
  | .lengthError => { s with lkc.lengthErrors := bump16 s.lkc.lengthErrors }
  | .crcError => { s with lkc.crcErrors := bump16 s.lkc.crcErrors }
  | .badKind => { s with lkc.badKinds := bump16 s.lkc.badKinds }
  | .foreignOrder => { s with lkc.foreignOrders := bump16 s.lkc.foreignOrders }
  | .passedOver => s
  | .share _ _ _ => s
  | .order _ _ => s

/-- LKC receives and sends: from the end of LOADING (R146, R149). -/
def linkUp (s : State) : Bool := !s.inReset && s.wsq.station != .loading

/-- Share frames are acted on while the station is configured (R125). -/
def sharesActed (s : State) : Bool := !s.inReset && s.configured

/-- A share frame with the own station number as its source (R143): the flag is set, once and for all. -/
def setIsolated (s : State) : State := { s with wsq.isolated := true }

/-- The last claim number seen of a peer (R136, R137). -/
def seenClaim (src number : Nat) (s : State) : State := onPeer src (fun p => { p with lastClaim := some number }) s

/-- SHT on a CLAIM (R136, R143): a source above 7 is not acted on (R125), the own number sets ISOLATED whatever the claim
number (R143; assumption log 26), and a peer's number of 0 names no claim (R136). -/
def shareClaim (src number demand : Nat) (s : State) : State :=
  if 7 < src then s
  else if src = s.node then setIsolated (raiseClock number s)
  else if number = 0 then s
  else evaluateShare (claimEffect src number demand (seenClaim src number (raiseClock number s)))

/-- SHT on a YIELD (R137, R143), with the sources and numbers of shareClaim (assumption log 26). -/
def shareYield (src number : Nat) (s : State) : State :=
  if 7 < src then s
  else if src = s.node then setIsolated (raiseClock number s)
  else if number = 0 then s
  else evaluateShare (yieldEffect src number (seenClaim src number (raiseClock number s)))

/-- SHT on a BEACON (R126, R138, R141, R143). -/
def shareBeacon (src : Nat) (b : BeaconBody) (s : State) : State :=
  if 7 < src then s
  else if src = s.node then setIsolated (raiseFromBeacon b s)
  else
    let t := beaconEffect src b s
    if (peerOf s src).presence ≠ .discordant ∧ (peerOf t src).presence = .discordant then
      evaluateShare (discordYield t)
    else evaluateShare t

end Sys2Proof.Machine
end

