-- ==== Sys2Proof/Machine/Startup.lean ====
section
/-! DEFINITION. The shape of every event's meaning, and the events of start-up and of the station's own timers: resets,
the settings image, the listening window, recovery, idle, wake, and the head order (chapters 1, 9 and 11). -/

namespace Sys2Proof.Machine

/-- What a command answers. -/
abbrev Out := Host.Outcome State Fault Refusal

/-- An event happens where `possible` holds and the station is not held in its reset state, and does what `effect` says. An
event that cannot happen in the state has no effect (assumption logs 1 and 7). -/
def onEvent (possible : Bool) (effect : State → State) (s : State) : Out :=
  .next (if !s.inReset && possible then effect s else s)

/-! ### Resets (R177) -/

/-- What every reset leaves of the record store (R169, R171, R177): the nonvolatile part. -/
def Wrs.stored (w : Wrs) : Wrs := { w with working := none, writing := none, writeTimer := none, reads := [], nextRead := 0 }

/-- Power-on: every block in its reset state, the claim clock and the counters 0 (R177). The free values used, the level of
the emergency-stop input and the waiting commands are not the station's to reset. -/
def powerOnState (s : State) : State :=
  { State.reset with
    free := s.free
    stl := .initial s.stl.input
    wrs := s.wrs.stored
    pending := s.pending }

/-- A hard reset: as power-on, with the claim clock, the share and link counters and the orders lost count kept (R125, R158,
R160, R177). -/
def hardResetState (s : State) : State :=
  { powerOnState s with
    now := s.now
    sht :=
      { Sht.initial with
        clock := s.sht.clock
        admissions := s.sht.admissions
        claimTimeouts := s.sht.claimTimeouts
        peerLosses := s.sht.peerLosses
        staleDrains := s.sht.staleDrains
        discordEvents := s.sht.discordEvents
        oversubscriptions := s.sht.oversubscriptions
        ignoredYields := s.sht.ignoredYields }
    lkc :=
      { Lkc.initial with
        crcErrors := s.lkc.crcErrors
        lengthErrors := s.lkc.lengthErrors
        badKinds := s.lkc.badKinds
        foreignOrders := s.lkc.foreignOrders
        collisions := s.lkc.collisions
        jammedDrops := s.lkc.jammedDrops
        queueFullDrops := s.lkc.queueFullDrops }
    orq := { Orq.initial with ordersLost := s.orq.ordersLost } }

/-- The first sample of the field lines after a reset (R32, R42; assumption log 8). -/
def firstSample (f : FieldSample) (s : State) : State :=
  { s with
    pcu.position := f.position
    pcu.force := f.force
    pcu.pressure := f.pressure
    pcu.commanded := formCommand s f.position
    pcu.forceOk := forcePlausible s f.force
    pcu.posSeen := true
    pcu.plausPosition := f.position
    pcu.posHistory := [f.position]
    pcu.firstPressure := some f.pressure }

/-- The reset ends: LOADING begins, with its limit of 200 ms; station number from the three straps, TRU from the return
switch, STL from its input (R32, R99, R108, R177, R178). With the input asserted the stop state is ACTIVE and the trimmer
valve stays at return, in STOPPED too: the manual gives it no other position there (assumption log 31). -/
def releaseReset (straps : Nat) (first : FieldSample) (returnSwitch : Bool) (s : State) : State :=
  truFirstSample returnSwitch
    (firstSample first
      { s with
        inReset := false
        node := straps % 8
        stl := .initial s.stl.input
        wsq.loadTimer := some 200 })

/-- POWER_ON (R177). -/
def execPowerOn (s : State) : Out := .next (powerOnState s)

/-- HARD_RESET (R177). -/
def execHardReset (s : State) : Out := .next (hardResetState s)

/-- RESET_END (R177). -/
def execResetEnd (straps : Nat) (first : FieldSample) (returnSwitch : Bool) (s : State) : Out :=
  .next (if s.inReset then releaseReset straps first returnSwitch s else s)

/-- RESTART_RESET (R167, R177): due once the answer of RESTART has been reported. -/
def execRestartReset (straps : Nat) (first : FieldSample) (returnSwitch : Bool) (s : State) : Out :=
  onEvent s.orq.restartDue (fun s => releaseReset straps first returnSwitch (hardResetState s)) s

/-! ### Settings (R178 to R181) -/

/-- The image is accepted: settings handed out, LISTENING with its window, beacon timer and first beacon, clamp state from
the first pressure sample, the commanded position within the stroke limits, and the marker settled (R32, R39, R157, R178 to
R181). -/
def acceptImage (image : List Byte) (s : State) : State :=
  let c := settingsOf image
  let t :=
    { s with
      settings := c
      sht.ownDigest := digestOf image
      lkc.bitRate := bitRateOf c.shared.bitRateCode
      lkc.slotBits := c.shared.slotBits
      lkc.beaconTimer := some c.shared.beaconMs
      wsq.loadTimer := none
      wsq.station := .listening
      wsq.listenTimer := some (c.shared.lossCount * c.shared.beaconMs + c.shared.settleMs) }
  let u :=
    { t with
      pcu.clamp := t.pcu.clamp.or (t.pcu.firstPressure.map fun p => if readsClosed t p then .closed else .open)
      pcu.firstPressure := none
      pcu.commanded := commandClip t t.pcu.commanded }
  queueBeacon (settleMarker u)

/-- The image fails, or is not read in time: UNCONFIGURED, with the link at 125 kbit/s and 16 bit times (R146, R179). The
limit of loading brings no bytes, so check 2 has not passed when it strikes (assumption log 30). -/
def unconfigured (s : State) : State :=
  { s with
    wsq.loadTimer := none
    wsq.station := .unconfigured
    lkc.bitRate := 125
    lkc.slotBits := 16 }

/-- The bytes of checks 1 and 2 have been read and pass (R146, R178). -/
def sharedPartOk (image : List Byte) : Bool := decide (25 ≤ image.length) && sharedUsable image

/-- An image that fails after checks 1 and 2: the shared section still gives bit rate, slot time and digest (R146, R179). -/
def rejectImage (image : List Byte) (s : State) : State :=
  if sharedPartOk image then
    { unconfigured s with
      sht.ownDigest := digestOf image
      lkc.bitRate := bitRateOf (sharedOf image).bitRateCode
      lkc.slotBits := (sharedOf image).slotBits }
  else unconfigured s

/-- What the read gives (R178). -/
def settingsRead (image : Option (List Byte)) (s : State) : State :=
  match image with
  | none => unconfigured s
  | some l => if imageOk l then acceptImage l s else rejectImage l s

/-- SETTINGS_READ_COMPLETE (R178). -/
def execSettingsReadComplete (image : Option (List Byte)) (s : State) : Out :=
  onEvent (s.wsq.station == .loading) (settingsRead image) s

/-- LOADING_TIME_LIMIT (R178). -/
def execLoadingTimeLimit (s : State) : Out :=
  onEvent (s.wsq.station == .loading && due s.wsq.loadTimer) unconfigured s

/-! ### The end of the listening window (R182) -/

/-- The clamps were found closed: force of schedule 0, recovery cooling time, top-up still to be made (R3, R10, R37). -/
def foundClosed (s : State) : State :=
  { s with
    pcu.clampForceInUse := some (s.schedule 0).clampForce
    wsq.recoverTimer := some (seconds s.loc.recoverS)
    wsq.topUpDue := true }

/-- The station that found its clamps closed enters RECOVER, or STOPPED or FAULT_HOLD with RECOVER to return to (R182). -/
def joinClosed (s : State) : State :=
  let t := foundClosed s
  if s.stl.stop ≠ .run then
    let u := { t with wsq.station := .stopped, wsq.returnState := some .recover }
    if s.pcu.tripped then faultHoldEntry u else u
  else if s.pcu.tripped then faultHoldEntry { t with wsq.station := .recover }
  else setStation .recover t

/-- The station that found its clamps open enters IDLE, or STOPPED with IDLE to return to (R182). -/
def joinOpen (s : State) : State :=
  if s.stl.stop ≠ .run then { s with wsq.station := .stopped, wsq.returnState := some .idle } else setStation .idle s

/-- The window ends (R182). -/
def listeningEnds (s : State) : State :=
  let t := { s with wsq.listenTimer := none }
  if s.pcu.clamp = some .closed then joinClosed t else joinOpen t

/-- LISTENING_WINDOW_END (R182). -/
def execListeningWindowEnd (s : State) : Out :=
  onEvent (s.wsq.station == .listening && due s.wsq.listenTimer) listeningEnds s

/-! ### Recovery, idle, wake (R10, R11, R13) -/

/-- The recovery cooling time has run out (R10). -/
def recoveryEnds (s : State) : State :=
  let t := { s with wsq.recoverTimer := none }
  if s.wsq.station = .recover then setStation .clamped t else t

/-- RECOVERY_COOLING_EXPIRY (R10). -/
def execRecoveryCoolingExpiry (s : State) : Out := onEvent (due s.wsq.recoverTimer) recoveryEnds s

/-- The idle timer expires: DORMANT, or the timer again (R11). -/
def idleExpires (s : State) : State :=
  if s.orq.queue = [] ∧ s.ownClaim = none then enterDormant s else { s with wsq.idleTimer := idleStart s }

/-- IDLE_TIMER_EXPIRY (R11). -/
def execIdleTimerExpiry (s : State) : Out :=
  onEvent (s.wsq.station == .idle && due s.wsq.idleTimer) idleExpires s

/-- The wake time ends: TRU's first switch sample, then IDLE and the held orders (R13, R99); a station that is STOPPED by
then stays so (R7). Where CLEAR has brought the station back to IDLE the wake time still runs on, and its end sets TRU's state
in whatever state the station then is: R7 and R99 speak of WAKING and STOPPED only (assumption log 33). -/
def wakeEnds (returnSwitch : Bool) (s : State) : State :=
  let t := truFirstSample returnSwitch { s with wsq.wakeTimer := none }
  if s.wsq.station = .waking then takeHeldOrders (setStation .idle t) else t

/-- WAKE_TIME_END (R13). -/
def execWakeTimeEnd (returnSwitch : Bool) (s : State) : Out :=
  onEvent (due s.wsq.wakeTimer) (wakeEnds returnSwitch) s

/-! ### The head order (R2 to R4, R25) -/

/-- The station state in which WSQ takes orders (R2). -/
def takesOrders (st : StationState) : Bool := st == .idle || st == .clamped || st == .recover

/-- The head order, if it waits to be taken. -/
def waitingHead (s : State) : Option QueuedOrder := s.orq.queue.head?.filter (·.status == .waiting)

/-- A CLAMP taken in IDLE (R3). -/
def startClamp (sched : Nat) (s : State) : State :=
  closeRequest false
    (setStation .clamping
      { s with pcu.clampForceInUse := some (s.schedule sched).clampForce, wsq.clampFail := none })

/-- An UNCLAMP taken in CLAMPED (R4); the clamp state leaves CLOSED (R54). -/
def startUnclamp (s : State) : State :=
  loseRun (openRequest false (setStation .unclamping { s with wsq.clampFail := none }))

/-- The order taken is executing from now on; taking it restarts the idle timer (R2, R11). -/
def beginOrder (s : State) : State :=
  { s with
    orq.queue := setHead .executing s.orq.queue
    wsq.idleTimer := if s.wsq.station = .idle then idleStart s else s.wsq.idleTimer }

/-- The order is checked against the state it requires, and started (table of R2). -/
def startOrder (o : QueuedOrder) (railTemp : Option Int) (s : State) : State :=
  match o.kind with
  | .clamp sched =>
    if s.wsq.station = .idle then startClamp sched s else endOrder .failed .wrongState none s
  | .unclamp => if s.wsq.station = .clamped then startUnclamp s else endOrder .failed .wrongState none s
  | .weld sched kind neutral => takeWeld sched kind neutral railTemp s

/-- The head order is taken (R2). -/
def takeHead (railTemp : Option Int) (s : State) : State :=
  match waitingHead s with
  | none => s
  | some o => startOrder o railTemp (beginOrder s)

/-- TAKE_HEAD_ORDER (R2). -/
def execTakeHeadOrder (railTemp : Option Int) (s : State) : Out :=
  onEvent (takesOrders s.wsq.station) (takeHead railTemp) s

end Sys2Proof.Machine
end

