-- ==== Sys2Proof/Machine/OrderEvents.lean ====
section
/-! DEFINITION. The ORDER frames a panel sends, each as one event, and the events of ORQ's and WRS's lists (chapters 9
and 10). -/

namespace Sys2Proof.Machine

/-- ORDER_CLAMP (R162). -/
def execOrderClamp (src tag sched : Nat) (s : State) : Out := .next (receiveOrder src (.queued tag (.clamp sched)) s)

/-- ORDER_WELD (R162). -/
def execOrderWeld (src tag sched : Nat) (kind : WeldKind) (neutral : Int) (s : State) : Out :=
  .next (receiveOrder src (.queued tag (.weld sched kind neutral)) s)

/-- ORDER_UNCLAMP (R162). -/
def execOrderUnclamp (src tag : Nat) (s : State) : Out := .next (receiveOrder src (.queued tag .unclamp) s)

/-- ABORT (R164). -/
def execAbort (src tag target : Nat) (s : State) : Out := .next (receiveOrder src (.abort tag target) s)

/-- CLEAR (R110). -/
def execClear (src tag : Nat) (s : State) : Out := .next (receiveOrder src (.clear tag) s)

/-- STATUS (R165). -/
def execStatus (src tag selector part : Nat) (s : State) : Out := .next (receiveOrder src (.status tag selector part) s)

/-- ADJUST (R20). -/
def execAdjust (src tag : Nat) (trip speed force : Int) (s : State) : Out :=
  .next (receiveOrder src (.adjust tag trip speed force) s)

/-- READ_RECORD (R175). -/
def execReadRecord (src tag weldNo : Nat) (s : State) : Out := .next (receiveOrder src (.readRecord tag weldNo) s)

/-- RELEASE_HOLD (R176). -/
def execReleaseHold (src tag weldNo : Nat) (s : State) : Out := .next (receiveOrder src (.releaseHold tag weldNo) s)

/-- REST (R166). -/
def execRest (src tag : Nat) (s : State) : Out := .next (receiveOrder src (.rest tag) s)

/-- RESTART (R167). -/
def execRestart (src tag : Nat) (s : State) : Out := .next (receiveOrder src (.restart tag) s)

/-- BAD_ORDER (R161). -/
def execBadOrder (src : Nat) (body : List Byte) (s : State) : Out := .next (receiveOrder src (.malformed body) s)

/-- The arrival list is handled, oldest first (R160), and orders held during a wake are taken where a CLEAR of the list has
brought the station back to IDLE (R9, R13). No rule orders these against the arrivals behind that CLEAR: the model handles the
arrivals first, and takes the held orders after them (DESIGN CHOICE, assumption log 37). -/
def workArrivals (s : State) : State :=
  takeHeldOrders (handleArrivals s.orq.arrivals { s with orq.arrivals := [] })

/-- ARRIVAL_LIST_HANDLING (R160). -/
def execArrivalListHandling (s : State) : Out := onEvent (noOutgoing s && !s.orq.arrivals.isEmpty) workArrivals s

/-- The frame that has waited longest enters the transmit queue (R156). -/
def queueWaiter (s : State) : State :=
  match s.lkc.waiters with
  | [] => s
  | f :: l => armWait (placed f.purpose { s with lkc.queue := s.lkc.queue ++ [f], lkc.waiters := l })

/-- The transmit queue has room. -/
def queueRoom (s : State) : Bool := decide (s.lkc.queue.length < queueSize)

/-- OUTGOING_FRAME_QUEUED (R156). -/
def execOutgoingFrameQueued (s : State) : Out := onEvent (queueRoom s) queueWaiter s

/-- The first read transfer that has a part left to hand over (R175). -/
def firstRead (s : State) : Option ReadTransfer := s.wrs.reads.find? (·.stage != .part2Placed)

/-- A part of a record, as LKC takes it (Tables 10-3 and 10-4). -/
def recordFrame (r : ReadTransfer) (part : Nat) : TxFrame where
  kind := .record
  dest := r.dest
  body := if part = 1 then recordPart1 r.record r.held r.tag else recordPart2 r.record r.tag
  purpose := .recordPart part r.id

/-- The next part of the first read transfer is built and handed to LKC, where it is queued or waits (R174, R175). -/
def queueRecordPart (s : State) : State :=
  match firstRead s with
  | none => s
  | some r =>
    match r.stage with
    | .part1 =>
      sendOther (recordFrame r 1) { s with wrs.reads := advanceRead .part1 .part1Waiting s.wrs.reads }
    | .part2 =>
      sendOther (recordFrame r 2) { s with wrs.reads := advanceRead .part2 .part2Waiting s.wrs.reads }
    | .answering => s
    | .part1Waiting => s
    | .part2Waiting => s
    | .part2Placed => s

/-- RECORD_PART_QUEUED (R175). -/
def execRecordPartQueued (s : State) : Out := onEvent true queueRecordPart s

/-- The record write completes; in CLOSING the WELD order ends with what was decided at its entry (R30, R173, R181). -/
def writeEnds (s : State) : State :=
  match s.wrs.writing with
  | none => s
  | some r =>
    let t := completeWrite r s
    if s.wsq.phase = some .closing then endWeld r.outcome r.cause (some r.weldNo) t else t

/-- RECORD_WRITE_COMPLETE (R173). -/
def execRecordWriteComplete (s : State) : Out := onEvent s.wrs.writing.isSome writeEnds s

end Sys2Proof.Machine
end

