-- ==== Sys2Proof/Machine/LinkEvents.lean ====
section
/-! DEFINITION. The events of the line and of the share table: received share frames, discarded frames, medium access,
the ends of a sending, and the timers of LKC and SHT (chapters 7 and 8). -/

namespace Sys2Proof.Machine

/-! ### Received frames (R126, R136, R137, R149) -/

/-- A share frame ends on the line: the line is at rest, and SHT acts on it where share frames are acted on (R125, R151). -/
def receiveShare (effect : State → State) (s : State) : State :=
  if sharesActed s then effect (lineFree s) else lineFree s

/-- BEACON_RECEIVED (R126). -/
def execBeaconReceived (src : Nat) (body : BeaconBody) (s : State) : Out :=
  onEvent (linkUp s) (receiveShare (shareBeacon src body)) s

/-- CLAIM_RECEIVED (R136). -/
def execClaimReceived (src number demand : Nat) (s : State) : Out :=
  onEvent (linkUp s) (receiveShare (shareClaim src number demand)) s

/-- YIELD_RECEIVED (R137). -/
def execYieldReceived (src number : Nat) (s : State) : Out :=
  onEvent (linkUp s) (receiveShare (shareYield src number)) s

/-- A frame is discarded, or passed over (R149, R150). -/
def discardFrame (frame : List Byte) (s : State) : State := countDiscard (receiveFate s.node frame) (lineFree s)

/-- FRAME_DISCARDED (R149). -/
def execFrameDiscarded (frame : List Byte) (s : State) : Out := onEvent (linkUp s) (discardFrame frame) s

/-! ### Medium access (R151, R152) -/

/-- Another node's start bit ends the wait (R151). -/
def lineTaken (s : State) : State := { s with lkc.lineBusy := true, lkc.wait := none }

/-- LINE_ACTIVITY (R151). -/
def execLineActivity (s : State) : Out := onEvent (linkUp s && !s.lkc.sending) lineTaken s

/-- The head of the transmit queue enters an empty send slot (R151); its collision run starts from 0 (R153). -/
def fillSlot (s : State) : State :=
  if s.lkc.slot.isNone then
    { s with lkc.slot := s.lkc.queue.head?, lkc.queue := s.lkc.queue.tail, lkc.collisionRun := 0 }
  else s

/-- The wait completes: the frame of the send slot starts being sent, and the rest is in force (R151, R152). -/
def startSending (s : State) : State :=
  let t := fillSlot s
  { t with lkc.wait := none, lkc.sending := t.lkc.slot.isSome, lkc.rest := t.lkc.rest || t.lkc.slot.isSome }

/-- MEDIUM_ACCESS_WAIT_END (R151). -/
def execMediumAccessWaitEnd (s : State) : Out := onEvent s.lkc.wait.isSome startSending s

/-- LINK_REST_CLEARED (R152). -/
def execLinkRestCleared (s : State) : Out :=
  onEvent (s.lkc.rest && !s.lkc.lineBusy && !s.lkc.sending) (fun s => { s with lkc.rest := false }) s

/-! ### The ends of a sending (R153) -/

/-- The frame of the send slot leaves it. -/
def emptySlot (s : State) : State := { s with lkc.slot := none, lkc.sending := false, lkc.collisionRun := 0 }

/-- The frame has been sent; its report goes to the block that queued it (R153). -/
def frameSent (s : State) : State :=
  match s.lkc.slot with
  | none => s
  | some f => armWait (reportTransmitted f.purpose (emptySlot s))

/-- FRAME_TRANSMITTED (R153). -/
def execFrameTransmitted (s : State) : Out := onEvent s.lkc.sending frameSent s

/-- A collision is counted; the winner's frame is on the line (R153). -/
def collided (s : State) : State :=
  { s with
    lkc.collisions := bump16 s.lkc.collisions
    lkc.collisionRun := s.lkc.collisionRun + 1
    lkc.sending := false
    lkc.lineBusy := true }

/-- Collisions in a row that drop a frame (R153). -/
def jamLimit : Nat := 3

/-- The frame is dropped as jammed, and its drop reported (R153). -/
def dropJammed (s : State) : State :=
  match s.lkc.slot with
  | none => s
  | some f => reportDropped f.purpose { emptySlot s with lkc.jammedDrops := bump16 s.lkc.jammedDrops }

/-- A sending ends in a collision (R153). -/
def sendingCollides (s : State) : State :=
  if s.lkc.collisionRun + 1 < jamLimit then collided s else dropJammed (collided s)

/-- COLLISION (R153). -/
def execCollision (s : State) : Out := onEvent s.lkc.sending sendingCollides s

/-! ### Timers (R127, R131, R134, R140, R157) -/

/-- The beacon timer expires: a beacon, and the timer again (R157). -/
def beaconDue (s : State) : State := queueBeacon { s with lkc.beaconTimer := some s.shr.beaconMs }

/-- BEACON_TIMER_EXPIRY (R157). -/
def execBeaconTimerExpiry (s : State) : Out := onEvent (due s.lkc.beaconTimer) beaconDue s

/-- The settle window runs out (R131). -/
def settleEnds (s : State) : State := evaluateShare { s with sht.settleTimer := none, sht.settleFlag := true }

/-- SETTLE_WINDOW_EXPIRY (R131). -/
def execSettleWindowExpiry (s : State) : Out := onEvent (due s.sht.settleTimer) settleEnds s

/-- The claim-wait timer expires with the own claim QUEUED: it is yielded, and the order ends NOT_STARTED (R27, R134). -/
def claimWaitEnds (s : State) : State :=
  let t := yieldOwn s
  let u := { t with sht.claimTimeouts := bump16 t.sht.claimTimeouts }
  if u.wsq.phase = some .claimWait ∧ mayAbort u then beginEnding .claimTimeout u else u

/-- CLAIM_WAIT_EXPIRY (R134). -/
def execClaimWaitExpiry (s : State) : Out :=
  onEvent (due s.sht.claimWait && s.ownClaim.any (·.state == .queued)) claimWaitEnds s

/-- A loss timer expires (R127); a loss changes the claim list or ends discord, so admission is evaluated. -/
def peerMissed (peer : Nat) (s : State) : State := evaluateShare (lossEffect peer s)

/-- LOSS_TIMER_EXPIRY (R127). -/
def execLossTimerExpiry (peer : Nat) (s : State) : Out :=
  onEvent (peer != s.node && due (peerOf s peer).lossTimer) (peerMissed peer) s

/-- The drain timer of a STALE entry expires (R140). -/
def drainEnds (station : Nat) (s : State) : State := evaluateShare (drainEffect station s)

/-- A STALE entry of a station, its drain timer run out. -/
def drained (station : Nat) (s : State) : Bool :=
  (claimOf s station).any fun c => c.state == .stale && due c.drain

/-- DRAIN_EXPIRY (R140). -/
def execDrainExpiry (station : Nat) (s : State) : Out := onEvent (drained station s) (drainEnds station) s

end Sys2Proof.Machine
end

