-- ==== Sys2Proof/Machine/PlatenEvents.lean ====
section
/-! DEFINITION. The events of PCU's field lines and timers: clamps, slip, plausibility, platen movements, the electrode
contact check, the touch move and the millisecond sample (chapter 2). -/

namespace Sys2Proof.Machine

/-! ### Clamps (R33, R34, R37) -/

/-- The clamp pressure has reached the clamp force in use. -/
def forceInUseReached (s : State) : Bool := s.pcu.clampForceInUse.any fun f => decide (f ≤ s.pcu.pressure)

/-- A clamp movement in this state is driven, with its timer running. -/
def clampDriven (st : ClampState) (s : State) : Bool :=
  s.pcu.clamp == some st && !s.pcu.stopped && s.pcu.clampTimer.isSome

/-- The clamp force is reached: a closing is CLOSED, a top-up ends (R33, R37). -/
def clampForceHit (s : State) : State := if s.pcu.topUp then endTopUp s else clampsClosed s

/-- CLAMP_FORCE_REACHED (R33, R37). -/
def execClampForceReached (s : State) : Out :=
  onEvent (forceInUseReached s && (s.pcu.topUp || clampDriven .closing s)) clampForceHit s

/-- CLAMP_RELEASED (R34). -/
def execClampReleased (s : State) : Out :=
  onEvent (clampDriven .opening s && !readsClosed s s.pcu.pressure) clampsOpen s

/-- A clamp timeout is reported to WSQ, which keeps it for the executing order (R3, R4). -/
def noteTimeout (s : State) : State :=
  if s.wsq.station = .clamping ∨ s.wsq.station = .unclamping then { s with wsq.clampFail := some .clampTimeout } else s

/-- The clamp timer expires in a movement: the movement is reversed, or the reversal has timed out (R33, R34). -/
def movementTimesOut (s : State) : State :=
  if s.pcu.reversal then reversalTimeout s
  else if s.pcu.clamp = some .closing then openRequest true (noteTimeout s)
  else if s.pcu.clamp = some .opening then closeRequest true (noteTimeout s)
  else s

/-- The clamp timer expires: in the top-up it only ends it (R37). -/
def clampTimesOut (s : State) : State := if s.pcu.topUp then endTopUp s else movementTimesOut s

/-- CLAMP_TIMER_EXPIRY (R33, R34, R37). -/
def execClampTimerExpiry (s : State) : Out := onEvent (due s.pcu.clampTimer) clampTimesOut s

/-! ### Slip (R36) -/

/-- The slip count is complete. -/
def slipComplete (s : State) : Bool := s.pcu.clamp == some .closed && decide (s.loc.slipMs ≤ s.pcu.slipCount)

/-- CLAMP_SLIP is reported once; the detector is tripped (R36). -/
def slips (s : State) : State := reportHold .clampSlip { s with pcu.slip := .tripped, pcu.slipCount := 0 }

/-- SLIP_DETECTED (R36). -/
def execSlipDetected (s : State) : Out := onEvent (s.pcu.slip == .armed && slipComplete s) slips s

/-- SLIP_REARMED (R36). -/
def execSlipRearmed (s : State) : Out := onEvent (s.pcu.slip == .tripped && slipComplete s) armSlip s

/-! ### Plausibility (R42) -/

/-- The first implausible sample: platen HOLD, a check or touch move ended, SENSOR_FAULT (R42). -/
def implausible (s : State) : State :=
  reportHold .sensorFault { stopShoes (platenHold s) with pcu.tripped := true, pcu.plausibleRun := 0 }

/-- IMPLAUSIBLE_SAMPLE (R42). -/
def execImplausibleSample (s : State) : Out :=
  onEvent (s.pcu.powered && !s.pcu.tripped && !(s.pcu.posOk && s.pcu.forceOk)) implausible s

/-- PLAUSIBILITY_REARM (R42). -/
def execPlausibilityRearm (s : State) : Out :=
  onEvent (s.pcu.tripped && decide (100 ≤ s.pcu.plausibleRun)) (fun s => { s with pcu.tripped := false }) s

/-! ### Movements (R40, R41) -/

/-- A POSITION or RETRACT move ends, by its target or short by its timer: HOLD, and the report (R40). -/
def movementEnds (s : State) : State := movementDone (platenHold s)

/-- The platen runs a POSITION or RETRACT move. -/
def platenMoving (s : State) : Bool := s.pcu.mode.target.isSome

/-- MOVEMENT_TARGET_REACHED (R40). -/
def execMovementTargetReached (s : State) : Out :=
  onEvent (platenMoving s && decide (10 ≤ s.pcu.nearCount)) movementEnds s

/-- MOVEMENT_TIMER_EXPIRY (R40): complete short. -/
def execMovementTimerExpiry (s : State) : Out :=
  onEvent (platenMoving s && due s.pcu.moveTimer) movementEnds s

/-- The position has changed by no more than 0.1 mm over the last 20 samples (R41). -/
def platenStopped (s : State) : Bool :=
  s.pcu.posHistory.length == 20 && s.pcu.posHistory.all fun x => s.pcu.posHistory.all fun y => decide (x - y ≤ 1)

/-- The force stands at the total target less 2 % (R41). -/
def forceStands (s : State) : Bool :=
  match s.pcu.mode with
  | .force total _ => decide (98 * total ≤ 100 * s.pcu.force)
  | _ => false

/-- Force reached is reported once for a request: in UPSET it ends the phase, in HOLD it is not used (R96, R98). -/
def forceReport (s : State) : State :=
  let t := { s with pcu.forceReported := true }
  if s.wsq.phase = some .upset then endUpset s.pcu.position s.pcu.highForce t else t

/-- FORCE_REACHED (R41, R96). -/
def execForceReached (s : State) : Out :=
  onEvent (!s.pcu.forceReported && forceStands s && platenStopped s) forceReport s

/-! ### Electrode contact check (R43) -/

/-- The four measurements have ended: TOUCH, or ELECTRODE_CONTACT (R25, R43). -/
def checkEnds (s : State) : State :=
  let t := stopShoes s
  if s.pcu.failedShoes.any id then endWeld .notStarted .electrodeContact none t else enterTouch t

/-- One shoe has been measured (R43). -/
def shoeMeasured (microohm : Nat) (s : State) : State :=
  match s.pcu.shoe with
  | none => s
  | some k =>
    let t :=
      { s with
        pcu.resistances := s.pcu.resistances.set k (some microohm)
        pcu.failedShoes := s.pcu.failedShoes.set k (decide (s.loc.shoeLimitUohm < microohm)) }
    if k < 3 then { t with pcu.shoe := some (k + 1), pcu.shoeTimer := some 50 } else checkEnds t

/-- SHOE_MEASUREMENT_END (R43). -/
def execShoeMeasurementEnd (microohm : Nat) (s : State) : Out :=
  onEvent (due s.pcu.shoeTimer) (shoeMeasured microohm) s

/-! ### Touch move (R44) -/

/-- The touch move is under way. -/
def touching (s : State) : Bool := s.pcu.contactMove == .touch

/-- TOUCH_CONTACT (R44). -/
def execTouchContact (s : State) : Out :=
  onEvent (touching s && decide (contactSamples ≤ s.pcu.contactRun)) completeTouch s

/-- The reserve position is reached without contact from the start (R44). -/
def reserveReached (s : State) : Bool :=
  !s.pcu.contactFromStart && decide ((s.loc.strokeFwd : Int) - s.loc.touchReserve ≤ s.pcu.position)

/-- TOUCH_RESERVE_REACHED (R44). -/
def execTouchReserveReached (s : State) : Out := onEvent (touching s && reserveReached s) touchFail s

/-- TOUCH_TIMER_EXPIRY (R44). -/
def execTouchTimerExpiry (s : State) : Out := onEvent (touching s && due s.pcu.touchTimer) touchFail s

/-! ### Pull drift (R49) -/

/-- The watch compares the latest sample, and it lies below the drift threshold (R49). -/
def drifts (s : State) : Bool :=
  s.pcu.driftWatch && !s.motionHeld && !s.pcu.tripped && s.pcu.forceOk
    && s.pcu.pullAtHoldEnd.any fun pull => belowDrift s pull s.pcu.force

/-- PULL_DRIFT is reported, and the watch stops (R49). -/
def pullDrifts (s : State) : State := reportFault .pullDrift { s with pcu.driftWatch := false }

/-- PULL_DRIFT (R49). -/
def execPullDrift (s : State) : Out := onEvent (drifts s) pullDrifts s

/-! ### Advance to contact (R75, R79) -/

/-- The advance to contact is under way. -/
def advancing (s : State) : Bool := s.pcu.contactMove == .advance

/-- ADVANCE_CONTACT (R75, R79). -/
def execAdvanceContact (s : State) : Out :=
  onEvent (advancing s && decide (contactSamples ≤ s.pcu.contactRun)) advanceDone s

/-- No contact found (R75, R79). -/
def advanceFails (s : State) : State := reportFault .noContact (platenHold s)

/-- ADVANCE_TIMER_EXPIRY (R75, R79). -/
def execAdvanceTimerExpiry (s : State) : Out := onEvent (advancing s && due s.pcu.touchTimer) advanceFails s

/-! ### The millisecond sample (R31) -/

/-- The first clamp pressure sample after a wake is compared with the release level (R35). -/
def compareWake (pressure : Nat) (s : State) : State :=
  if s.pcu.wakeSample then
    let t := { s with pcu.wakeSample := false }
    if readsClosed s pressure then reportHold .sensorFault t else t
  else s

/-- A sample: taken in, compared after a wake, followed by flash control, and the platen's next commanded position. -/
def sampleTaken (f : FieldSample) (s : State) : State :=
  advanceCommand (setFeed (updateMark (compareWake f.pressure (takeSample f s))))

/-- PCU_SAMPLE (R31). -/
def execPcuSample (f : FieldSample) (s : State) : Out := onEvent s.pcu.powered (sampleTaken f) s

end Sys2Proof.Machine
end

