-- ==== Sys2Proof/Machine/WeldEvents.lean ====
section
/-! DEFINITION. The events of WSQ's phase timers, of flash control and of the trimmer (chapters 1, 4 and 5). -/

namespace Sys2Proof.Machine

/-- The expiry of a timer that a pause holds (R16). -/
def dueUnpaused (t : Timer) (s : State) : Bool := due t && !s.paused

/-! ### PREHEAT (R76, R77) -/

/-- The contact interval ends: a normal OFF, and the wait for the drive off report (R76). -/
def contactEnds (s : State) : State := normalOff { s with wsq.contactTimer := none, flash.offAwaited := true }

/-- CONTACT_INTERVAL_EXPIRY (R76). -/
def execContactIntervalExpiry (s : State) : Out := onEvent (dueUnpaused s.wsq.contactTimer s) contactEnds s

/-- OPEN_INTERVAL_EXPIRY (R77). -/
def execOpenIntervalExpiry (s : State) : Out := onEvent (dueUnpaused s.wsq.openTimer s) openStepEnds s

/-! ### FLASH and BOOST (R81, R83, R85, R86, R88) -/

/-- A distance has been covered. -/
def covered (distance : Option Int) (wanted : Nat) : Bool := distance.any fun d => decide ((wanted : Int) ≤ d)

/-- BURN_OFF_REACHED (R81). -/
def execBurnOffReached (s : State) : Out :=
  onEvent (s.wsq.phase == some .flash && followsMark s && covered s.flash.burnOff s.sched.flashBurnoff) endFlash s

/-- BOOST_DISTANCE_REACHED (R88). -/
def execBoostDistanceReached (s : State) : Out :=
  onEvent (s.wsq.phase == some .boost && followsMark s && covered s.flash.boostDone s.sched.boostDist) enterUpset s

/-- The streak ends (R83). -/
def streakEnds (s : State) : State := { s with flash.streak := 0, flash.streakTimer := none }

/-- STREAK_TIMER_EXPIRY (R83). -/
def execStreakTimerExpiry (s : State) : Out := onEvent (dueUnpaused s.flash.streakTimer s) streakEnds s

/-- The flash is lost (R85). -/
def flashLoses (s : State) : State := reportFault .flashLost { s with flash.lostTimer := none }

/-- FLASH_LOST_EXPIRY (R85). -/
def execFlashLostExpiry (s : State) : Out := onEvent (dueUnpaused s.flash.lostTimer s) flashLoses s

/-- The flash time limit expires (R86); it is stopped, with the flash time kept at its full length. -/
def flashTimesOut (s : State) : State := reportFault .flashTimeout (stopFlashTime s)

/-- FLASH_TIME_EXPIRY (R86). -/
def execFlashTimeExpiry (s : State) : Out := onEvent (dueUnpaused s.wsq.flashTimer s) flashTimesOut s

/-! ### UPSET and HOLD (R94, R97, R98) -/

/-- The platen has reached the upset start position plus upset_cur_dist, at a plausible sample (R94). -/
def upsetDistanceReached (s : State) : Bool :=
  s.pcu.posOk && s.wsq.upsetStart.any fun p => decide (p + s.sched.upsetCurDist ≤ s.pcu.plausPosition)

/-- UPSET_CURRENT_DISTANCE (R94). -/
def execUpsetCurrentDistance (s : State) : Out :=
  onEvent (s.wsq.phase == some .upset && s.wsq.upsetMark && upsetDistanceReached s) endUpsetCurrent s

/-- The upset time limit expires: UPSET_TIMEOUT, the platen holds, UPSET ends at the latest plausible sample (R97). -/
def upsetTimesOut (s : State) : State :=
  endUpset s.pcu.plausPosition s.pcu.highForce (platenHold (reportFault .upsetTimeout { s with wsq.upsetTimer := none }))

/-- UPSET_TIME_EXPIRY (R97). -/
def execUpsetTimeExpiry (s : State) : Out := onEvent (dueUnpaused s.wsq.upsetTimer s) upsetTimesOut s

/-- The point pull_settle_ms before the end of HOLD has come (R48, R98). -/
def settlePoint (s : State) : Bool :=
  s.wsq.phase == some .hold && !s.wsq.pullRequested && !s.paused
    && s.wsq.holdTimer.any fun t => decide (t ≤ s.loc.pullSettleMs)

/-- The platen is put in HOLD for the pull (R48); while the station is stopped or held it is there already (R98). -/
def settlePull (s : State) : State :=
  let t := { s with wsq.pullRequested := true }
  if s.motionHeld || s.wsq.barred then t else platenHold t

/-- PULL_SETTLE_POINT (R48, R98). -/
def execPullSettlePoint (s : State) : Out := onEvent (settlePoint s) settlePull s

/-- The hold time expires: HOLD ends, at CLEAR while the station is stopped or held (R17, R98). -/
def holdTimeEnds (s : State) : State :=
  if s.motionHeld then { s with wsq.holdTimer := none, wsq.expired := true } else endHold s

/-- HOLD_TIME_EXPIRY (R98). -/
def execHoldTimeExpiry (s : State) : Out := onEvent (dueUnpaused s.wsq.holdTimer s) holdTimeEnds s

/-! ### Trimmer (R99 to R102) -/

/-- The trim window expires with no stroke started: LATE, TRIM_LATE filed, and the report (R100). -/
def windowEnds (s : State) : State :=
  trimReport .late
    (reportFault .trimLate { s with tru.window := none, tru.startWaiting := false, tru.result := some .late })

/-- TRIM_WINDOW_EXPIRY (R100). -/
def execTrimWindowExpiry (s : State) : Out := onEvent (due s.tru.window) windowEnds s

/-- END_SWITCH_MADE (R102). -/
def execEndSwitchMade (s : State) : Out := onEvent (s.tru.state == .advancing && !s.tru.stopped) reachEnd s

/-- DWELL_END (R102). -/
def execDwellEnd (s : State) : Out := onEvent (s.tru.state == .atEnd && due s.tru.dwell) startReturn s

/-- The result of a stroke that has come back (R102). -/
def strokeResult (s : State) : TrimResult := if s.tru.failFiled then .failed else .done

/-- The shear is back from a stroke (R102). -/
def strokeBack (s : State) : State :=
  trimReport (strokeResult s) { s with tru.state := .retracted, tru.strokeTimer := none }

/-- The return of a trimmer in FAULT is confirmed; a start that waited is made (R99, R101). -/
def faultBack (s : State) : State :=
  let t := { s with tru.state := .retracted, tru.stopped := false }
  if s.tru.startWaiting then startStroke t else t

/-- The return switch is made (R99, R102). -/
def returned (s : State) : State := if s.tru.state = .fault then faultBack s else strokeBack s

/-- RETURN_SWITCH_MADE (R99, R102). A switch made in DORMANT with TRU in FAULT is acted on: R12 has the sensors unpowered there,
R99 takes the return in any station state (assumption log 33). -/
def execReturnSwitchMade (s : State) : Out :=
  onEvent (s.tru.state == .fault || (s.tru.state == .returning && !s.tru.stopped)) returned s

/-- TRIM_FAIL is filed at most once in a weld (R102). -/
def fileTrimFail (s : State) : State :=
  if s.tru.failFiled then s else reportFault .trimFail { s with tru.failFiled := true }

/-- The stroke timer expires: in ADVANCING the shear returns, in RETURNING the return is not confirmed (R102). -/
def strokeTimesOut (s : State) : State :=
  if s.tru.state = .advancing then startReturn (fileTrimFail s)
  else
    trimReport .failed (fileTrimFail { s with tru.state := .fault, tru.valve := .return, tru.strokeTimer := none })

/-- TRIM_STROKE_TIMER_EXPIRY (R102). -/
def execTrimStrokeTimerExpiry (s : State) : Out :=
  onEvent (due s.tru.strokeTimer && (s.tru.state == .advancing || s.tru.state == .returning)) strokeTimesOut s

/-! ### COOL (R105) -/

/-- The cooling time expires: COOL ends, at CLEAR while the station is stopped or held (R17, R105). -/
def coolTimeEnds (s : State) : State :=
  if s.motionHeld then { s with wsq.coolTimer := none, wsq.expired := true } else endCool s

/-- COOLING_TIME_EXPIRY (R105). -/
def execCoolingTimeExpiry (s : State) : Out := onEvent (dueUnpaused s.wsq.coolTimer s) coolTimeEnds s

end Sys2Proof.Machine
end

