-- ==== Sys2Proof/Machine/DriveEvents.lean ====
section
/-! DEFINITION. The events of carrier timing and of the pulse (chapter 3). -/

namespace Sys2Proof.Machine

/-- Carrier timing runs: the drive mode is a current mode (R53, R56). -/
def timingRuns (s : State) : Bool := s.cdr.mode != .off

/-- The drive is RUNNING. -/
def driveRuns (s : State) : Bool := s.cdr.drive == .running

/-- The energy of the cycle is added and a complete cycle evaluated, at the boundary that ends it (R63, R69): also where
the drive has left RUNNING at that very boundary (R60, R90). -/
def cycleEnds (s : State) : State :=
  let t := if driveRuns s then creditEnergy s else s
  if s.cdr.whole then evaluateCycle t else t

/-- STL takes the boundary for its resume event (R114), and the next carrier cycle begins (R54). -/
def nextCycle (s : State) : State :=
  beginCycle (if s.stl.pause = .resuming then resumeRecovered s else s)

/-- A boundary between two carrier cycles; a drive that went OFF in the evaluation begins none. A normal OFF that the
evaluation itself asks for (NO_CONTACT) finds the half-cycle that begins here in progress, and takes effect at its end: the
manual does not say which half-cycle is then meant (assumption log 9). -/
def cycleBoundary (s : State) : State :=
  let t := cycleEnds s
  if timingRuns t && t.cdr.half == .boundary then nextCycle t else t

/-- CARRIER_CYCLE_END (R63). -/
def execCarrierCycleEnd (s : State) : Out := onEvent (timingRuns s && s.cdr.half == .boundary) cycleBoundary s

/-- A normal OFF waits for this half-cycle's end (R52). -/
def offWaits (s : State) : Bool := s.cdr.offPending && driveRuns s

/-- The positive half-cycle ends (R52, R57): a waiting OFF takes effect, or the negative half-cycle begins. -/
def positiveEnds (s : State) : State :=
  if offWaits s then driveOff s
  else startPulse { s with cdr.half := .negative, cdr.sampled := 0 }

/-- The negative half-cycle ends at the carrier-cycle boundary; a waiting OFF takes effect there, after a complete cycle has
been evaluated (R52, R57, R60). -/
def negativeEnds (s : State) : State :=
  let t := { s with cdr.half := .boundary, cdr.pulse := .none }
  if offWaits s then
    let u := cycleEnds t
    if offWaits u then driveOff u else u
  else t

/-- The half-cycle ends, with the rest of its samples and its primary integral (R51, R57, R67). -/
def halfEnds (samples : List DriveSample) (integral : Nat) (s : State) : State :=
  let t := takeIntegral integral (takeSamples samples s)
  if s.cdr.half = .positive then positiveEnds t else negativeEnds t

/-- HALF_CYCLE_END (R57). -/
def execHalfCycleEnd (samples : List DriveSample) (integral : Nat) (s : State) : Out :=
  onEvent (timingRuns s && s.cdr.half != .boundary) (halfEnds samples integral) s

/-- The pulse goes on as given. -/
def setPulse (p : Pulse) (s : State) : State := { s with cdr.pulse := p }

/-- PULSE_TRIP (R57). -/
def execPulseTrip (s : State) : Out := onEvent (s.cdr.pulse == .conducting) (setPulse .offTime) s

/-- The trip comparison begins; a current at or above the applied level trips at that instant (R58). -/
def blankingEnds (current : Nat) (s : State) : State :=
  setPulse (if s.cdr.applied.getD 0 ≤ current then .offTime else .conducting) s

/-- The samples of the reading are taken in, and a blanking interval that runs ends at the current read. Where none runs, or
no current is read, its samples are all it brings: so those of a half-cycle that is cut or divided between two modes are in
before, in a blanking interval too (assumption log 4). -/
def takeReading (reading : DriveReading) (s : State) : State :=
  let t := takeSamples reading.samples s
  match reading.current with
  | none => t
  | some current => if s.cdr.pulse = .blanking then blankingEnds current t else t

/-- BLANKING_END (R58). -/
def execBlankingEnd (reading : DriveReading) (s : State) : Out := onEvent true (takeReading reading) s

/-- OFF_TIME_END (R57). -/
def execOffTimeEnd (s : State) : Out := onEvent (s.cdr.pulse == .offTime) (fun t => setPulse (freshPulse t) t) s

/-- CONDUCTION_WINDOW_END (R67). -/
def execConductionWindowEnd (s : State) : Out := onEvent (s.cdr.pulse != .none) (setPulse .closed) s

/-- An overcurrent is taken: gates off, lockout, count and report (R61). Taken between the end of the negative half-cycle and
CARRIER_CYCLE_END, it makes the cycle just ended incomplete and its lockout ends at that boundary: the manual does not say
which cycle it falls in (assumption log 9). -/
def overcurrentTaken (s : State) : State :=
  reportFault .overcurrent
    { s with
      cdr.pulse := .none
      cdr.lockout := true
      cdr.whole := false
      cdr.overcurrentCount := s.cdr.overcurrentCount + 1 }

/-- OVERCURRENT (R61). -/
def execOvercurrent (s : State) : Out := onEvent (driveRuns s && !s.cdr.lockout) overcurrentTaken s

end Sys2Proof.Machine
end

