-- ==== Sys2Proof/Machine/StopEvents.lean ====
section
/-! DEFINITION. The events of the emergency-stop input and of the generator bus (sections 6.1 to 6.3). -/

namespace Sys2Proof.Machine

/-- The level of the emergency-stop input. -/
def setInput (level : Bool) (s : State) : State := { s with stl.input := level }

/-- The input becomes asserted (R108, R109): ACTIVE from RUN and HELD; in ACTIVE the release debounce is discarded. In the
reset state only the level is taken (assumption log 7). -/
def stopAsserted (returnSwitch : Bool) (s : State) : State :=
  let t := setInput true s
  if s.inReset then t
  else if s.stl.stop = .active then { t with stl.debounce := none }
  else enterActive returnSwitch t

/-- E_STOP_ASSERTED (R108). -/
def execEStopAsserted (returnSwitch : Bool) (s : State) : Out := .next (stopAsserted returnSwitch s)

/-- The input becomes deasserted: in ACTIVE the release debounce starts (R109). -/
def stopDeasserted (s : State) : State :=
  let t := setInput false s
  if !s.inReset && s.stl.stop == .active then { t with stl.debounce := some 20 } else t

/-- E_STOP_DEASSERTED (R109). -/
def execEStopDeasserted (s : State) : Out := .next (stopDeasserted s)

/-- The release debounce has run out: HELD, with its notice (R109, R111). -/
def releaseEnds (s : State) : State := stopNotice { s with stl.stop := .held, stl.debounce := none }

/-- RELEASE_DEBOUNCE_EXPIRY (R109). -/
def execReleaseDebounceExpiry (s : State) : Out :=
  onEvent (s.stl.stop == .active && due s.stl.debounce) releaseEnds s

/-- BUS_VOLTAGE_SAMPLE (R112). -/
def execBusVoltageSample (volts : Nat) (s : State) : Out := onEvent (detectorRuns s) (takeVolts volts) s

/-- The deglitch expires: the sag is counted, and begins a pause if the station draws and is not stopped or held (R112,
R113). -/
def sagCounts (s : State) : State :=
  let t := { s with stl.sagCount := bump16 s.stl.sagCount, stl.deglitch := none }
  if s.drawing && !s.motionHeld then beginPause t else { t with stl.deglitched := true }

/-- SAG_DEGLITCH_EXPIRY (R113). -/
def execSagDeglitchExpiry (s : State) : Out := onEvent (due s.stl.deglitch) sagCounts s

/-- The pause timer expires: SUPPLY_LOST, and the pause ends at once where the station does not draw (R115). -/
def pauseTimesOut (s : State) : State :=
  drawingEndedIfIdle (reportFault .supplyLost { s with stl.pauseTimer := none, stl.lostReported := true })
where
  /-- The pause in force ends unless the station still draws. -/
  drawingEndedIfIdle (s : State) : State := if s.drawing then s else drawingEnded s

/-- PAUSE_TIMER_EXPIRY (R115). -/
def execPauseTimerExpiry (s : State) : Out := onEvent (s.paused && due s.stl.pauseTimer) pauseTimesOut s

end Sys2Proof.Machine
end

