-- ==== Sys2Proof/Machine/Clock.lean ====
section
/-! DEFINITION. The passing of a millisecond, which step takes on an empty queue (assumption log 2): every running timer
counts down, but for those a pause holds; time stands still while an expiry is due. -/

namespace Sys2Proof.Machine

/-! ### Timers by owner -/

/-- PCU's timers, in real time. -/
def Pcu.timers (p : Pcu) : List Timer := [p.clampTimer, p.moveTimer, p.touchTimer, p.shoeTimer]

/-- WSQ's timers that no pause holds (R10, R11, R13, R178, R180). -/
def Wsq.timers (w : Wsq) : List Timer := [w.idleTimer, w.recoverTimer, w.wakeTimer, w.listenTimer, w.loadTimer]

/-- WSQ's phase timers (R15). -/
def Wsq.phaseTimers (w : Wsq) : List Timer :=
  [w.contactTimer, w.openTimer, w.flashTimer, w.upsetTimer, w.holdTimer, w.coolTimer]

/-- Flash control's timers, held by a pause as the phase timers are (R83, R85). -/
def Flash.timers (f : Flash) : List Timer := [f.streakTimer, f.lostTimer]

/-- SHT's timers (R127, R131, R134, R140). -/
def Sht.timers (t : Sht) : List Timer :=
  [t.settleTimer, t.claimWait] ++ t.peers.map (·.lossTimer) ++ t.claims.map (·.drain)

/-- TRU's timers (R100, R102). -/
def Tru.timers (t : Tru) : List Timer := [t.window, t.strokeTimer, t.dwell]

/-- STL's timers (R109, R112, R115). -/
def Stl.timers (t : Stl) : List Timer := [t.debounce, t.deglitch, t.pauseTimer]

/-- Timers that run whatever the pause state. -/
def State.realTimers (s : State) : List Timer :=
  s.pcu.timers ++ s.wsq.timers ++ s.sht.timers ++ s.tru.timers ++ s.stl.timers ++ [s.lkc.beaconTimer, s.wrs.writeTimer]

/-- Timers a pause holds (R16, R83, R85). -/
def State.heldTimers (s : State) : List Timer := s.wsq.phaseTimers ++ s.flash.timers

/-- An expiry waits to be taken: time does not pass before it is. -/
def State.expiryWaits (s : State) : Bool :=
  s.realTimers.any due || (!s.paused && s.heldTimers.any due) || settlePoint s

/-! ### One millisecond -/

/-- PCU's timers after a millisecond. -/
def Pcu.tick (p : Pcu) : Pcu :=
  { p with
    clampTimer := Machine.tick p.clampTimer
    moveTimer := Machine.tick p.moveTimer
    touchTimer := Machine.tick p.touchTimer
    shoeTimer := Machine.tick p.shoeTimer }

/-- WSQ's timers after a millisecond. -/
def Wsq.tick (held : Bool) (w : Wsq) : Wsq :=
  { w with
    idleTimer := Machine.tick w.idleTimer
    recoverTimer := Machine.tick w.recoverTimer
    wakeTimer := Machine.tick w.wakeTimer
    listenTimer := Machine.tick w.listenTimer
    loadTimer := Machine.tick w.loadTimer
    contactTimer := tickUnless held w.contactTimer
    openTimer := tickUnless held w.openTimer
    flashTimer := tickUnless held w.flashTimer
    upsetTimer := tickUnless held w.upsetTimer
    holdTimer := tickUnless held w.holdTimer
    coolTimer := tickUnless held w.coolTimer }

/-- Flash control's timers after a millisecond. -/
def Flash.tick (held : Bool) (f : Flash) : Flash :=
  { f with
    streakTimer := tickUnless held f.streakTimer
    lostTimer := tickUnless held f.lostTimer }

/-- SHT's timers after a millisecond. -/
def Sht.tick (t : Sht) : Sht :=
  { t with
    settleTimer := Machine.tick t.settleTimer
    claimWait := Machine.tick t.claimWait
    peers := t.peers.map fun p => { p with lossTimer := Machine.tick p.lossTimer }
    claims := t.claims.map fun c => { c with drain := Machine.tick c.drain } }

/-- TRU's timers after a millisecond. -/
def Tru.tick (t : Tru) : Tru :=
  { t with window := Machine.tick t.window, strokeTimer := Machine.tick t.strokeTimer, dwell := Machine.tick t.dwell }

/-- STL's timers after a millisecond. -/
def Stl.tick (t : Stl) : Stl :=
  { t with
    debounce := Machine.tick t.debounce
    deglitch := Machine.tick t.deglitch
    pauseTimer := Machine.tick t.pauseTimer }

/-- The time the drive is RUNNING, which goes to a tally with the energy of the cycle (R70). -/
def Cdr.tick (c : Cdr) : Cdr := if c.drive = .running then { c with runMs := c.runMs + 1 } else c

/-- A millisecond passes. -/
def millisecond (s : State) : State :=
  { s with
    now := s.now + 1
    wsq := s.wsq.tick s.paused
    flash := s.flash.tick s.paused
    cdr := s.cdr.tick
    pcu := s.pcu.tick
    tru := s.tru.tick
    stl := s.stl.tick
    sht := s.sht.tick
    lkc.beaconTimer := tick s.lkc.beaconTimer
    wrs.writeTimer := tick s.wrs.writeTimer }

/-- What the block does while no command waits. -/
def idle (s : State) : State := if s.expiryWaits then s else millisecond s

end Sys2Proof.Machine
end

