-- ==== Sys2Proof/Machine/Dispatch.lean ====
section
/-! DEFINITION. exec: one command's effect on everything but the queue, one arm per command. -/

namespace Sys2Proof.Machine

/-- A command's meaning. -/
def exec (i : Instr) (s : State) : Host.Outcome State Fault Refusal :=
  match i with
  | .powerOn => Sys2Proof.Machine.execPowerOn s
  | .hardReset => Sys2Proof.Machine.execHardReset s
  | .resetEnd straps first returnSwitch => Sys2Proof.Machine.execResetEnd straps first returnSwitch s
  | .restartReset straps first returnSwitch => Sys2Proof.Machine.execRestartReset straps first returnSwitch s
  | .settingsReadComplete image => Sys2Proof.Machine.execSettingsReadComplete image s
  | .loadingTimeLimit => Sys2Proof.Machine.execLoadingTimeLimit s
  | .listeningWindowEnd => Sys2Proof.Machine.execListeningWindowEnd s
  | .recoveryCoolingExpiry => Sys2Proof.Machine.execRecoveryCoolingExpiry s
  | .idleTimerExpiry => Sys2Proof.Machine.execIdleTimerExpiry s
  | .wakeTimeEnd returnSwitch => Sys2Proof.Machine.execWakeTimeEnd returnSwitch s
  | .takeHeadOrder railTemp => Sys2Proof.Machine.execTakeHeadOrder railTemp s
  | .orderClamp src tag sched => Sys2Proof.Machine.execOrderClamp src tag sched s
  | .orderWeld src tag sched kind neutral => Sys2Proof.Machine.execOrderWeld src tag sched kind neutral s
  | .orderUnclamp src tag => Sys2Proof.Machine.execOrderUnclamp src tag s
  | .abort src tag target => Sys2Proof.Machine.execAbort src tag target s
  | .clear src tag => Sys2Proof.Machine.execClear src tag s
  | .status src tag selector part => Sys2Proof.Machine.execStatus src tag selector part s
  | .adjust src tag trip speed force => Sys2Proof.Machine.execAdjust src tag trip speed force s
  | .readRecord src tag weldNo => Sys2Proof.Machine.execReadRecord src tag weldNo s
  | .releaseHold src tag weldNo => Sys2Proof.Machine.execReleaseHold src tag weldNo s
  | .rest src tag => Sys2Proof.Machine.execRest src tag s
  | .restart src tag => Sys2Proof.Machine.execRestart src tag s
  | .badOrder src body => Sys2Proof.Machine.execBadOrder src body s
  | .arrivalListHandling => Sys2Proof.Machine.execArrivalListHandling s
  | .outgoingFrameQueued => Sys2Proof.Machine.execOutgoingFrameQueued s
  | .recordPartQueued => Sys2Proof.Machine.execRecordPartQueued s
  | .beaconReceived src body => Sys2Proof.Machine.execBeaconReceived src body s
  | .claimReceived src number demand => Sys2Proof.Machine.execClaimReceived src number demand s
  | .yieldReceived src number => Sys2Proof.Machine.execYieldReceived src number s
  | .frameDiscarded frame => Sys2Proof.Machine.execFrameDiscarded frame s
  | .lineActivity => Sys2Proof.Machine.execLineActivity s
  | .mediumAccessWaitEnd => Sys2Proof.Machine.execMediumAccessWaitEnd s
  | .linkRestCleared => Sys2Proof.Machine.execLinkRestCleared s
  | .frameTransmitted => Sys2Proof.Machine.execFrameTransmitted s
  | .collision => Sys2Proof.Machine.execCollision s
  | .beaconTimerExpiry => Sys2Proof.Machine.execBeaconTimerExpiry s
  | .settleWindowExpiry => Sys2Proof.Machine.execSettleWindowExpiry s
  | .claimWaitExpiry => Sys2Proof.Machine.execClaimWaitExpiry s
  | .lossTimerExpiry peer => Sys2Proof.Machine.execLossTimerExpiry peer s
  | .drainExpiry station => Sys2Proof.Machine.execDrainExpiry station s
  | .clampForceReached => Sys2Proof.Machine.execClampForceReached s
  | .clampReleased => Sys2Proof.Machine.execClampReleased s
  | .clampTimerExpiry => Sys2Proof.Machine.execClampTimerExpiry s
  | .slipDetected => Sys2Proof.Machine.execSlipDetected s
  | .slipRearmed => Sys2Proof.Machine.execSlipRearmed s
  | .implausibleSample => Sys2Proof.Machine.execImplausibleSample s
  | .plausibilityRearm => Sys2Proof.Machine.execPlausibilityRearm s
  | .movementTargetReached => Sys2Proof.Machine.execMovementTargetReached s
  | .movementTimerExpiry => Sys2Proof.Machine.execMovementTimerExpiry s
  | .forceReached => Sys2Proof.Machine.execForceReached s
  | .shoeMeasurementEnd microohm => Sys2Proof.Machine.execShoeMeasurementEnd microohm s
  | .touchContact => Sys2Proof.Machine.execTouchContact s
  | .touchReserveReached => Sys2Proof.Machine.execTouchReserveReached s
  | .touchTimerExpiry => Sys2Proof.Machine.execTouchTimerExpiry s
  | .pullDrift => Sys2Proof.Machine.execPullDrift s
  | .advanceContact => Sys2Proof.Machine.execAdvanceContact s
  | .advanceTimerExpiry => Sys2Proof.Machine.execAdvanceTimerExpiry s
  | .contactIntervalExpiry => Sys2Proof.Machine.execContactIntervalExpiry s
  | .openIntervalExpiry => Sys2Proof.Machine.execOpenIntervalExpiry s
  | .burnOffReached => Sys2Proof.Machine.execBurnOffReached s
  | .boostDistanceReached => Sys2Proof.Machine.execBoostDistanceReached s
  | .streakTimerExpiry => Sys2Proof.Machine.execStreakTimerExpiry s
  | .flashLostExpiry => Sys2Proof.Machine.execFlashLostExpiry s
  | .flashTimeExpiry => Sys2Proof.Machine.execFlashTimeExpiry s
  | .upsetCurrentDistance => Sys2Proof.Machine.execUpsetCurrentDistance s
  | .upsetTimeExpiry => Sys2Proof.Machine.execUpsetTimeExpiry s
  | .pullSettlePoint => Sys2Proof.Machine.execPullSettlePoint s
  | .holdTimeExpiry => Sys2Proof.Machine.execHoldTimeExpiry s
  | .trimWindowExpiry => Sys2Proof.Machine.execTrimWindowExpiry s
  | .endSwitchMade => Sys2Proof.Machine.execEndSwitchMade s
  | .dwellEnd => Sys2Proof.Machine.execDwellEnd s
  | .returnSwitchMade => Sys2Proof.Machine.execReturnSwitchMade s
  | .trimStrokeTimerExpiry => Sys2Proof.Machine.execTrimStrokeTimerExpiry s
  | .coolingTimeExpiry => Sys2Proof.Machine.execCoolingTimeExpiry s
  | .recordWriteComplete => Sys2Proof.Machine.execRecordWriteComplete s
  | .carrierCycleEnd => Sys2Proof.Machine.execCarrierCycleEnd s
  | .halfCycleEnd samples integral => Sys2Proof.Machine.execHalfCycleEnd samples integral s
  | .pulseTrip => Sys2Proof.Machine.execPulseTrip s
  | .blankingEnd reading => Sys2Proof.Machine.execBlankingEnd reading s
  | .offTimeEnd => Sys2Proof.Machine.execOffTimeEnd s
  | .conductionWindowEnd => Sys2Proof.Machine.execConductionWindowEnd s
  | .overcurrent => Sys2Proof.Machine.execOvercurrent s
  | .eStopAsserted returnSwitch => Sys2Proof.Machine.execEStopAsserted returnSwitch s
  | .eStopDeasserted => Sys2Proof.Machine.execEStopDeasserted s
  | .releaseDebounceExpiry => Sys2Proof.Machine.execReleaseDebounceExpiry s
  | .busVoltageSample volts => Sys2Proof.Machine.execBusVoltageSample volts s
  | .sagDeglitchExpiry => Sys2Proof.Machine.execSagDeglitchExpiry s
  | .pauseTimerExpiry => Sys2Proof.Machine.execPauseTimerExpiry s
  | .pcuSample sample => Sys2Proof.Machine.execPcuSample sample s

end Sys2Proof.Machine
end

