-- ==== Sys2Proof/Machine/Step.lean ====
section
/-! DEFINITION. step: the command at the front of the queue, or a millisecond of the block's own time where none waits
(assumption log 2). -/

namespace Sys2Proof.Machine

/-- One step. -/
def step (s : State) : Host.Outcome State Fault Refusal :=
  match s.pending with
  | [] => .next (idle s)
  | c :: rest => exec c { s with pending := rest }

/-- The state with the command a table word spells in front of its queue; none spells one (Decode). -/
def State.withFetchWord (s : State) (nbits w : Nat) : State :=
  match decodeTableWord nbits w with
  | none => s
  | some c => { s with pending := c :: s.pending }

end Sys2Proof.Machine
end

