-- ==== Sys2Proof/WellFormed.lean ====
section
/-! DEFINITION. Which operands a command can bring: what a byte, a field of a frame, a node number or a field line can
hold. The meanings are total and do not ask for it; statements that need it take it as a premise. -/

namespace Sys2Proof

open Machine

/-- A value of one byte. -/
def isByte (n : Nat) : Bool := decide (n < 256)

/-- A value of two bytes. -/
def isWord (n : Nat) : Bool := decide (n < 65536)

/-- A value of four bytes. -/
def isLong (n : Nat) : Bool := decide (n ≤ top32)

/-- A signed value of one byte. -/
def isSignedByte (x : Int) : Bool := decide (-128 ≤ x) && decide (x ≤ 127)

/-- A signed value of two bytes, as a sample of the platen position or force: R165 shows both in two bytes, the force
signed, and of the position it names no sign (assumption log 34). -/
def isSignedWord (x : Int) : Bool := decide (-32768 ≤ x) && decide (x ≤ 32767)

/-- The node number of a panel (R149, check 5: an ORDER from 0 to 7 is discarded; 15 is no source). -/
def isPanel (src : Nat) : Bool := decide (8 ≤ src) && decide (src ≤ 14)

/-- A node number that can be a source (R149). -/
def isSource (src : Nat) : Bool := decide (src ≤ 14)

/-- A station number. -/
def isStation (n : Nat) : Bool := decide (n ≤ 7)

/-- The tag of a queued order (R161). -/
def isQueuedTag (tag : Nat) : Bool := decide (tag ≤ 15)

/-- Samples one half-cycle can bring (R51). -/
def isSampleRun (samples : List DriveSample) : Bool := decide (samples.length ≤ samplesPerHalf)

/-- A millisecond sample within what its lines show. -/
def FieldSample.wf (f : FieldSample) : Bool := isSignedWord f.position && isSignedWord f.force && isWord f.pressure

/-- A BEACON body with every field in its bytes (Table 8-4). -/
def BeaconBody.wf (b : BeaconBody) : Bool :=
  isByte b.stateCode && isByte b.phaseCode && isLong b.claimNumber && isWord b.demand && isLong b.clock
    && isWord b.digest && isLong b.weldCounter

/-- The operands of a command are ones it can bring. -/
def Instr.wf : Instr → Bool
  | .powerOn => true
  | .hardReset => true
  | .resetEnd straps first _ => isStation straps && first.wf
  | .restartReset straps first _ => isStation straps && first.wf
  | .settingsReadComplete _ => true
  | .loadingTimeLimit => true
  | .listeningWindowEnd => true
  | .recoveryCoolingExpiry => true
  | .idleTimerExpiry => true
  | .wakeTimeEnd _ => true
  | .takeHeadOrder railTemp => railTemp.all isSignedByte
  | .orderClamp src tag sched => isPanel src && isQueuedTag tag && isByte sched
  | .orderWeld src tag sched _ neutral => isPanel src && isQueuedTag tag && isByte sched && isSignedByte neutral
  | .orderUnclamp src tag => isPanel src && isQueuedTag tag
  | .abort src tag target => isPanel src && isByte tag && isByte target
  | .clear src tag => isPanel src && isByte tag
  | .status src tag selector part => isPanel src && isByte tag && isByte selector && isByte part
  | .adjust src tag trip speed force =>
    isPanel src && isByte tag && isSignedByte trip && isSignedByte speed && isSignedByte force
  | .readRecord src tag weldNo => isPanel src && isByte tag && isLong weldNo
  | .releaseHold src tag weldNo => isPanel src && isByte tag && isLong weldNo
  | .rest src tag => isPanel src && isByte tag
  | .restart src tag => isPanel src && isByte tag
  | .badOrder src body => isPanel src && malformed body && decide (body.length ≤ 64)
  | .arrivalListHandling => true
  | .outgoingFrameQueued => true
  | .recordPartQueued => true
  | .beaconReceived src body => isSource src && body.wf
  | .claimReceived src number demand => isSource src && isLong number && isWord demand
  | .yieldReceived src number => isSource src && isLong number
  | .frameDiscarded _ => true
  | .lineActivity => true
  | .mediumAccessWaitEnd => true
  | .linkRestCleared => true
  | .frameTransmitted => true
  | .collision => true
  | .beaconTimerExpiry => true
  | .settleWindowExpiry => true
  | .claimWaitExpiry => true
  | .lossTimerExpiry peer => isStation peer
  | .drainExpiry station => isStation station
  | .clampForceReached => true
  | .clampReleased => true
  | .clampTimerExpiry => true
  | .slipDetected => true
  | .slipRearmed => true
  | .implausibleSample => true
  | .plausibilityRearm => true
  | .movementTargetReached => true
  | .movementTimerExpiry => true
  | .forceReached => true
  | .shoeMeasurementEnd microohm => isWord microohm
  | .touchContact => true
  | .touchReserveReached => true
  | .touchTimerExpiry => true
  | .pullDrift => true
  | .advanceContact => true
  | .advanceTimerExpiry => true
  | .contactIntervalExpiry => true
  | .openIntervalExpiry => true
  | .burnOffReached => true
  | .boostDistanceReached => true
  | .streakTimerExpiry => true
  | .flashLostExpiry => true
  | .flashTimeExpiry => true
  | .upsetCurrentDistance => true
  | .upsetTimeExpiry => true
  | .pullSettlePoint => true
  | .holdTimeExpiry => true
  | .trimWindowExpiry => true
  | .endSwitchMade => true
  | .dwellEnd => true
  | .returnSwitchMade => true
  | .trimStrokeTimerExpiry => true
  | .coolingTimeExpiry => true
  | .recordWriteComplete => true
  | .carrierCycleEnd => true
  | .halfCycleEnd samples _ => isSampleRun samples
  | .pulseTrip => true
  | .blankingEnd reading => isSampleRun reading.samples
  | .offTimeEnd => true
  | .conductionWindowEnd => true
  | .overcurrent => true
  | .eStopAsserted _ => true
  | .eStopDeasserted => true
  | .releaseDebounceExpiry => true
  | .busVoltageSample _ => true
  | .sagDeglitchExpiry => true
  | .pauseTimerExpiry => true
  | .pcuSample sample => sample.wf

end Sys2Proof
end

