-- ==== Sys2Proof/Safety.lean ====
section
/-! DEFINITION. What holds of the station at every moment: the conditions of the manual that relate the fields of State,
which every step keeps. -/

namespace Sys2Proof.Machine

/-! ### How statements about a command are said -/

/-- The command answers a next state, of which `p` holds. -/
def completes (c : Instr) (s : State) (p : State → Prop) : Prop := ∃ t, exec c s = .next t ∧ p t

/-- What no event but a reset, the settings or the passing of time changes. -/
def sameBase (s t : State) : Prop :=
  t.inReset = s.inReset ∧ t.node = s.node ∧ t.settings = s.settings ∧ t.now = s.now ∧ t.pending = s.pending

/-- The frames handed to LKC and not yet in its send slot, in their order: the transmit queue, then those waiting for
room. -/
def outgoing (s : State) : List TxFrame := s.lkc.queue ++ s.lkc.waiters

/-- The transmit queue once a share frame has been placed in it: behind the last share frame, in a full queue on the entry of the
newest non-share frame, or of the oldest CLAIM or YIELD where all are share frames (R154, R156). -/
def shareQueued (f : TxFrame) (queue : List TxFrame) : List TxFrame :=
  let rest :=
    if queue.length < 6 then queue
    else if queue.all (·.kind.isShare) then queue.eraseP fun g => g.kind = .claim ∨ g.kind = .yield
    else queue.dropLast
  rest.takeWhile (·.kind.isShare) ++ f :: rest.dropWhile (·.kind.isShare)

/-- The drop of a frame has been reported to the block that queued it: a dropped CLAIM of the own claim starts its settle window if
a beacon has named the claim, and leaves it to the first such beacon otherwise; a dropped RESTART answer makes the reset due;
a dropped part 2 ends its read transfer (R131, R156, R167, R175). -/
def dropReported (s t : State) (p : Purpose) : Prop :=
  let own (n : Nat) := ∃ c, s.ownClaim = some c ∧ c.number = n
  (∀ n, p = .claim n → own n →
    (s.sht.beaconNamed = true →
      t.sht =
        if s.sht.settleFlag = false ∧ s.sht.settleTimer = none then
          { s.sht with settleTimer := some s.shr.settleMs }
        else s.sht) ∧
    (s.sht.beaconNamed = false → t.sht = { s.sht with claimDropped := true })) ∧
  ((∀ n, p = .claim n → ¬own n) → t.sht = s.sht) ∧
  t.orq = (if p = .restartAnswer then { s.orq with restartDue := true } else s.orq) ∧
  (∀ id, p = .recordPart 2 id → t.wrs = { s.wrs with reads := s.wrs.reads.eraseP (·.id = id) }) ∧
  ((∀ id, p ≠ .recordPart 2 id) → t.wrs = s.wrs)

/-- The link but for its two lists of frames and its medium access. -/
def sameLink (s t : State) : Prop :=
  t.lkc = { s.lkc with
    queue := t.lkc.queue, waiters := t.lkc.waiters, wait := t.lkc.wait, lineBusy := t.lkc.lineBusy }

/-- The blocks of the head and of the drive. -/
def sameHead (s t : State) : Prop :=
  t.flash = s.flash ∧ t.cdr = s.cdr ∧ t.pcu = s.pcu ∧ t.tru = s.tru

/-- What an order that does nothing but answer leaves: all but LKC, and the idle timer it restarts (R11). -/
def onlyAnswered (s t : State) : Prop :=
  sameBase s t ∧ sameLink s t ∧ sameHead s t ∧ t.stl = s.stl ∧ t.sht = s.sht ∧ t.orq = s.orq ∧ t.wrs = s.wrs ∧
    t.wsq = { s.wsq with idleTimer := t.wsq.idleTimer }

/-- An order that arrives is handled at once: the station is configured and awake, no answer waits for room, no order is
held from a wake, and no restart is pending. -/
def takesOrdersNow (s : State) : Prop :=
  s.inReset = false ∧ s.configured = true ∧ s.wsq.station ≠ .dormant ∧ s.wsq.station ≠ .waking ∧ noOutgoing s = true ∧
    s.orq.heldList = [] ∧ s.orq.restartPending = false

/-- The energy totals once the cycle in progress has been added, `sums` being its sums: to each mode the part divided off to it,
and to the mode in force the rest, no total above 99,999 kJ (R69; the sums behind the kJ: assumption log 12). -/
def energyAdded (c : Cdr) (sums : CycleSums) : PerMode Int :=
  let rest (m : DriveMode) : Int := if c.mode = m then sums.energy - sums.credited else 0
  let top : Int := 99999 * 6400 * c.carrierHz
  { preheat := min (c.energy.preheat + c.partEnergy.preheat + rest .preheatContact) top
    flash := min (c.energy.flash + c.partEnergy.flash + rest .flash) top
    boost := min (c.energy.boost + c.partEnergy.boost + rest .boost) top
    upset := min (c.energy.upset + c.partEnergy.upset + rest .upsetCurrent) top }

/-- The current time tallies once the cycle in progress has been added (R70). -/
def timeAdded (c : Cdr) : PerMode Nat :=
  let rest (m : DriveMode) : Nat := if c.mode = m then c.runMs else 0
  { preheat := c.tally.preheat + c.partMs.preheat + rest .preheatContact
    flash := c.tally.flash + c.partMs.flash + rest .flash
    boost := c.tally.boost + c.partMs.boost + rest .boost
    upset := c.tally.upset + c.partMs.upset + rest .upsetCurrent }

/-- The cycle in progress has been added to the totals and the tallies, and nothing of it is left to add (R69, R70). -/
def cycleAdded (c after : Cdr) (sums : CycleSums) : Prop :=
  after.energy = energyAdded c sums ∧ after.tally = timeAdded c ∧ after.partEnergy = ⟨0, 0, 0, 0⟩ ∧
    after.partMs = ⟨0, 0, 0, 0⟩ ∧ after.runMs = 0

/-- These faults of a phase have been filed in the open record, in this order, where its list has room for them; a QUALITY fault
sets the quality mark (R28). -/
def files (s t : State) (p : WeldPhase) (faults : List (FaultCode × Severity)) : Prop :=
  ∀ w, s.wrs.working = some w → w.record.faults.length + faults.length ≤ 6 →
    t.wrs.working.map (fun u => (u.record.faults, u.quality)) =
      some (w.record.faults ++ faults.map (fun f => ⟨f.1, f.2, p, s.now - w.openedAt⟩),
        w.quality || faults.any (·.2 == .quality))

/-- What the end of UPSET does to the trimmer: the trim window opens, unless trimming is off (SKIPPED) or the weld is aborted
(R100). That SKIPPED is set at this moment is the model's choice (assumption log 35). -/
def windowOpened (s t : State) : Prop :=
  t.tru =
    if s.sched.trimEnable = 0 then { s.tru with result := some .skipped }
    else if s.wsq.abort.isSome then s.tru
    else { s.tru with window := some (s.sched.trimWindowS * 1000) }

/-- The faults that the comparison of the upset distance files (R96). -/
def upsetFaults (s : State) (distance : Int) : List (FaultCode × Severity) :=
  if distance < s.sched.upsetMin then [(.upsetShort, .quality)]
  else if s.sched.upsetMax < distance then [(.upsetLong, .quality)] else []

/-- The command by which a panel sends a queued order. -/
def queuedCommand (src tag : Nat) : QueuedKind → Instr
  | .clamp sched => .orderClamp src tag sched
  | .weld sched kind neutral => .orderWeld src tag sched kind neutral
  | .unclamp => .orderUnclamp src tag

/-- The command of an ORDER body. -/
def bodyCommand (src : Nat) : OrderBody → Instr
  | .queued tag kind => queuedCommand src tag kind
  | .abort tag target => .abort src tag target
  | .clear tag => .clear src tag
  | .status tag selector part => .status src tag selector part
  | .adjust tag trip speed force => .adjust src tag trip speed force
  | .readRecord tag weldNo => .readRecord src tag weldNo
  | .releaseHold tag weldNo => .releaseHold src tag weldNo
  | .rest tag => .rest src tag
  | .restart tag => .restart src tag
  | .malformed body => .badOrder src body

/-- An ANSWER frame (Table 9-3). -/
def answerFrame (dest code tag result : Nat) (reason : Reason) (data : List Byte) (p : Purpose) : TxFrame :=
  ⟨.answer, dest, answerBody code tag result reason data, p⟩

/-- The reset events (R177). -/
def isReset : Instr → Bool
  | .powerOn => true
  | .hardReset => true
  | .resetEnd _ _ _ => true
  | .restartReset _ _ _ => true
  | _ => false

/-! ### Invariants -/

/-- Table 3-3 (R53): the drive is BLOCKED exactly when its mode is OFF, and RUNNING only while every run condition
holds; a station held in its reset state does not run it. -/
def State.driveSound (s : State) : Prop :=
  (s.cdr.drive = .blocked ↔ s.cdr.mode = .off) ∧
    (s.cdr.drive = .running → s.inReset = false ∧ s.runConditions = true)

/-- R129: claims stand in their order, no two of one station, none above 7, numbers from 1 to the clock's top value, and a
drain timer runs exactly for a STALE one. -/
def claimListSound (l : List Claim) : Prop :=
  l.Pairwise (fun a b => a.ahead b = true ∧ a.station ≠ b.station) ∧
    ∀ c ∈ l, c.station ≤ 7 ∧ 1 ≤ c.number ∧ c.number ≤ top32 ∧ (c.drain.isSome ↔ c.state = .stale)

/-- Every waiting command has operands it can bring. -/
def State.pendingSound (s : State) : Prop := ∀ c ∈ s.pending, c.wf = true

/-- R128, R129, R146: station number, claim clock, claim list. -/
def State.shareSound (s : State) : Prop :=
  s.pendingSound ∧ s.node ≤ 7 ∧ s.sht.clock ≤ top32 ∧ claimListSound s.sht.claims

/-- R154: no share frame stands behind another frame. -/
def shareFirst (q : List TxFrame) : Prop :=
  q.Pairwise fun a b => b.kind.isShare = true → a.kind.isShare = true

/-- R153, R154, R156: at most six queued frames, share frames first, no share frame waiting for room, a frame in the send
slot whenever one is being sent, fewer than three collisions of it. -/
def State.linkSound (s : State) : Prop :=
  s.lkc.queue.length ≤ queueSize ∧ shareFirst s.lkc.queue ∧ (∀ f ∈ s.lkc.waiters, f.kind.isShare = false) ∧
    (s.lkc.sending = true → s.lkc.slot.isSome = true) ∧ s.lkc.collisionRun < jamLimit

/-- R2, R13, R160, R162: at most four queued orders, no two of one tag, only the first one taken; at most four orders held
and four arrivals. -/
def State.ordersSound (s : State) : Prop :=
  s.orq.queue.length ≤ 4 ∧ s.orq.queue.Pairwise (fun a b => a.tag ≠ b.tag) ∧
    (∀ o ∈ s.orq.queue.tail, o.status = .waiting) ∧
    s.orq.heldList.length ≤ listCapacity ∧ s.orq.arrivals.length ≤ listCapacity

/-- R67: the flux correction stands within its bounds. -/
def State.fluxSound (s : State) : Prop := -16 ≤ s.cdr.flux ∧ s.cdr.flux ≤ 16

/-- R169: the store has its 48 slots. -/
def State.storeSound (s : State) : Prop := s.wrs.slots.length = slotCount

/-- R112, R144, R158, R160: every counter stands at or below its top value. -/
def State.countersSound (s : State) : Prop :=
  ∀ n ∈ [s.stl.sagCount, s.stl.pauseCount, s.sht.admissions, s.sht.claimTimeouts, s.sht.peerLosses, s.sht.staleDrains,
    s.sht.discordEvents, s.sht.oversubscriptions, s.sht.ignoredYields, s.lkc.crcErrors, s.lkc.lengthErrors,
    s.lkc.badKinds, s.lkc.foreignOrders, s.lkc.collisions, s.lkc.jammedDrops, s.lkc.queueFullDrops, s.orq.ordersLost],
    n ≤ 65535

end Sys2Proof.Machine
end

