-- ==== Sys2Proof/Certificates/Slice0/Obligations.lean ====
section
/-! DEFINITION. The statements for the provers, as the rules of spec/ give them. `completes c s p` says that the command
answers a next state, of which p holds. -/

open Sys2Proof Sys2Proof.Machine

/-! ### The queue, and every command -/

/-- Step runs the command at the front of the queue: exec of it on the state with the queue's rest. -/
def Obligations.StepRunsFrontCommand : Prop :=
  ∀ (c : Instr) (rest : List Instr) (s : State), s.pending = c :: rest → step s = exec c { s with pending := rest }

/-- The model's own choice (assumption log 2), no rule of the spec: on an empty queue a step is one millisecond in which
every timer that runs counts down, and while an expiry waits to be taken, time stands still. -/
def Obligations.EmptyQueueStepIsAMillisecond : Prop :=
  ∀ s : State, s.pending = [] →
    (s.expiryWaits = true → step s = .next s) ∧
    (s.expiryWaits = false →
      ∃ t, step s = .next t ∧ t.now = s.now + 1 ∧ t.pcu.timers = s.pcu.timers.map tick ∧
        t.wsq.timers = s.wsq.timers.map tick ∧ t.sht.timers = s.sht.timers.map tick ∧
        t.tru.timers = s.tru.timers.map tick ∧ t.stl.timers = s.stl.timers.map tick ∧
        t.lkc.beaconTimer = tick s.lkc.beaconTimer ∧ t.wrs.writeTimer = tick s.wrs.writeTimer ∧
        t.wsq.station = s.wsq.station ∧ t.wsq.phase = s.wsq.phase ∧ t.orq = s.orq ∧ t.settings = s.settings ∧
        t.lkc.queue = s.lkc.queue ∧ t.sht.clock = s.sht.clock ∧ t.wrs.slots = s.wrs.slots ∧
        t.pcu.mode = s.pcu.mode ∧ t.pcu.clamp = s.pcu.clamp ∧ t.cdr.energy = s.cdr.energy ∧
        t.cdr.tally = s.cdr.tally ∧ (s.cdr.drive = .running → t.cdr = { s.cdr with runMs := s.cdr.runMs + 1 }) ∧
        (s.cdr.drive ≠ .running → t.cdr = s.cdr))

/-- R16, R83, R85: while a pause is in force every phase timer, the streak timer and the flash-lost timer keep their remaining
time, and no expiry of one of them is taken; otherwise they run on from it; the pause timer runs throughout. (That time
passes in a step on an empty queue is the model's choice, assumption log 2.) -/
def Obligations.PhaseTimersHeldInPause : Prop :=
  ∀ s : State,
    (s.pending = [] → s.expiryWaits = false →
      ∃ t, step s = .next t ∧ t.stl.pauseTimer = tick s.stl.pauseTimer ∧
        (s.paused = true → t.wsq.phaseTimers = s.wsq.phaseTimers ∧ t.flash.timers = s.flash.timers) ∧
        (s.paused = false →
          t.wsq.phaseTimers = s.wsq.phaseTimers.map tick ∧ t.flash.timers = s.flash.timers.map tick)) ∧
    (s.paused = true →
      ∀ c ∈ [Instr.contactIntervalExpiry, .openIntervalExpiry, .flashTimeExpiry, .upsetTimeExpiry, .holdTimeExpiry,
        .coolingTimeExpiry, .streakTimerExpiry, .flashLostExpiry], exec c s = .next s)

/-- No command ever ends in a fault or a refusal: an event that cannot happen in a state has no effect there (the model's
choice, assumption log 1). While the station is held in its reset state (R177), no command but the resets and the level of
the emergency-stop input changes anything (the model's choice, assumption log 7). -/
def Obligations.EveryCommandAnswersNext : Prop :=
  ∀ (c : Instr) (s : State), (∃ t, exec c s = .next t) ∧
    (s.inReset = true → isReset c = false → (∀ r, c ≠ .eStopAsserted r) → c ≠ .eStopDeasserted → exec c s = .next s)

/-! ### Invariants -/

/-- The state right after reset meets every invariant below. -/
def Obligations.ResetStateIsSound : Prop :=
  State.reset.driveSound ∧ State.reset.shareSound ∧ State.reset.linkSound ∧ State.reset.ordersSound ∧
    State.reset.fluxSound ∧ State.reset.storeSound ∧ State.reset.countersSound

/-- R53: every step keeps Table 3-3, so the drive runs pulses only while the own claim is DRAWING, STL is in RUN with no
pause, and the clamps are CLOSED. -/
def Obligations.StepKeepsDriveSound : Prop :=
  ∀ s t : State, s.driveSound → step s = .next t → t.driveSound

/-- R128, R129: every step keeps the order and the limits of the claim list, and the claim clock within its range. -/
def Obligations.StepKeepsShareSound : Prop :=
  ∀ s t : State, s.shareSound → step s = .next t → t.shareSound

/-- R153, R154, R156: every step keeps the transmit queue at six entries with the share part in front. -/
def Obligations.StepKeepsLinkSound : Prop :=
  ∀ s t : State, s.linkSound → step s = .next t → t.linkSound

/-- R2, R13, R160, R162: every step keeps the order queue at four orders of different tags, only the head one taken, and
four entries in the held list and the arrival list. -/
def Obligations.StepKeepsOrdersSound : Prop :=
  ∀ s t : State, s.ordersSound → step s = .next t → t.ordersSound

/-- R67, R169, R144, R158: every step keeps the flux correction, the number of slots and every counter within its bounds. -/
def Obligations.StepKeepsBounds : Prop :=
  ∀ s t : State, step s = .next t →
    (s.fluxSound → t.fluxSound) ∧ (s.storeSound → t.storeSound) ∧ (s.countersSound → t.countersSound)

/-- R128: no command but POWER_ON makes the claim clock smaller, and POWER_ON sets it to 0; a clock within its range stays
within it. -/
def Obligations.ClaimClockNeverDecreases : Prop :=
  ∀ (c : Instr) (s t : State), exec c s = .next t →
    (c ≠ .powerOn → s.sht.clock ≤ t.sht.clock) ∧ (c = .powerOn → t.sht.clock = 0) ∧
      (s.sht.clock ≤ top32 → t.sht.clock ≤ top32)

/-- R169, R170, R172, R173, R176: no command, resets included, loses a held record (it stays in its slot, VALID_HELD or
released to VALID), and none lowers the weld counter. -/
def Obligations.HeldRecordsStay : Prop :=
  ∀ (c : Instr) (s t : State), s.storeSound → exec c s = .next t →
    s.wrs.counter ≤ t.wrs.counter ∧
      ∀ (i : Nat) (r : WeldRecord), s.wrs.slots[i]? = some (.held r) →
        t.wrs.slots[i]? = some (.held r) ∨ t.wrs.slots[i]? = some (.valid r)

/-- R178, R6, R146: settings and station number change only at start-up, the settings by the end of their read in LOADING alone,
and the ISOLATED flag is cleared by resets only. -/
def Obligations.SettingsStayUntilReset : Prop :=
  ∀ (c : Instr) (s t : State), isReset c = false → exec c s = .next t →
    t.node = s.node ∧ (s.wsq.isolated = true → t.wsq.isolated = true) ∧
      (s.wsq.station ≠ .loading ∨ (∀ image, c ≠ .settingsReadComplete image) → t.settings = s.settings)

/-- R147, R148, R149, R150, R161, Tables 8-3, 8-4 and 9-2: every share frame and every order, sent with operands it can carry to
the station's own number or to all, is received as the command it is, with every operand. (Which command a frame is, and that a
frame is one command: the model's choice, assumption log 5.) -/
def Obligations.CommandFramesAreReceived : Prop :=
  ∀ (node dest : Nat) (c : Instr) (frame : List Byte), node ≤ 7 → (dest = node ∨ dest = 15) → c.wf = true →
    commandFrame dest c = some frame → frameCommand node frame = c

/-! ### Resets and start-up -/

/-- R177: power-on puts every block in its reset state, with claim clock and counters 0; hard reset does the same but keeps
the claim clock, the share and link counters and the orders lost count; both keep the slots, the newest index, the weld
counter and the marker, and drop what the store had open. The blocks' reset values where the manual gives none are the
model's (assumption log 6). -/
def Obligations.ResetsPutBlocksInResetState : Prop :=
  ∀ s : State,
    (∀ c ∈ [Instr.powerOn, .hardReset],
      completes c s fun t =>
        t.inReset = true ∧ t.node = 0 ∧ t.settings = .blank ∧ t.wsq = .initial ∧ t.flash = .initial ∧ t.cdr = .initial ∧
          t.pcu = .initial ∧ t.tru = .initial ∧ t.stl = .initial s.stl.input ∧ t.pending = s.pending ∧
          t.orq.queue = [] ∧ t.orq.heldList = [] ∧ t.orq.arrivals = [] ∧ t.orq.restartPending = false ∧
          t.sht.peers = List.replicate 8 .unknown ∧ t.sht.claims = [] ∧ t.sht.lastOwnClaim = none ∧
          t.lkc.queue = [] ∧ t.lkc.slot = none ∧ t.lkc.waiters = [] ∧ t.lkc.rest = false ∧ t.lkc.sending = false ∧
          t.wrs = { s.wrs with working := none, writing := none, writeTimer := none, reads := [], nextRead := 0 }) ∧
    (completes .powerOn s fun t => t.sht = .initial ∧ t.lkc = .initial ∧ t.orq = .initial) ∧
    (completes .hardReset s fun t =>
      t.sht.clock = s.sht.clock ∧ t.sht.admissions = s.sht.admissions ∧ t.sht.claimTimeouts = s.sht.claimTimeouts ∧
        t.sht.peerLosses = s.sht.peerLosses ∧ t.sht.staleDrains = s.sht.staleDrains ∧
        t.sht.discordEvents = s.sht.discordEvents ∧ t.sht.oversubscriptions = s.sht.oversubscriptions ∧
        t.sht.ignoredYields = s.sht.ignoredYields ∧ t.lkc.crcErrors = s.lkc.crcErrors ∧
        t.lkc.lengthErrors = s.lkc.lengthErrors ∧ t.lkc.badKinds = s.lkc.badKinds ∧
        t.lkc.foreignOrders = s.lkc.foreignOrders ∧ t.lkc.collisions = s.lkc.collisions ∧
        t.lkc.jammedDrops = s.lkc.jammedDrops ∧ t.lkc.queueFullDrops = s.lkc.queueFullDrops ∧
        t.orq.ordersLost = s.orq.ordersLost)

/-- R177, R178: at the end of a reset LOADING begins with its 200 ms; the straps give the station number (read modulo 8: the
model's choice, assumption log 7), STL takes the level of its input (R108), TRU that of the return switch (R99), PCU its
first sample (brought by RESET_END: the model's inference, assumption log 8), judged by the lower bound of R42 alone. A
station put in reset by POWER_ON or HARD_RESET is LOADING after it. RESTART's reset, due when its answer has been reported
(R167), is a hard reset that ends at once. -/
def Obligations.ResetEndEntersLoading : Prop :=
  ∀ (s : State) (straps : Nat) (f : FieldSample) (back : Bool),
    (s.inReset = true →
      completes (.resetEnd straps f back) s fun t =>
        t = { s with
          inReset := false
          node := straps % 8
          stl := .initial s.stl.input
          tru.state := if back then .retracted else .fault
          tru.stopped := if back then false else s.tru.stopped
          wsq.loadTimer := some 200
          pcu := t.pcu } ∧
        t.stl.stop = (if s.stl.input then .active else .run) ∧ t.pcu.clamp = s.pcu.clamp ∧
        t.pcu.position = f.position ∧ t.pcu.force = f.force ∧ t.pcu.pressure = f.pressure ∧
        (s.wsq.station = .loading → t.wsq.station = .loading ∧ t.pcu.forceOk = decide (-50 ≤ f.force))) ∧
    (∀ c ∈ [Instr.powerOn, .hardReset],
      ∃ t u, exec c s = .next t ∧ exec (.resetEnd straps f back) t = .next u ∧ u.inReset = false ∧
        u.wsq = { Wsq.initial with loadTimer := some 200 } ∧ u.wsq.station = .loading ∧ u.node = straps % 8) ∧
    (s.inReset = false → s.orq.restartDue = true →
      completes (.restartReset straps f back) s fun t =>
        t.inReset = false ∧ t.node = straps % 8 ∧ t.settings = .blank ∧ t.wsq = { Wsq.initial with loadTimer := some 200 } ∧
          t.wsq.station = .loading ∧
          t.flash = .initial ∧ t.cdr = .initial ∧ t.stl = .initial s.stl.input ∧ t.sht.clock = s.sht.clock ∧
          t.sht.claims = [] ∧ t.sht.admissions = s.sht.admissions ∧ t.lkc.crcErrors = s.lkc.crcErrors ∧
          t.lkc.queue = [] ∧ t.orq = { Orq.initial with ordersLost := s.orq.ordersLost } ∧
          t.wrs.slots = s.wrs.slots ∧ t.wrs.counter = s.wrs.counter ∧ t.wrs.marker = s.wrs.marker ∧
          t.tru = { Tru.initial with state := if back then .retracted else .fault } ∧ t.pending = s.pending)

/-- R178 to R181, R32: an image that passes its checks is handed out and begins the listening window of loss_count beacon
periods and a settle window, with a beacon, the clamp state from the first pressure sample (kept since the reset until the
release level is known: the model's inference, assumption log 8), and the INTERRUPTED record written if
the marker is set; no image, a failing one, or the 200 ms limit make the station UNCONFIGURED (R179), with the
link at 125 kbit/s unless the shared section can be used (R146), and at the limit always (the model's choice, assumption
log 30). -/
def Obligations.ImageDecidesStart : Prop :=
  ∀ s : State, s.inReset = false → s.wsq.station = .loading →
    (∀ l, imageOk l = true →
      completes (.settingsReadComplete (some l)) s fun t =>
        t.wsq = { s.wsq with
          loadTimer := none
          station := .listening
          listenTimer := some ((sharedOf l).lossCount * (sharedOf l).beaconMs + (sharedOf l).settleMs) } ∧
        t.settings = settingsOf l ∧ t.sht.ownDigest = digestOf l ∧ t.lkc.bitRate = bitRateOf (sharedOf l).bitRateCode ∧
        t.lkc.slotBits = (sharedOf l).slotBits ∧ t.lkc.beaconTimer = some (sharedOf l).beaconMs ∧
        (s.lkc.queue = [] → s.lkc.slot = none →
          t.lkc.queue.map (fun f => (f.kind, f.dest)) = [(FrameKind.beacon, 15)]) ∧
        (∀ p, s.pcu.clamp = none → s.pcu.firstPressure = some p →
          t.pcu.clamp = some (if (localOf (words l 25 33)).clampRelKn ≤ p then .closed else .open)) ∧
        (∀ n phase, s.wrs.marker = some (n, phase) →
          t.wrs.writing = some (interruptedRecord s.node n phase) ∧ t.wrs.writeTimer = some 50) ∧
        (s.wrs.marker = none → t.wrs = { s.wrs with reads := t.wrs.reads }) ∧ t.wrs.slots = s.wrs.slots ∧
        t.orq = { s.orq with restartDue := t.orq.restartDue } ∧ t.stl = s.stl ∧
        t.cdr = s.cdr ∧ t.tru = s.tru ∧ t.node = s.node) ∧
    (∀ image, (∀ l, image = some l → imageOk l = false) →
      completes (.settingsReadComplete image) s fun t =>
        t.wsq = { s.wsq with loadTimer := none, station := .unconfigured } ∧ t.settings = s.settings ∧
          sameHead s t ∧ t.orq = s.orq ∧ t.wrs = s.wrs ∧ t.stl = s.stl ∧
          t.sht = { s.sht with ownDigest := t.sht.ownDigest } ∧
          t.lkc = { s.lkc with bitRate := t.lkc.bitRate, slotBits := t.lkc.slotBits } ∧
          ((∀ l, image = some l → sharedPartOk l = false) → t.lkc.bitRate = 125 ∧ t.lkc.slotBits = 16) ∧
          (∀ l, image = some l → sharedPartOk l = true →
            t.lkc.bitRate = bitRateOf (sharedOf l).bitRateCode ∧ t.lkc.slotBits = (sharedOf l).slotBits ∧
              t.sht.ownDigest = digestOf l)) ∧
    (due s.wsq.loadTimer = true →
      exec .loadingTimeLimit s = .next
        { s with
          wsq.loadTimer := none
          wsq.station := .unconfigured
          lkc.bitRate := 125
          lkc.slotBits := 16 })

/-- R182, R10, R37: at the end of the window a station with its clamps closed enters RECOVER, or STOPPED or FAULT_HOLD with
RECOVER to return to, with schedule 0's clamp force and the recovery cooling timer; one with its clamps open enters IDLE,
or STOPPED with IDLE to return to, and so does one whose clamp state is still unknown (the model's inference, assumption
log 8). (That a station which enters STOPPED here leaves the trimmer, its valve at return included, as it is: the model's
choice, assumption log 31.) -/
def Obligations.WindowEndChoosesState : Prop :=
  ∀ s : State, s.inReset = false → s.wsq.station = .listening → due s.wsq.listenTimer = true →
    completes .listeningWindowEnd s fun t =>
      t.wsq.listenTimer = none ∧ sameBase s t ∧ t.orq = { s.orq with restartDue := t.orq.restartDue } ∧
        (s.wsq.abort = none → t.orq = s.orq ∧ t.sht = s.sht ∧ t.lkc = s.lkc ∧ t.wrs = s.wrs) ∧
        (s.pcu.tripped = false ∨ s.pcu.clamp ≠ some .closed →
          t.sht = s.sht ∧ t.lkc = s.lkc ∧ t.wrs = s.wrs ∧ t.cdr = s.cdr ∧ t.tru = s.tru ∧ t.stl = s.stl ∧
            t.flash = s.flash) ∧
        (s.pcu.clamp = some .closed →
          t.pcu.clampForceInUse = some (s.schedule 0).clampForce ∧
            t.wsq.recoverTimer = some (s.loc.recoverS * 1000) ∧
            (s.stl.stop = .run → s.pcu.tripped = false → t.wsq.station = .recover ∧ t.wsq.topUpDue = false ∧
              t.pcu.topUp = decide (s.pcu.pressure < (s.schedule 0).clampForce)) ∧
            (s.stl.stop = .run → s.pcu.tripped = true →
              t.wsq.station = .faultHold ∧ t.wsq.returnState = some .recover ∧ t.wsq.topUpDue = true) ∧
            (s.stl.stop ≠ .run →
              t.wsq.station = .stopped ∧ t.wsq.returnState = some .recover ∧ t.wsq.topUpDue = true ∧
                (s.pcu.tripped = true → t.wsq.returnFault = true))) ∧
        (s.pcu.clamp ≠ some .closed →
          t.pcu = s.pcu ∧
            (s.stl.stop = .run → t.wsq.station = .idle ∧
              t.wsq.idleTimer = (if s.loc.idleMin = 0 then none else some (s.loc.idleMin * 60000))) ∧
            (s.stl.stop ≠ .run → t.wsq.station = .stopped ∧ t.wsq.returnState = some .idle))

/-- R7, R10, R11, R13, R99: the recovery cooling time ends in CLAMPED, also for a station held meanwhile; the idle timer's expiry
unpowers the field side and enters DORMANT, unless an order or an own claim is there; the wake ends in IDLE with TRU's
first switch sample, and the orders held are taken there one by one. Outside WAKING the end of the wake time is TRU's sample
alone (in another state than STOPPED: the model's choice, assumption log 33). (That a held order behind a REST wakes the
station again: the model's inference, assumption log 19. That a FAULT found in STOPPED is not marked stopped: the model's
choice, assumption log 35.) -/
def Obligations.StationTimersExpire : Prop :=
  ∀ s : State, s.inReset = false →
    (due s.wsq.recoverTimer = true →
      completes .recoveryCoolingExpiry s fun t =>
        t.wsq.recoverTimer = none ∧ t.wsq.station = (if s.wsq.station = .recover then .clamped else s.wsq.station) ∧
          sameBase s t ∧ t.flash = s.flash ∧ t.cdr = s.cdr ∧ t.tru = s.tru ∧ t.stl = s.stl ∧ t.sht = s.sht ∧
          t.lkc = s.lkc ∧ t.orq = s.orq ∧ t.wrs = s.wrs ∧ (s.wsq.topUpDue = false → t.pcu = s.pcu)) ∧
    (s.wsq.station = .idle → due s.wsq.idleTimer = true →
      completes .idleTimerExpiry s fun t =>
        sameBase s t ∧ t.orq = s.orq ∧ t.sht = s.sht ∧ t.lkc = s.lkc ∧ t.wrs = s.wrs ∧
          (s.orq.queue = [] ∧ s.ownClaim = none →
            t.wsq.station = .dormant ∧ t.wsq.idleTimer = none ∧ t.pcu.powered = false ∧
              t.pcu.clampValve = .unpowered ∧ t.pcu.mode = .hold ∧ t.tru.valve = .return ∧ t.cdr.drive = .blocked ∧
              t.cdr.mode = .off ∧ t.stl.pause = .normal ∧ t.pcu.clamp = s.pcu.clamp) ∧
          (¬(s.orq.queue = [] ∧ s.ownClaim = none) →
            t = { s with wsq.idleTimer := if s.loc.idleMin = 0 then none else some (s.loc.idleMin * 60000) })) ∧
    (∀ back, due s.wsq.wakeTimer = true →
      let sampled : State :=
        { s with
          wsq.wakeTimer := none
          tru.state := if back then .retracted else .fault
          tru.stopped := if back then false else s.tru.stopped }
      (s.wsq.station = .waking →
        exec (.wakeTimeEnd back) s = .next
          (s.orq.heldList.foldl (fun u d => deliverOrder d u)
            { sampled with
              wsq.station := .idle
              wsq.idleTimer := if s.loc.idleMin = 0 then none else some (s.loc.idleMin * 60000)
              orq.heldList := [] })) ∧
      (s.wsq.station ≠ .waking → exec (.wakeTimeEnd back) s = .next sampled))

/-! ### Orders -/

/-- R162: a queued order (ORDER_CLAMP, ORDER_WELD, ORDER_UNCLAMP) that passes the checks joins the end of the queue
and is answered ACCEPTED; nothing else changes. (That the idle timer is not restarted by an order that is only queued: the
model's inference, assumption log 20.) -/
def Obligations.QueuedOrderAccepted : Prop :=
  ∀ (src tag : Nat) (kind : QueuedKind) (s : State), takesOrdersNow s → s.wsq.station ≠ .listening →
    s.orq.queue.length < 4 → (∀ o ∈ s.orq.queue, o.tag ≠ tag) → (∀ n, kind.sched = some n → n ≤ 7) →
    (∀ n k neutral, kind = .weld n k neutral →
      (s.schedule n).demandKva ≤ s.shr.capacityKva ∧ -10 ≤ neutral ∧ neutral ≤ 50) →
    completes (queuedCommand src tag kind) s fun t =>
      t.orq = { s.orq with queue := s.orq.queue ++ [⟨src, tag, kind, .waiting⟩] } ∧
        outgoing t = outgoing s ++ [answerFrame src kind.code tag 0 .none [] .answer] ∧
        sameBase s t ∧ sameLink s t ∧ sameHead s t ∧ t.stl = s.stl ∧ t.sht = s.sht ∧ t.wrs = s.wrs ∧ t.wsq = s.wsq

/-- R162: the first check that fails refuses the queued order (ORDER_CLAMP, ORDER_WELD, ORDER_UNCLAMP) with its
reason, and nothing else changes. -/
def Obligations.QueuedOrderRefused : Prop :=
  ∀ (src tag : Nat) (kind : QueuedKind) (s : State) (reason : Reason), takesOrdersNow s →
    (if s.wsq.station = .listening then some .wrongState
      else if 4 ≤ s.orq.queue.length then some .queueFull
      else if ∃ o ∈ s.orq.queue, o.tag = tag then some .tagBusy
      else if ∃ n, kind.sched = some n ∧ 7 < n then some .badSchedule
      else
        match kind with
        | .weld n _ neutral =>
          if s.shr.capacityKva < (s.schedule n).demandKva then some .demandExceeds
          else if neutral < -10 ∨ 50 < neutral then some Reason.outOfRange else none
        | _ => none) = some reason →
    completes (queuedCommand src tag kind) s fun t =>
      outgoing t = outgoing s ++ [answerFrame src kind.code tag 1 reason [] .answer] ∧ onlyAnswered s t

/-- R161: every order but STATUS is refused UNCONFIGURED in that state; a malformed body is refused BAD_ORDER, with its first
byte as order code and its second, if it has one, as tag; every well-formed order but STATUS is refused WRONG_STATE once a
restart is pending. (Which of the three comes first where two apply, as BAD_ORDER ahead of a pending restart, is the model's
inference, assumption log 17.) -/
def Obligations.OrdersRefusedAtOnce : Prop :=
  ∀ (src : Nat) (b : OrderBody) (s : State), s.inReset = false → s.wsq.station ≠ .loading → s.wsq.station ≠ .dormant →
    s.wsq.station ≠ .waking → noOutgoing s = true → s.orq.heldList = [] → b.isStatus = false →
    ∀ reason,
      (if s.wsq.station = .unconfigured then some .unconfigured
        else if b.wellFormed = false then some .badOrder
        else if s.orq.restartPending = true then some Reason.wrongState else none) = some reason →
      completes (bodyCommand src b) s fun t =>
        onlyAnswered s t ∧
          ∃ tag, outgoing t = outgoing s ++ [answerFrame src b.codeTag.1 tag 1 reason [] .answer] ∧
            ∀ n, b.codeTag.2 = some n → tag = n

/-- R13, R159, R160, R161: an order that cannot be handled at once. In DORMANT an order other than STATUS powers the field side and
is held, in WAKING it is held, with room for four and QUEUE_FULL after; while an answer waits for room an order, STATUS too, is
placed in the arrival list, and lost and counted when four stand there. In DORMANT with four still held it starts the wake and is
refused QUEUE_FULL (the model's choice, assumption log 40; the order of assumption log 37 leads there). (That in DORMANT and WAKING it is held also while an
answer waits, and while a restart is pending, and that a malformed body with an order code other than STATUS is held too, while
any other is refused BAD_ORDER at once: the model's inference, assumption logs 17 and 19.) -/
def Obligations.OrdersHeldOrWaiting : Prop :=
  ∀ (src : Nat) (b : OrderBody) (s : State), s.inReset = false → s.wsq.station ≠ .loading →
    let coded := b.codeTag.1 ≠ 18 ∧ b ≠ .malformed []
    let asleep := s.wsq.station = .dormant ∨ s.wsq.station = .waking
    let answered (t : State) (reason : Reason) :=
      ∃ tag, outgoing t = outgoing s ++ [answerFrame src b.codeTag.1 tag 1 reason [] .answer] ∧
        ∀ n, b.codeTag.2 = some n → tag = n
    let refused (t : State) (reason : Reason) := onlyAnswered s t ∧ answered t reason
    (coded → s.wsq.station = .dormant → s.orq.heldList.length < 4 →
      completes (bodyCommand src b) s fun t =>
        t.wsq = { s.wsq with station := .waking, wakeTimer := some s.loc.wakeMs } ∧ t.pcu.powered = true ∧
          t.pcu.clampValve = .hold ∧ t.pcu.clamp = s.pcu.clamp ∧ t.stl.pause = .normal ∧
          t.orq = { s.orq with heldList := s.orq.heldList ++ [⟨src, b⟩] } ∧ outgoing t = outgoing s ∧ sameLink s t ∧
          sameBase s t ∧ t.sht = s.sht ∧ t.wrs = s.wrs ∧ t.cdr = s.cdr ∧ t.tru = s.tru) ∧
    (coded → s.wsq.station = .waking → s.orq.heldList.length < 4 →
      completes (bodyCommand src b) s fun t =>
        t.orq = { s.orq with heldList := s.orq.heldList ++ [⟨src, b⟩] } ∧ outgoing t = outgoing s ∧ sameLink s t ∧
          sameBase s t ∧ sameHead s t ∧ t.wsq = s.wsq ∧ t.stl = s.stl ∧ t.sht = s.sht ∧ t.wrs = s.wrs) ∧
    (coded → s.wsq.station = .waking → 4 ≤ s.orq.heldList.length → noOutgoing s = true →
      completes (bodyCommand src b) s fun t => refused t .queueFull) ∧
    (coded → s.wsq.station = .dormant → 4 ≤ s.orq.heldList.length → noOutgoing s = true →
      completes (bodyCommand src b) s fun t =>
        t.wsq = { s.wsq with station := .waking, wakeTimer := some s.loc.wakeMs } ∧ t.pcu.powered = true ∧
          t.pcu.clampValve = .hold ∧ t.pcu.clamp = s.pcu.clamp ∧ t.stl.pause = .normal ∧ t.orq = s.orq ∧
          answered t .queueFull ∧ sameLink s t ∧ sameBase s t ∧ t.sht = s.sht ∧ t.wrs = s.wrs ∧ t.cdr = s.cdr ∧
          t.tru = s.tru) ∧
    (¬coded → b.wellFormed = false → asleep → noOutgoing s = true →
      completes (bodyCommand src b) s fun t => refused t .badOrder) ∧
    (noOutgoing s = false → (coded → asleep → 4 ≤ s.orq.heldList.length) →
      (s.wsq.station = .idle → s.orq.heldList = []) →
      completes (bodyCommand src b) s fun t =>
        t.orq =
          (if s.orq.arrivals.length < 4 then { s.orq with arrivals := s.orq.arrivals ++ [⟨src, b⟩] }
            else { s.orq with ordersLost := if s.orq.ordersLost < 65535 then s.orq.ordersLost + 1 else s.orq.ordersLost }) ∧
          outgoing t = outgoing s ∧ sameLink s t ∧ sameBase s t ∧ sameHead s t ∧ t.wsq = s.wsq ∧ t.stl = s.stl ∧
          t.sht = s.sht ∧ t.wrs = s.wrs)

/-- R164: ABORT removes every waiting order its target names, answers with their number and the head result, and sends each
a CANCELLED notice, in this order; targets 16 to 254 are refused OUT_OF_RANGE. With no executing order named nothing else
changes. -/
def Obligations.AbortCancelsWaitingOrders : Prop :=
  ∀ (src tag target : Nat) (s : State), takesOrdersNow s → s.ordersSound →
    (16 ≤ target → target ≤ 254 →
      completes (.abort src tag target) s fun t =>
        outgoing t = outgoing s ++ [answerFrame src 16 tag 1 .outOfRange [] .answer] ∧ onlyAnswered s t) ∧
    (target < 16 ∨ target = 255 → (∀ o, executing s = some o → target ≠ 255 ∧ o.tag ≠ target) →
      completes (.abort src tag target) s fun t =>
        let gone := s.orq.queue.filter fun o => (target = 255 ∨ o.tag = target) ∧ o.status = .waiting
        t.orq = { s.orq with queue := s.orq.queue.filter fun o => ¬((target = 255 ∨ o.tag = target) ∧ o.status = .waiting) } ∧
          outgoing t =
            outgoing s ++ answerFrame src 16 tag 2 .none (be 1 gone.length ++ be 1 0) .answer ::
              gone.map (fun o => ⟨.notice, o.src, doneBody o.tag o.kind.code .cancelled .aborted none, .notice⟩) ∧
          sameBase s t ∧ sameLink s t ∧ sameHead s t ∧ t.stl = s.stl ∧ t.sht = s.sht ∧ t.wrs = s.wrs ∧
          t.wsq = { s.wsq with idleTimer := t.wsq.idleTimer })

/-- R5, R104, R117 to R121, R124, R164: an ABORT naming the executing order is passed to WSQ, then answered with the number of
waiting orders it removes and the head result, then the CANCELLED notices follow. A weld from PREHEAT to COOL starts its abort
path, with ABORT_ORDER filed and as cause and the phase as abort phase. In PREHEAT, FLASH and BOOST the platen holds; a
running drive is asked for a normal OFF, otherwise the drive is idle at once, the claim is withdrawn and the abort retract
begins. In UPSET the current ends and the forge runs on under a fresh time limit; HOLD and COOL run on; TRIM waits for a
stroke under way and enters COOL otherwise; the trim result is SKIPPED unless it was decided or a stroke started. In CHECK the
order ends at once; TOUCH and CLAIM_WAIT end NOT_STARTED after a retract to the CHECK position, the claim withdrawn. With a
path under way it is only filed, with an ending begun and in CLOSING nothing happens to the weld. An executing CLAMP is
reopened, an executing UNCLAMP reclosed, and the order ends FAILED with ABORTED. (That the DONE notice of an order which the
abort ends at once comes last: the model's inference, assumption log 15.) -/
def Obligations.AbortStopsTheExecutingOrder : Prop :=
  ∀ (src tag target : Nat) (s : State) (o : QueuedOrder), takesOrdersNow s → target < 16 ∨ target = 255 →
    executing s = some o → target = 255 ∨ o.tag = target →
    let gone := s.orq.queue.filter fun o => (target = 255 ∨ o.tag = target) ∧ o.status = .waiting
    let answer (head : Nat) := answerFrame src 16 tag 2 .none (be 1 gone.length ++ be 1 head) .answer
    let cancelled := gone.map fun o => TxFrame.mk .notice o.src (doneBody o.tag o.kind.code .cancelled .aborted none) .notice
    let failed := TxFrame.mk .notice o.src (doneBody o.tag o.kind.code .failed .aborted none) .doneNotice
    let answered (t : State) := ∃ sent, outgoing t = sent ++ answer 1 :: cancelled
    let quiet (t : State) := outgoing t = outgoing s ++ answer 1 :: cancelled ∧ t.sht = s.sht
    let withdrawn (t : State) := t.sht.claims = s.sht.claims.filter (·.station ≠ s.node)
    let stepped (t : State) (p : WeldPhase) (step : AbortStep) := t.wsq.abort = some ⟨.abortOrder, p, step⟩
    let retractTarget := clampInt 0 s.loc.strokeFwd (s.pcu.position - s.loc.abortRetract)
    let stroke := s.tru.state = .advancing ∨ s.tru.state = .atEnd ∨ s.tru.state = .returning
    let toCheckPosition (t : State) :=
      t.wsq.ending = some ⟨.aborted, true, true⟩ ∧
        t.pcu.mode = .position (clampInt 0 s.loc.strokeFwd s.wsq.checkPos) ∧ t.pcu.moveTimer = some s.loc.moveTimeoutMs
    let reversed (t : State) (st : ClampState) (v : ClampValve) :=
      t.pcu = { s.pcu with
        clamp := some st
        clampValve := v
        clampTimer := some s.loc.clampTimeoutMs
        stopped := false
        reversal := true
        topUp := false
        slip := .disarmed
        slipCount := 0 } ∧
      t.wsq = { s.wsq with clampFail := none, idleTimer := t.wsq.idleTimer } ∧
      outgoing t = outgoing s ++ answer 1 :: cancelled ++ [failed] ∧ (s.ordersSound → executing t = none) ∧
      sameBase s t ∧ t.cdr = s.cdr ∧ t.tru = s.tru ∧ t.flash = s.flash ∧ t.stl = s.stl ∧ t.sht = s.sht ∧ t.wrs = s.wrs
    (∀ p, o.kind.isWeld = true → s.wsq.phase = some p →
      (p ∈ [WeldPhase.preheat, .flash, .boost, .upset, .hold, .trim, .cool] → s.wsq.abort = none → s.wsq.ending = none →
        completes (.abort src tag target) s fun t =>
          t.wsq.abort.map (fun a => (a.cause, a.phase)) = some (.abortOrder, p) ∧
            (∀ w, s.wrs.working = some w → w.record.faults.length < 6 →
              t.wrs.working.map (·.record.faults) =
                some (w.record.faults ++ [⟨.abortOrder, .abort, p, s.now - w.openedAt⟩])) ∧
            answered t ∧ sameBase s t ∧ t.sht.peers = s.sht.peers ∧ t.flash.step = none ∧ t.flash.feed = none ∧
            t.tru = { s.tru with
              window := none
              startWaiting := false
              result := if s.tru.result = none ∧ s.tru.windowKept = none then some .skipped else s.tru.result }) ∧
      (p ∈ [WeldPhase.preheat, .flash, .boost] → s.wsq.abort = none → s.wsq.ending = none → s.motionHeld = false →
        s.stl.stop = .run → s.wsq.barred = false →
        completes (.abort src tag target) s fun t =>
          t.wsq.phase = some p ∧
            (s.cdr.drive = .running → s.cdr.mode ≠ .off →
              stepped t p .driveIdle ∧ t.cdr = { s.cdr with offPending := true } ∧ t.pcu.mode = .hold ∧ quiet t) ∧
            (s.cdr.drive ≠ .running →
              stepped t p (.retracting retractTarget) ∧ t.pcu.mode = .retract retractTarget ∧
                t.pcu.moveTimer = some s.loc.moveTimeoutMs ∧ withdrawn t ∧ (s.cdr.drive = .blocked → t.cdr = s.cdr) ∧
                (s.cdr.drive = .ready → s.cdr.mode ≠ .off → t.cdr.drive = .blocked ∧ t.cdr.mode = .off))) ∧
      (p = .upset → s.wsq.abort = none → s.wsq.ending = none → s.motionHeld = false → s.stl.stop = .run →
        completes (.abort src tag target) s fun t =>
          t.wsq.phase = some .upset ∧ stepped t p .runOn ∧ t.wsq.upsetMark = false ∧
            t.wsq.upsetTimer = some s.sched.upsetTimeMs ∧ t.pcu = s.pcu ∧
            (s.wsq.upsetMark = false → t.cdr = s.cdr ∧ quiet t) ∧
            (∀ own, s.wsq.upsetMark = true → s.ownClaim = some own →
              withdrawn t ∧ (s.cdr.drive ≠ .blocked → t.cdr.drive = .blocked ∧ t.cdr.mode = .off))) ∧
      (p ∈ [WeldPhase.hold, .cool] ∨ (p = .trim ∧ stroke) → s.wsq.abort = none → s.wsq.ending = none →
        completes (.abort src tag target) s fun t =>
          t.wsq.phase = some p ∧ stepped t p .runOn ∧ t.wsq.holdTimer = s.wsq.holdTimer ∧
            t.wsq.coolTimer = s.wsq.coolTimer ∧ t.pcu = s.pcu ∧ t.cdr = s.cdr ∧ quiet t) ∧
      (p = .trim → ¬stroke → s.wsq.abort = none → s.wsq.ending = none → s.motionHeld = false → s.sched.coolS ≠ 0 →
        completes (.abort src tag target) s fun t =>
          t.wsq.phase = some .cool ∧ stepped t p .runOn ∧ t.wsq.coolTimer = some (s.sched.coolS * 1000) ∧
            t.pcu.mode = s.pcu.mode ∧ t.cdr = s.cdr ∧ quiet t) ∧
      (p = .check → s.wsq.abort = none → s.wsq.ending = none → s.wsq.station = .welding →
        completes (.abort src tag target) s fun t =>
          t.wsq.phase = none ∧ t.wsq.station = .clamped ∧ t.wsq.weldNo = none ∧ t.pcu.shoe = none ∧ sameBase s t ∧
            outgoing t =
              outgoing s ++ answer 1 :: cancelled ++
                [⟨.notice, o.src, doneBody o.tag o.kind.code .notStarted .aborted none, .doneNotice⟩]) ∧
      (p = .touch → s.wsq.abort = none → s.wsq.ending = none → s.motionHeld = false → s.stl.stop = .run →
        completes (.abort src tag target) s fun t =>
          toCheckPosition t ∧ t.pcu.contactMove = .none ∧ t.pcu.contactSense = false ∧
            outgoing t = outgoing s ++ answer 1 :: cancelled ∧ sameBase s t ∧ t.cdr = s.cdr ∧ t.stl = s.stl ∧
            t.sht = s.sht ∧ t.wrs.slots = s.wrs.slots) ∧
      (p = .claimWait → s.wsq.abort = none → s.wsq.ending = none → s.motionHeld = false → s.stl.stop = .run →
        completes (.abort src tag target) s fun t =>
          toCheckPosition t ∧ withdrawn t ∧ answered t ∧
            sameBase s t ∧ t.sht.peers = s.sht.peers ∧ t.wrs.slots = s.wrs.slots) ∧
      (p ≠ .closing → s.wsq.abort.isSome = true → (∀ e, s.wsq.ending = some e → e.begun = false) →
        completes (.abort src tag target) s fun t =>
          t.wsq = { s.wsq with idleTimer := t.wsq.idleTimer } ∧ outgoing t = outgoing s ++ answer 2 :: cancelled ∧
            (s.wrs.working = none → t.wrs = s.wrs) ∧
            (∀ w, s.wrs.working = some w → w.record.faults.length < 6 →
              t.wrs = { s.wrs with
                working := some { w with
                  record := { w.record with
                    faults := w.record.faults ++ [⟨.abortOrder, .abort, p, s.now - w.openedAt⟩] } } }) ∧
            sameBase s t ∧ sameHead s t ∧ t.sht = s.sht ∧ t.stl = s.stl) ∧
      (p ≠ .closing → (∃ e, s.wsq.ending = some e ∧ e.begun = true) →
        completes (.abort src tag target) s fun t =>
          t.wsq = { s.wsq with idleTimer := t.wsq.idleTimer } ∧ outgoing t = outgoing s ++ answer 2 :: cancelled ∧
            sameBase s t ∧ sameHead s t ∧ t.sht = s.sht ∧ t.wrs = s.wrs ∧ t.stl = s.stl) ∧
      (p = .closing →
        completes (.abort src tag target) s fun t =>
          t.wsq = { s.wsq with idleTimer := t.wsq.idleTimer } ∧ outgoing t = outgoing s ++ answer 3 :: cancelled ∧
            sameBase s t ∧ sameHead s t ∧ t.sht = s.sht ∧ t.wrs = s.wrs ∧ t.stl = s.stl)) ∧
    (∀ n, o.kind = .clamp n → s.wsq.station = .clamping → s.pcu.clamp = some .closing → s.cdr.drive ≠ .running →
      completes (.abort src tag target) s fun t => reversed t .opening .open) ∧
    (o.kind = .unclamp → s.wsq.station = .unclamping → s.pcu.clamp = some .opening →
      completes (.abort src tag target) s fun t => reversed t .closing .close)

/-- R9, R13, R17, R103, R110, R111, R122, R123: CLEAR is accepted in HELD, and in RUN with the station in FAULT_HOLD, and refused
WRONG_STATE otherwise; from HELD a STOP notice goes out (ahead of the answer: the model's choice, assumption log 14). A
station without a weld returns by its clamps, or to RECOVER while its timer runs; a clamp movement stopped midway is
reversed, one left by a reversal timeout is settled by the pressure. A weld goes on in its kept phase with the step it was
held at: the retract to the CHECK position or the abort retract, the forge with a fresh limit, the end of HOLD or COOL whose
time ran out, the stroke; with motion barred no platen movement is made. Orders held from a wake are taken one by one once the
station is back in IDLE. (That COOL follows at CLEAR where TRIM was aborted in the hold with no stroke under way, and that an
ending which waited ends without motion when it is barred: the model's inference, assumption log 22. That a held order behind
a REST wakes the station again: assumption log 19.) -/
def Obligations.ClearEndsTheHold : Prop :=
  ∀ (src tag : Nat) (s : State), takesOrdersNow s →
    let answer := answerFrame src 17 tag 0 .none [] .answer
    let cleared (t : State) := t.stl.stop = .run ∧ t.tru.stopped = false ∧ answer ∈ outgoing t ∧ sameBase s t
    let run (t : State) := cleared t ∧ t.stl = { s.stl with stop := .run }
    let held := clearAccepted s = true ∧ (s.wsq.station = .stopped ∨ s.wsq.station = .faultHold)
    let noWeld := held ∧ s.wsq.phase = none
    (clearAccepted s = false →
      completes (.clear src tag) s fun t =>
        outgoing t = outgoing s ++ [answerFrame src 17 tag 1 .wrongState [] .answer] ∧ onlyAnswered s t) ∧
    (clearAccepted s = true ↔ s.stl.stop = .held ∨ (s.stl.stop = .run ∧ s.wsq.station = .faultHold)) ∧
    (noWeld → s.pcu.clamp = some .open ∨ s.pcu.clamp = some .closed →
      completes (.clear src tag) s fun t =>
        run t ∧ t.wsq.returnState = none ∧
          t.wsq.station =
            (if s.wsq.returnState = some .recover then
              if s.wsq.recoverTimer.isSome then .recover else .clamped
            else if s.pcu.clamp = some .closed then .clamped else .idle) ∧
          outgoing t =
            outgoing s ++
              (if s.stl.stop = .held then
                [⟨.notice, 15, stopBody .run t.wsq.station none s.aborting, .notice⟩] else []) ++ [answer] ∧
          sameLink s t ∧ t.orq = s.orq ∧ t.sht = s.sht ∧ t.wrs = s.wrs ∧ t.cdr = s.cdr ∧ t.flash = s.flash) ∧
    (∀ st, noWeld → s.wsq.returnState ≠ some .recover → s.pcu.clamp = some st → st = .closing ∨ st = .opening →
      completes (.clear src tag) s fun t =>
        run t ∧ t.cdr = s.cdr ∧ t.sht = s.sht ∧ t.wrs = s.wrs ∧ t.flash = s.flash ∧ t.orq = s.orq ∧
          (s.pcu.stopped = true →
            t.pcu = { s.pcu with
              clamp := some (if st = .closing then .opening else .closing)
              clampValve := if st = .closing then .open else .close
              clampTimer := some s.loc.clampTimeoutMs
              stopped := false
              reversal := true
              topUp := false
              slip := .disarmed
              slipCount := 0 } ∧
            t.wsq.station = (if st = .closing then .unclamping else .clamping)) ∧
          (s.pcu.stopped = false →
            (s.loc.clampRelKn ≤ s.pcu.pressure → t.pcu.clamp = some .closed ∧ t.wsq.station = .clamped) ∧
              (s.pcu.pressure < s.loc.clampRelKn →
                t.pcu.clamp = some .open ∧ t.pcu.clampForceInUse = none ∧ t.wsq.station = .idle))) ∧
    (∀ p e, held → s.wsq.phase = some p → p ≠ .closing → s.wsq.ending = some e →
      completes (.clear src tag) s fun t =>
        run t ∧ t.sht = s.sht ∧ t.cdr = s.cdr ∧
          (p = .check ∨ s.wsq.barred = true →
            t.wsq.phase = none ∧ t.wsq.ending = none ∧ t.wsq.station = .clamped ∧
              ∀ o, executing s = some o →
                TxFrame.mk .notice o.src (doneBody o.tag o.kind.code .notStarted e.reason none) .doneNotice ∈ outgoing t) ∧
          (p ≠ .check → s.wsq.barred = false →
            t.wsq.phase = some p ∧ t.wsq.station = .welding ∧ t.wsq.ending = some ⟨e.reason, true, true⟩ ∧
              t.pcu.mode = .position (clampInt 0 s.loc.strokeFwd s.wsq.checkPos) ∧
              t.pcu.moveTimer = some s.loc.moveTimeoutMs)) ∧
    (∀ p a, held → s.wsq.phase = some p → p ≠ .closing → s.wsq.ending = none → s.wsq.abort = some a →
      completes (.clear src tag) s fun t =>
        let closes := t.wsq.phase = some .closing ∧ t.pcu.mode = s.pcu.mode ∧
          (s.wrs.working.isSome = true → t.wrs.writing.isSome = true)
        cleared t ∧ t.wsq.station = .welding ∧
          (a.step ≠ .runOn ∨ p ≠ .upset ∨ s.wsq.barred = false → t.stl = { s.stl with stop := .run }) ∧
          (a.step = .retractWait → s.wsq.barred = false →
            t.wsq.phase = some p ∧
              t.pcu.mode = .retract (clampInt 0 s.loc.strokeFwd (s.pcu.position - s.loc.abortRetract)) ∧
              t.wsq.abort =
                some { a with step := .retracting (clampInt 0 s.loc.strokeFwd (s.pcu.position - s.loc.abortRetract)) }) ∧
          (∀ target, a.step = .retractStopped target → s.wsq.barred = false →
            t.wsq.phase = some p ∧ t.pcu.mode = .position (clampInt 0 s.loc.strokeFwd target) ∧
              t.wsq.abort = some { a with step := .retracting target }) ∧
          (a.step = .retractWait ∨ (∃ target, a.step = .retractStopped target) → s.wsq.barred = true → closes) ∧
          (a.step = .runOn → p = .upset → s.wsq.barred = false →
            t.wsq.phase = some .upset ∧ t.wsq.upsetTimer = some s.sched.upsetTimeMs ∧
              t.pcu.mode =
                .force (min (s.wsq.active.upsetForce + s.pcu.forceBasis) s.loc.platenMaxKn) s.sched.upsetSpeed ∧
              t.pcu.highForce = s.pcu.highForce) ∧
          (∀ start, a.step = .runOn → p = .upset → s.wsq.barred = true → s.wsq.upsetStart = some start →
            t.wsq.phase = some .hold ∧ t.wsq.upsetDistance = some (s.pcu.plausPosition - start) ∧
              t.wsq.upsetPeak = some s.pcu.highForce ∧ t.pcu.mode = s.pcu.mode) ∧
          (a.step = .runOn → p = .hold →
            (s.wsq.expired = false → t.wsq.phase = some .hold ∧ t.wsq.holdTimer = s.wsq.holdTimer) ∧
              (s.wsq.expired = true → s.sched.coolS ≠ 0 → t.wsq.phase = some .cool)) ∧
          (a.step = .runOn → p = .trim → s.sched.coolS ≠ 0 →
            t.wsq.phase =
              some (if s.tru.state = .advancing ∨ s.tru.state = .atEnd ∨ s.tru.state = .returning then .trim else .cool)) ∧
          (a.step = .runOn → p = .cool →
            (s.wsq.expired = false → t.wsq.phase = some .cool ∧ t.wsq.coolTimer = s.wsq.coolTimer) ∧
              (s.wsq.expired = true → closes))) ∧
    (held → s.wsq.phase = some .closing →
      completes (.clear src tag) s fun t =>
        run t ∧
          t.wsq = { s.wsq with
            station := .welding, returnState := none, returnFault := false, idleTimer := t.wsq.idleTimer } ∧
          t.pcu = s.pcu ∧ t.wrs = s.wrs ∧ t.cdr = s.cdr ∧ t.sht = s.sht) ∧
    (∀ l, noWeld → s.pcu.clamp = some .open → s.wsq.returnState ≠ some .recover →
      ∃ u, exec (.clear src tag) { s with orq.heldList := l } =
          .next (l.foldl (fun v d => deliverOrder d v) { u with orq.heldList := [] }) ∧
        run u ∧ u.wsq.station = .idle ∧ u.wsq.returnState = none ∧
          outgoing u =
            outgoing s ++
              (if s.stl.stop = .held then [⟨.notice, 15, stopBody .run .idle none s.aborting, .notice⟩] else []) ++
              [answer] ∧
          sameLink s u ∧ u.orq = { s.orq with heldList := l } ∧ u.sht = s.sht ∧ u.wrs = s.wrs ∧ u.cdr = s.cdr ∧
          u.flash = s.flash ∧ u.pcu = s.pcu)

/-- R165: STATUS answers with selector, part, number of parts and the items, in DORMANT and WAKING too, and changes nothing;
an unknown selector or part is refused OUT_OF_RANGE, and UNCONFIGURED answers STATION only. The items are those of R165 in
their order and sizes, as they stand when the answer is built (the coding of what is absent and of the reported flags: the
model's inference, assumption logs 21 and 29; two's complement for a negative platen position or lowest cooling force: the
model's choice, assumption log 34; the last samples before it shown in DORMANT, and none from a powering to its first sample: the
model's choice, assumption log 39). -/
def Obligations.StatusShowsTheState : Prop :=
  ∀ (src tag selector part : Nat) (s : State), s.inReset = false → s.wsq.station ≠ .loading → noOutgoing s = true →
    (s.wsq.station = .idle → s.orq.heldList = []) →
    let flag (b : Bool) (bit : Nat) : Nat := if b then bit else 0
    let inWeld (x : List Byte) (k : Nat) : List Byte := if s.wsq.weldNo.isSome then x else beAbsent k
    let self : List Byte :=
      be 1 3 ++ be 1 0 ++ be 1 s.wsq.station.code
        ++ be 1 (beaconFlags s.ownClaim.isSome s.drawing s.wsq.isolated s.wsq.abort.isSome) ++ be 2 s.sht.ownDigest
        ++ be 4 s.wrs.counter ++ beOpt 4 s.sht.lastOwnClaim
    let peer (p : Nat) : List Byte :=
      if p = s.node then self
      else
        let e := s.sht.peers.getD p .unknown
        be 1 (match e.presence with | .absent => 0 | .present => 1 | .discordant => 2) ++ be 1 e.missed
          ++ beOpt 1 (e.reported.map (·.1)) ++ beOpt 1 (e.reported.map (·.2)) ++ beOpt 2 e.digest
          ++ beOpt 4 e.weldCounter ++ beOpt 4 e.lastClaim
    let claim (k : Nat) : List Byte :=
      match s.sht.claims[k]? with
      | none => beAbsent 10
      | some c =>
        be 1 c.station ++ be 4 c.number ++ be 2 c.demand
          ++ be 1 (match c.state with | .queued => 0 | .drawing => 1 | .stale => 2) ++ beOpt 2 (c.drain.map (· / 1000))
    let kJ := energyKj s.cdr.carrierHz
    let items : List Byte :=
      if selector = 1 then
        if part = 1 then
          be 1 s.wsq.station.code ++ be 1 (phaseCode s.wsq.phase)
            ++ be 1 (flag s.wsq.isolated 1 + flag s.wsq.abort.isSome 2 + flag s.wsq.barred 4) ++ be 1 s.wsq.lastFault.code
            ++ be 1 (match s.stl.stop with | .run => 0 | .active => 1 | .held => 2)
            ++ be 1 (match s.stl.pause with | .normal => 0 | .sag => 1 | .paused => 2 | .resuming => 3)
            ++ be 2 s.stl.sagCount ++ be 2 s.stl.pauseCount ++ be 2 s.orq.ordersLost
            ++ beOpt 1 ((executing s).map (·.tag)) ++ be 1 s.orq.queue.length ++ beOpt 4 s.wsq.weldNo
        else if part = 2 then
          be 1 (match s.cdr.drive with | .blocked => 0 | .ready => 1 | .running => 2)
            ++ be 1 (match s.cdr.mode with
              | .off => 0 | .preheatContact => 1 | .flash => 2 | .boost => 3 | .upsetCurrent => 4)
            ++ beOpt 2 s.cdr.applied ++ beInt 1 s.cdr.flux
            ++ beOpt 1 (s.pcu.clamp.map fun c => match c with | .open => 0 | .closing => 1 | .closed => 2 | .opening => 3)
            ++ beOpt 2 s.pcu.clampForceInUse
            ++ be 1 (match s.pcu.mode with | .hold => 0 | .speed _ => 1 | .position _ => 2 | .force _ _ => 3 | .retract _ => 4)
            ++ (if s.pcu.posSeen then beInt 2 s.pcu.position else beAbsent 2)
            ++ (if s.pcu.posSeen then beInt 2 s.pcu.force else beAbsent 2)
            ++ be 1 (match s.tru.state with
              | .retracted => 0 | .advancing => 1 | .atEnd => 2 | .returning => 3 | .fault => 4)
            ++ be 1 (flag s.tru.stopped 1) ++ beOpt 1 (s.tru.window.map (· / 1000))
            ++ beOpt 1 (s.tru.result.map fun r => match r with | .done => 1 | .late => 2 | .failed => 3 | .skipped => 4)
            ++ beOptInt 2 s.pcu.lowestForce
        else if part = 3 then
          inWeld (be 1 s.flash.cyclesDone) 1
            ++ inWeld (beOpt 1 (s.flash.feed.map fun f =>
              match f with | .approach => 0 | .feeding => 1 | .stepping => 2 | .held => 3)) 1
            ++ inWeld (beOptInt 2 s.flash.burnOff) 2 ++ inWeld (beOptInt 2 s.flash.boostDone) 2
            ++ inWeld (be 2 s.flash.shortCount) 2 ++ inWeld (be 1 s.flash.streak) 1
            ++ s.pcu.resistances.flatMap (beOpt 2) ++ be 1 (presenceMask s.pcu.failedShoes)
        else
          be 4 (kJ s.cdr.energy.preheat) ++ be 4 (kJ s.cdr.energy.flash) ++ be 4 (kJ s.cdr.energy.boost)
            ++ be 4 (kJ s.cdr.energy.upset) ++ be 4 s.cdr.tally.preheat ++ be 4 s.cdr.tally.flash
            ++ be 4 s.cdr.tally.boost ++ be 4 s.cdr.tally.upset
      else if selector = 2 then
        if part = 1 then peer 0 ++ peer 1 ++ peer 2 ++ peer 3
        else if part = 2 then peer 4 ++ peer 5 ++ peer 6 ++ peer 7
        else if part = 3 then be 1 s.sht.claims.length ++ claim 0 ++ claim 1 ++ claim 2 ++ claim 3
        else if part = 4 then be 1 s.sht.claims.length ++ claim 4 ++ claim 5 ++ claim 6 ++ claim 7
        else
          be 4 s.sht.clock ++ be 1 (if 4294967295 ≤ s.sht.clock then 1 else 0) ++ be 2 s.sht.ownDigest
            ++ be 2 s.sht.admissions ++ be 2 s.sht.claimTimeouts ++ be 2 s.sht.peerLosses ++ be 2 s.sht.staleDrains
            ++ be 2 s.sht.discordEvents ++ be 2 s.sht.oversubscriptions ++ be 2 s.sht.ignoredYields
      else if selector = 3 then
        be 2 s.lkc.crcErrors ++ be 2 s.lkc.lengthErrors ++ be 2 s.lkc.badKinds ++ be 2 s.lkc.foreignOrders
          ++ be 2 s.lkc.collisions ++ be 2 s.lkc.jammedDrops ++ be 2 s.lkc.queueFullDrops
      else
        beOpt 4 (newestWeld s.wrs) ++ be 1 (s.wrs.slots.countP Slot.isHeld) ++ be 1 (s.wrs.slots.countP Slot.isEmpty)
          ++ be 4 s.wrs.counter
    let parts := if selector = 1 then 4 else if selector = 2 then 5 else 1
    completes (.status src tag selector part) s fun t =>
      onlyAnswered s t ∧
        outgoing t =
          outgoing s ++
            [if s.wsq.station = .unconfigured ∧ selector ≠ 1 then answerFrame src 18 tag 1 .unconfigured [] .answer
              else if 1 ≤ selector ∧ selector ≤ 4 ∧ 1 ≤ part ∧ part ≤ parts then
                answerFrame src 18 tag 2 .none (be 1 selector ++ be 1 part ++ be 1 parts ++ items) .answer
              else answerFrame src 18 tag 1 .outOfRange [] .answer]

/-- R20: ADJUST within the wide bounds, and during a weld within its schedule's, replaces the three pending offsets, sets
switch-pending and leaves the scale; otherwise it is refused OUT_OF_RANGE. -/
def Obligations.AdjustReplacesPendingOffsets : Prop :=
  ∀ (src tag : Nat) (trip speed force : Int) (s : State), takesOrdersNow s →
    let fits := trip.natAbs ≤ 10 ∧ speed.natAbs ≤ 20 ∧ force.natAbs ≤ 10 ∧
      (s.wsq.phase ≠ none →
        trip.natAbs ≤ s.sched.adjTripPct ∧ speed.natAbs ≤ s.sched.adjSpeedPct ∧ force.natAbs ≤ s.sched.adjForcePct)
    (fits →
      completes (.adjust src tag trip speed force) s fun t =>
        t.wsq = { s.wsq with
          pendingSet := ⟨s.wsq.pendingSet.scale, trip, speed, force⟩
          switchPending := true
          idleTimer := t.wsq.idleTimer } ∧
        outgoing t = outgoing s ++ [answerFrame src 19 tag 0 .none [] .answer] ∧
        sameBase s t ∧ sameLink s t ∧ sameHead s t ∧ t.stl = s.stl ∧ t.sht = s.sht ∧ t.orq = s.orq ∧ t.wrs = s.wrs) ∧
    (¬fits →
      completes (.adjust src tag trip speed force) s fun t =>
        outgoing t = outgoing s ++ [answerFrame src 19 tag 1 .outOfRange [] .answer] ∧ onlyAnswered s t)

/-- R175: READ_RECORD of a stored record, or of the newest one for number 0, is ACCEPTED and its snapshot joins the read
list; NOT_FOUND otherwise. -/
def Obligations.ReadRecordTakesASnapshot : Prop :=
  ∀ (src tag n : Nat) (s : State), takesOrdersNow s →
    (∀ r held, lookup s.wrs n = some (r, held) →
      completes (.readRecord src tag n) s fun t =>
        outgoing t = outgoing s ++ [answerFrame src 20 tag 0 .none [] .readAnswer] ∧
          t.wrs = { s.wrs with reads := t.wrs.reads, nextRead := s.wrs.nextRead + 1 } ∧
          t.wrs.reads.map (·.id) = s.wrs.reads.map (·.id) ++ [s.wrs.nextRead] ∧
          t.wrs.reads.map (fun x => (x.record, x.held, x.tag, x.dest)) =
            s.wrs.reads.map (fun x => (x.record, x.held, x.tag, x.dest)) ++ [(r, held, tag, src)] ∧
          sameBase s t ∧ sameLink s t ∧ sameHead s t ∧ t.stl = s.stl ∧ t.sht = s.sht ∧ t.orq = s.orq ∧
          t.wsq = { s.wsq with idleTimer := t.wsq.idleTimer }) ∧
    (lookup s.wrs n = none →
      completes (.readRecord src tag n) s fun t =>
        outgoing t = outgoing s ++ [answerFrame src 20 tag 1 .notFound [] .answer] ∧ onlyAnswered s t)

/-- R176: RELEASE_HOLD of the one slot that holds the number: a held record becomes VALID as written, and the held count
falls by 1; a VALID one is refused NOT_HELD; with no such slot, and for number 0, NOT_FOUND. -/
def Obligations.ReleaseHoldFreesTheSlot : Prop :=
  ∀ (src tag n : Nat) (s : State), takesOrdersNow s →
    (∀ (i : Nat) (r : WeldRecord), n ≠ 0 → s.wrs.slots[i]? = some (Slot.held r) → r.weldNo = n →
      (∀ (j : Nat) x held, (s.wrs.slots[j]?).bind Slot.readable = some (x, held) → x.weldNo = n → j = i) →
      completes (.releaseHold src tag n) s fun t =>
        t.wrs = { s.wrs with slots := s.wrs.slots.set i (.valid r) } ∧ heldCount t.wrs + 1 = heldCount s.wrs ∧
          outgoing t = outgoing s ++ [answerFrame src 21 tag 0 .none [] .answer] ∧
          sameBase s t ∧ sameLink s t ∧ sameHead s t ∧ t.stl = s.stl ∧ t.sht = s.sht ∧ t.orq = s.orq ∧
          t.wsq = { s.wsq with idleTimer := t.wsq.idleTimer }) ∧
    (∀ (i : Nat) (r : WeldRecord), n ≠ 0 → s.wrs.slots[i]? = some (Slot.valid r) → r.weldNo = n →
      (∀ (j : Nat) x held, (s.wrs.slots[j]?).bind Slot.readable = some (x, held) → x.weldNo = n → j = i) →
      completes (.releaseHold src tag n) s fun t =>
        outgoing t = outgoing s ++ [answerFrame src 21 tag 1 .notHeld [] .answer] ∧ onlyAnswered s t) ∧
    (n = 0 ∨ (∀ x ∈ s.wrs.slots, ∀ r held, x.readable = some (r, held) → r.weldNo ≠ n) →
      completes (.releaseHold src tag n) s fun t =>
        outgoing t = outgoing s ++ [answerFrame src 21 tag 1 .notFound [] .answer] ∧ onlyAnswered s t)

/-- R11, R12, R166, R167: REST in IDLE with an empty queue is answered and unpowers the field side; RESTART in IDLE or CLAMPED
with an empty queue is answered and makes a restart pending; both are refused WRONG_STATE otherwise. -/
def Obligations.RestAndRestart : Prop :=
  ∀ (src tag : Nat) (s : State), takesOrdersNow s →
    (s.wsq.station = .idle ∧ s.orq.queue = [] →
      completes (.rest src tag) s fun t =>
        outgoing t = outgoing s ++ [answerFrame src 22 tag 0 .none [] .answer] ∧ t.wsq.station = .dormant ∧
          t.wsq.idleTimer = none ∧ t.pcu.powered = false ∧ t.pcu.clampValve = .unpowered ∧ t.pcu.mode = .hold ∧
          t.pcu.clamp = s.pcu.clamp ∧ t.cdr.drive = .blocked ∧ t.cdr.mode = .off ∧
          t.tru = { s.tru with valve := .return } ∧ t.stl.pause = .normal ∧ t.stl.stop = s.stl.stop ∧
          sameBase s t ∧ sameLink s t ∧ t.sht = s.sht ∧ t.orq = s.orq ∧ t.wrs = s.wrs ∧ t.flash = s.flash) ∧
    (¬(s.wsq.station = .idle ∧ s.orq.queue = []) →
      completes (.rest src tag) s fun t =>
        outgoing t = outgoing s ++ [answerFrame src 22 tag 1 .wrongState [] .answer] ∧ onlyAnswered s t) ∧
    ((s.wsq.station = .idle ∨ s.wsq.station = .clamped) ∧ s.orq.queue = [] →
      completes (.restart src tag) s fun t =>
        outgoing t = outgoing s ++ [answerFrame src 23 tag 0 .none [] .restartAnswer] ∧
          t.orq = { s.orq with restartPending := true } ∧ sameBase s t ∧ sameLink s t ∧ sameHead s t ∧ t.stl = s.stl ∧
          t.sht = s.sht ∧ t.wrs = s.wrs ∧ t.wsq = { s.wsq with idleTimer := t.wsq.idleTimer }) ∧
    (¬((s.wsq.station = .idle ∨ s.wsq.station = .clamped) ∧ s.orq.queue = []) →
      completes (.restart src tag) s fun t =>
        outgoing t = outgoing s ++ [answerFrame src 23 tag 1 .wrongState [] .answer] ∧ onlyAnswered s t)

/-- R2, R3, R4, R22: the order at the head is taken in IDLE, CLAMPED or RECOVER. A CLAMP in IDLE closes the clamps to its
schedule's force, an UNCLAMP in CLAMPED opens them; in another of these states the order ends FAILED with WRONG_STATE. A
WELD outside CLAMPED ends NOT_STARTED with NOT_CLAMPED (R25), and both sets are neutral again. -/
def Obligations.HeadOrderTaken : Prop :=
  ∀ (temp : Option Int) (s : State) (o : QueuedOrder) (rest : List QueuedOrder), s.inReset = false →
    s.orq.queue = o :: rest → o.status = .waiting →
    (∀ n, o.kind = .clamp n → s.wsq.station = .idle → s.pcu.clamp = some .open →
      completes (.takeHeadOrder temp) s fun t =>
        t.wsq = { s.wsq with station := .clamping, clampFail := none, idleTimer := none } ∧
          t.pcu = { s.pcu with
            clampForceInUse := some (s.schedule n).clampForce
            clamp := some .closing
            clampValve := .close
            clampTimer := some s.loc.clampTimeoutMs
            stopped := false
            reversal := false
            topUp := false
            slip := .disarmed
            slipCount := 0 } ∧
          t.orq.queue = { o with status := .executing } :: rest ∧ sameBase s t ∧ t.lkc = s.lkc ∧ t.sht = s.sht ∧
          t.wrs = s.wrs ∧ t.cdr = s.cdr ∧ t.tru = s.tru ∧ t.stl = s.stl) ∧
    (o.kind = .unclamp → s.wsq.station = .clamped → s.pcu.clamp = some .closed → s.cdr.drive ≠ .running →
      completes (.takeHeadOrder temp) s fun t =>
        t.wsq = { s.wsq with station := .unclamping, clampFail := none, idleTimer := none } ∧
          t.pcu = { s.pcu with
            clamp := some .opening
            clampValve := .open
            clampTimer := some s.loc.clampTimeoutMs
            stopped := false
            reversal := false
            topUp := false
            slip := .disarmed
            slipCount := 0 } ∧
          t.orq.queue = { o with status := .executing } :: rest ∧ sameBase s t ∧ t.lkc = s.lkc ∧ t.sht = s.sht ∧
          t.wrs = s.wrs ∧ t.cdr = s.cdr ∧ t.tru = s.tru ∧ t.stl = s.stl) ∧
    (((∃ n, o.kind = .clamp n) ∧ (s.wsq.station = .clamped ∨ s.wsq.station = .recover)) ∨
        (o.kind = .unclamp ∧ (s.wsq.station = .idle ∨ s.wsq.station = .recover)) →
      completes (.takeHeadOrder temp) s fun t =>
        outgoing t =
          outgoing s ++ [⟨.notice, o.src, doneBody o.tag o.kind.code .failed .wrongState none, .doneNotice⟩] ∧
        t.wsq = { s.wsq with idleTimer := t.wsq.idleTimer } ∧ t.pcu = s.pcu ∧
        (t.orq.queue = rest ∨ t.orq.queue = { o with status := .ended } :: rest) ∧ sameBase s t ∧ t.sht = s.sht ∧
        t.wrs = s.wrs ∧ t.cdr = s.cdr ∧ t.tru = s.tru ∧ t.stl = s.stl) ∧
    (∀ n k neutral, o.kind = .weld n k neutral → s.wsq.station = .idle ∨ s.wsq.station = .recover →
      completes (.takeHeadOrder temp) s fun t =>
        outgoing t =
          outgoing s ++ [⟨.notice, o.src, doneBody o.tag 2 .notStarted .notClamped none, .doneNotice⟩] ∧
        t.wsq.station = s.wsq.station ∧ t.wsq.phase = s.wsq.phase ∧ t.wsq.pendingSet = ⟨100, 0, 0, 0⟩ ∧
        t.wsq.inForce = ⟨100, 0, 0, 0⟩ ∧ t.wsq.switchPending = false ∧ t.pcu = s.pcu ∧ t.cdr = s.cdr ∧ t.stl = s.stl ∧
        (t.orq.queue = rest ∨ t.orq.queue = { o with status := .ended } :: rest) ∧ sameBase s t ∧ t.sht = s.sht ∧
        t.wrs = s.wrs)

/-- R20, R22, R25, R43, R47, R172: a WELD taken in CLAMPED has its pending offsets clipped to its schedule's bounds, and passes
the tests of CHECK in order: the first that fails ends it NOT_STARTED with its reason, and both sets are neutral again; LOG_FULL
is given with no slot EMPTY or VALID, and with the weld counter at its top; with none failing the pull target of a CLOSURE
weld is formed and, with the drive not RUNNING and the clamps CLOSED, the first shoe is measured. -/
def Obligations.CheckTestsInOrder : Prop :=
  ∀ (temp : Option Int) (s : State) (o : QueuedOrder) (rest : List QueuedOrder) (n : Nat) (k : WeldKind) (neutral : Int),
    s.inReset = false → s.orq.queue = o :: rest → o.status = .waiting → o.kind = .weld n k neutral →
    s.wsq.station = .clamped →
    let valid := temp.filter fun x => -40 ≤ x ∧ x ≤ 90
    let clip (bound : Nat) (x : Int) : Int := max (-bound) (min x bound)
    let free (i : Nat) : Bool :=
      match s.wrs.slots[i]? with
      | some .empty => true
      | some (.valid _) => true
      | _ => false
    let failure : Option Reason :=
      if s.wsq.isolated = true then some .isolated
      else if ∃ p ∈ s.sht.peers, p.presence = .discordant then some .discord
      else if 4294967295 ≤ s.sht.clock then some .clockSpent
      else if (∀ i ∈ List.range 48, free i = false) ∨ 4294967295 ≤ s.wrs.counter then some .logFull
      else if k = .closure ∧ valid = none then some .sensor
      else none
    (failure = none → s.cdr.drive ≠ .running → s.pcu.clamp = some .closed →
      completes (.takeHeadOrder temp) s fun t =>
        t.wsq.station = .welding ∧ t.wsq.phase = some .check ∧ t.wsq.sched = n ∧ t.wsq.kind = k ∧
          t.wsq.pendingSet =
            ⟨s.wsq.pendingSet.scale, clip (s.schedule n).adjTripPct s.wsq.pendingSet.trip,
              clip (s.schedule n).adjSpeedPct s.wsq.pendingSet.speed,
              clip (s.schedule n).adjForcePct s.wsq.pendingSet.force⟩ ∧
          t.wsq.switchPending = s.wsq.switchPending ∧ t.wsq.inForce = s.wsq.inForce ∧
          t.wsq.checkPos = s.pcu.position ∧ t.wsq.railTemp = valid ∧ t.wsq.weldNo = none ∧ t.flash = .initial ∧
          t.pcu = { s.pcu with
            pullTarget := t.pcu.pullTarget
            shoe := some 0
            shoeTimer := some 50
            resistances := [none, none, none, none]
            failedShoes := [false, false, false, false] } ∧
          (k = .join → t.pcu.pullTarget = none) ∧
          (∀ x, k = .closure → valid = some x →
            t.pcu.pullTarget = some ((s.loc.pullCoef * (neutral - x).toNat * 2 + 10) / 20)) ∧
          t.orq.queue = { o with status := .executing } :: rest ∧ sameBase s t ∧ t.cdr = s.cdr ∧ t.lkc = s.lkc ∧
          t.sht = s.sht ∧ t.wrs = s.wrs ∧ t.stl = s.stl) ∧
    (∀ reason, failure = some reason →
      completes (.takeHeadOrder temp) s fun t =>
        t.wsq.station = .clamped ∧ t.wsq.phase = none ∧ t.wsq.weldNo = none ∧ t.wsq.pendingSet = ⟨100, 0, 0, 0⟩ ∧
          t.wsq.inForce = ⟨100, 0, 0, 0⟩ ∧ t.wsq.switchPending = false ∧
          outgoing t = outgoing s ++ [⟨.notice, o.src, doneBody o.tag 2 .notStarted reason none, .doneNotice⟩] ∧
          sameBase s t ∧ t.sht = s.sht ∧ t.wrs = s.wrs ∧ t.stl = s.stl ∧ t.cdr = s.cdr)

/-- R156, R160, R163, R175: waiting work is taken oldest first. Arrivals are handled while no answer waits, and the first that
leaves one waiting holds up the arrivals after it (several in one event: the model's inference, assumption log 18; the
orders held from a wake after the arrivals: the model's choice, assumption log 37; each of them arrives in the state the station
then has: the model's inference, assumption log 19); the frame that waited longest enters the transmit queue when it has room;
the parts of a record follow each other. -/
def Obligations.ListsWorkedOff : Prop :=
  ∀ s : State, s.inReset = false →
    (noOutgoing s = true → s.orq.arrivals ≠ [] →
      let after (k : Nat) := (s.orq.arrivals.take k).foldl (fun u d => takeOrder d u) { s with orq.arrivals := [] }
      ∃ k, 1 ≤ k ∧ k ≤ s.orq.arrivals.length ∧ (∀ j < k, noOutgoing (after j) = true) ∧
        (k = s.orq.arrivals.length ∨ noOutgoing (after k) = false) ∧
        exec .arrivalListHandling s = .next
          (takeHeldOrders { after k with orq.arrivals := (after k).orq.arrivals ++ s.orq.arrivals.drop k })) ∧
    (∀ f l, s.lkc.queue.length < 6 → s.lkc.waiters = f :: l →
      completes .outgoingFrameQueued s fun t =>
        t.lkc = { s.lkc with queue := s.lkc.queue ++ [f], waiters := l, wait := t.lkc.wait } ∧
          (f.purpose ≠ .doneNotice → t.orq = s.orq) ∧
          (∀ o rest, f.purpose = .doneNotice → s.orq.queue = o :: rest → o.status = .ended → t.orq.queue = rest) ∧
          sameBase s t ∧ sameHead s t ∧ t.wsq = s.wsq ∧ t.stl = s.stl ∧ t.sht = s.sht ∧
          (f.purpose = .answer ∨ f.purpose = .notice ∨ f.purpose = .doneNotice → t.wrs = s.wrs)) ∧
    (∀ r l, s.wrs.reads = r :: l → r.stage = .part1 ∨ r.stage = .part2 →
      let one := r.stage = .part1
      completes .recordPartQueued s fun t =>
        outgoing t =
          outgoing s ++
            [⟨.record, r.dest, if one then recordPart1 r.record r.held r.tag else recordPart2 r.record r.tag,
              .recordPart (if one then 1 else 2) r.id⟩] ∧
          t.wrs = { s.wrs with
            reads :=
              { r with
                stage :=
                  if s.lkc.queue.length < 6 ∧ s.lkc.waiters = [] then (if one then .part2 else .part2Placed)
                  else (if one then .part1Waiting else .part2Waiting) } :: l } ∧
          sameBase s t ∧ sameHead s t ∧ t.wsq = s.wsq ∧ t.stl = s.stl ∧ t.sht = s.sht ∧ t.orq = s.orq)

/-! ### The share table -/

/-- R113, R129, R132, R142, R172: after a change of the claim list the own claim is admitted exactly when it is QUEUED with its settle
flag set, the station is not ISOLATED, no peer is DISCORDANT, and its demand with those of every entry ahead of it and of
every DRAWING or STALE entry behind it fits the capacity. Admission makes it DRAWING, counts it, and gives the weld its
number, its RESERVED slot with the weld-open marker, and its first current phase with the advance to contact (R14, R23, R24, R75,
R79); the slot is the first EMPTY or VALID one after the newest index, slot 0 following slot 47. In a SAG with the deglitched mark
set, with the station neither STOPPED nor in FAULT_HOLD, admission begins a pause: it is counted, its timer started and the mark
cleared (R113). -/
def Obligations.AdmissionRule : Prop :=
  ∀ (s : State) (own : Claim), s.ownClaim = some own →
    (admissible s = true ↔
      own.state = .queued ∧ s.sht.settleFlag = true ∧ s.wsq.isolated = false ∧
        (∀ p ∈ s.sht.peers, p.presence ≠ .discordant) ∧
        own.demand +
            ((s.sht.claims.filter fun c =>
              c.station ≠ own.station ∧
                ((c.number < own.number ∨ c.number = own.number ∧ c.station < own.station) ∨ c.state ≠ .queued)).map
              (·.demand)).sum ≤ s.shr.capacityKva) ∧
    (admissible s = true → s.stl.pause = .normal →
      let t := evaluateAdmission s
      t.sht.claims = s.sht.claims.map (fun c => if c.station = s.node then { c with state := .drawing } else c) ∧
        t.sht.claimWait = none ∧
        t.sht.admissions = (if s.sht.admissions < 65535 then s.sht.admissions + 1 else s.sht.admissions) ∧
        t.wrs.counter = s.wrs.counter + 1 ∧ t.wsq.weldNo = some (s.wrs.counter + 1) ∧
        (∀ i, reservation s.wrs = some i → t.wrs.slots = s.wrs.slots.set i .reserved) ∧
        (let free (k : Nat) : Bool :=
          match s.wrs.slots[(s.wrs.newest + 1 + k) % 48]? with
          | some .empty => true
          | some (.valid _) => true
          | _ => false
        (∀ k < 48, free k = true → (∀ j < k, free j = false) →
          t.wrs.slots = s.wrs.slots.set ((s.wrs.newest + 1 + k) % 48) .reserved) ∧
        ((∀ k < 48, free k = false) → t.wrs.slots = s.wrs.slots)) ∧
        t.wrs.marker = some (s.wrs.counter + 1, if s.sched.preCycles = 0 then .flash else .preheat) ∧
        t.wsq.phase = some (if s.sched.preCycles = 0 then .flash else .preheat) ∧
        (s.stl.stop = .run → t.pcu.mode = .speed s.loc.touchSpeed) ∧ t.pcu.contactMove = .advance ∧ t.stl = s.stl ∧
        t.cdr = s.cdr ∧ t.tru = s.tru ∧ sameBase s t) ∧
    (admissible s = true → s.stl.pause = .sag → s.stl.deglitched = true → s.motionHeld = false →
      let t := evaluateAdmission s
      t.wrs.counter = s.wrs.counter + 1 ∧ t.stl.pause = .paused ∧ t.stl.deglitched = false ∧
        t.stl.pauseTimer = some s.loc.pauseMaxMs ∧
        t.stl.pauseCount = (if s.stl.pauseCount < 65535 then s.stl.pauseCount + 1 else s.stl.pauseCount)) ∧
    (admissible s = false → evaluateAdmission s = s)

/-- R142: the own DRAWING entry is oversubscribed while the demands of all DRAWING and STALE entries exceed the capacity; this
is counted when it comes to hold. In PREHEAT behind a DRAWING or STALE entry the weld is aborted with OVERSUBSCRIBED and the
claim withdrawn; otherwise nothing else changes. -/
def Obligations.OversubscriptionRule : Prop :=
  ∀ (s : State) (own : Claim), s.ownClaim = some own →
    let oversub :=
      own.state = .drawing ∧
        s.shr.capacityKva < ((s.sht.claims.filter fun c => c.state ≠ .queued).map (·.demand)).sum
    let behind :=
      ∃ c ∈ s.sht.claims, c.station ≠ own.station ∧ c.state ≠ .queued ∧
        (c.number < own.number ∨ c.number = own.number ∧ c.station < own.station)
    let count := if s.sht.oversubscribed = false ∧ s.sht.oversubscriptions < 65535 then s.sht.oversubscriptions + 1
      else s.sht.oversubscriptions
    (¬oversub → evaluateOversubscription s = { s with sht.oversubscribed := false }) ∧
    (oversub → ¬(s.wsq.phase = some .preheat ∧ behind) →
      evaluateOversubscription s = { s with sht.oversubscribed := true, sht.oversubscriptions := count }) ∧
    (oversub → behind → s.wsq.phase = some .preheat → s.wsq.abort = none → s.wsq.ending = none →
      let t := evaluateOversubscription s
      t.sht.oversubscriptions = count ∧
        t.wsq.abort.map (fun a => (a.cause, a.phase)) = some (.oversubscribed, .preheat) ∧
        t.sht.claims = s.sht.claims.filter (·.station ≠ s.node) ∧ sameBase s t)

/-- R126, R128, R138, R141, R148: a beacon of a peer renews its entry and its loss timer (the drawing flag ignored where the
claim-present flag is clear), raises the claim clock, and reconciles its claim: its demand (a STALE entry of the same number keeps its own) and its state by the drawing flag, a drain timer dropped,
or its removal when the beacon names none. A
change to DISCORDANT is counted, and then an own QUEUED claim is withdrawn; the claim list is evaluated after. (The reported
flags as all four bits, that a STALE entry keeps its own demand, and the evaluation after every beacon: the model's
inference, assumption logs 26 and 29.) -/
def Obligations.BeaconUpdatesPeer : Prop :=
  ∀ (src : Nat) (b : BeaconBody) (s : State) (old : Peer), s.inReset = false → s.configured = true → src ≤ 7 →
    src ≠ s.node → s.sht.peers[src]? = some old →
    let named := b.claimPresent = true ∧ b.claimNumber ≠ 0
    let presence := if b.digest = s.sht.ownDigest then Presence.present else .discordant
    let turns := old.presence ≠ .discordant ∧ presence = .discordant
    ∃ u, exec (.beaconReceived src b) s = .next (evaluateShare (if turns then discordYield u else u)) ∧
      u.sht.peers =
        s.sht.peers.set src
          ⟨presence, 0, some s.shr.beaconMs,
            some (b.stateCode, beaconFlags b.claimPresent (b.claimPresent && b.drawing) b.isolated b.aborting), some b.digest,
            some b.weldCounter, if named then some b.claimNumber else old.lastClaim⟩ ∧
      u.sht.clock =
        max (if named then max s.sht.clock (min b.claimNumber 4294967295) else s.sht.clock) (min b.clock 4294967295) ∧
      u.sht.claims.filter (·.station ≠ src) = s.sht.claims.filter (·.station ≠ src) ∧
      (named →
        u.sht.claims.find? (·.station = src) =
          some ⟨src, b.claimNumber,
            match claimOf s src with
            | some c => if c.number = b.claimNumber ∧ c.state = .stale then c.demand else b.demand
            | none => b.demand,
            if b.drawing then .drawing else .queued, none⟩) ∧
      (¬named → ∀ c ∈ u.sht.claims, c.station ≠ src) ∧
      u.sht.discordEvents =
        (if turns then if s.sht.discordEvents < 65535 then s.sht.discordEvents + 1 else s.sht.discordEvents
        else s.sht.discordEvents) ∧
      sameBase s u ∧ sameHead s u ∧ u.wsq = s.wsq ∧ u.orq = s.orq ∧ u.wrs = s.wrs ∧ u.stl = s.stl ∧
      outgoing u = outgoing s ∧ sameLink s u

/-- R141, R27: while a peer turns DISCORDANT an own QUEUED claim is withdrawn, and a weld in CLAIM_WAIT ends NOT_STARTED with
DISCORD by a retract to its CHECK position. With no own QUEUED claim nothing happens. -/
def Obligations.DiscordWithdrawsQueuedClaim : Prop :=
  ∀ s : State,
    (∀ own, s.ownClaim = some own → own.state = .queued → s.wsq.phase = some .claimWait → s.wsq.abort = none →
      s.wsq.ending = none → s.stl.stop = .run → s.cdr.drive ≠ .running →
      let t := discordYield s
      t.sht.claims = s.sht.claims.filter (·.station ≠ s.node) ∧ t.sht.claimWait = none ∧
        t.wsq.ending = some ⟨.discord, true, true⟩ ∧
        t.pcu.mode = .position (clampInt 0 s.loc.strokeFwd s.wsq.checkPos) ∧
        t.pcu.moveTimer = some s.loc.moveTimeoutMs ∧ sameBase s t ∧ t.cdr = s.cdr ∧ t.tru = s.tru ∧ t.stl = s.stl) ∧
    ((∀ own, s.ownClaim = some own → own.state ≠ .queued) → discordYield s = s)

/-- R136: a CLAIM of a peer raises the clock and is noted as its last claim; it makes an entry, QUEUED, or replaces one of a
smaller number, and changes nothing else. An ABSENT peer is watched from then on. The claim list is evaluated after. A
peer's number of 0 is not acted on; nor is a CLAIM or a YIELD from a source above 7 or before settings are accepted (R125).
(That the list is evaluated also when the CLAIM has entered nothing: the model's inference, assumption log 26.) -/
def Obligations.ClaimMakesAnEntry : Prop :=
  ∀ (src n d : Nat) (s : State) (old : Peer), s.inReset = false → s.wsq.station ≠ .loading →
    (n = 0 → src ≠ s.node →
      completes (.claimReceived src n d) s fun t =>
        t = { s with lkc.wait := t.lkc.wait, lkc.lineBusy := false }) ∧
    (7 < src ∨ s.configured = false →
      ∀ c ∈ [Instr.claimReceived src n d, .yieldReceived src n],
        completes c s fun t => t = { s with lkc.wait := t.lkc.wait, lkc.lineBusy := false }) ∧
    (s.configured = true → src ≤ 7 → src ≠ s.node → n ≠ 0 → s.sht.peers[src]? = some old →
      let enters := ∀ c, claimOf s src = some c → c.number < n
      ∃ u, exec (.claimReceived src n d) s = .next (evaluateShare u) ∧
        u.sht.clock = max s.sht.clock (min n 4294967295) ∧
        (enters →
          (∃ before after, u.sht.claims = before ++ ⟨src, n, d, .queued, none⟩ :: after ∧
            before ++ after = s.sht.claims.filter (·.station ≠ src)) ∧
          (claimListSound s.sht.claims → n ≤ 4294967295 → claimListSound u.sht.claims) ∧
            u.sht.peers =
              s.sht.peers.set src
                (if old.presence = .absent then
                  { old with lastClaim := some n, missed := 0, lossTimer := some s.shr.beaconMs }
                else { old with lastClaim := some n })) ∧
        (¬enters →
          u.sht.claims = s.sht.claims ∧ u.sht.peers = s.sht.peers.set src { old with lastClaim := some n }) ∧
        sameBase s u ∧ sameHead s u ∧ u.wsq = s.wsq ∧ u.orq = s.orq ∧ u.wrs = s.wrs ∧ u.stl = s.stl ∧
        outgoing u = outgoing s ∧ sameLink s u ∧ u.sht.ignoredYields = s.sht.ignoredYields)

/-- R129, R137: a YIELD of a peer raises the clock and is noted; the entry that holds its number is removed in any state, with no
stale drain counted; otherwise it is counted as ignored. The claim list is evaluated after. A number of 0 is not acted
on. (That the list is evaluated also after an ignored YIELD: the model's inference, assumption log 26.) -/
def Obligations.YieldRemovesTheEntry : Prop :=
  ∀ (src n : Nat) (s : State) (old : Peer), s.inReset = false → s.configured = true → src ≤ 7 → src ≠ s.node →
    s.sht.peers[src]? = some old →
    (n = 0 →
      completes (.yieldReceived src n) s fun t =>
        t = { s with lkc.wait := t.lkc.wait, lkc.lineBusy := false }) ∧
    (n ≠ 0 →
      ∃ u, exec (.yieldReceived src n) s = .next (evaluateShare u) ∧
        u.sht.clock = max s.sht.clock (min n 4294967295) ∧
        u.sht.peers = s.sht.peers.set src { old with lastClaim := some n } ∧
        (∀ c, claimOf s src = some c → c.number = n →
          u.sht.claims = s.sht.claims.filter (·.station ≠ src) ∧ u.sht.ignoredYields = s.sht.ignoredYields) ∧
        ((∀ c, claimOf s src = some c → c.number ≠ n) →
          u.sht.claims = s.sht.claims ∧
            u.sht.ignoredYields =
              (if s.sht.ignoredYields < 65535 then s.sht.ignoredYields + 1 else s.sht.ignoredYields)) ∧
        u.sht.staleDrains = s.sht.staleDrains ∧ sameBase s u ∧ sameHead s u ∧ u.wsq = s.wsq ∧ u.orq = s.orq ∧
        u.wrs = s.wrs ∧ u.stl = s.stl ∧ outgoing u = outgoing s ∧ sameLink s u)

/-- R6, R125, R143: a BEACON, CLAIM or YIELD with the own station number as its source, whatever claim number it carries,
raises the claim clock and sets the ISOLATED flag; it changes neither the peer table nor the claim list. (That a claim number
of 0 makes no exception, and the clock field of a beacon counts as a number it carries: the model's inference, assumption
log 26.) -/
def Obligations.OwnNumberIsolates : Prop :=
  ∀ (n d : Nat) (b : BeaconBody) (s : State), s.inReset = false → s.configured = true → s.node ≤ 7 →
    (∀ c ∈ [Instr.claimReceived s.node n d, .yieldReceived s.node n],
      completes c s fun t =>
        t = { s with
          wsq.isolated := true
          sht.clock := max s.sht.clock (min n 4294967295)
          lkc.wait := t.lkc.wait
          lkc.lineBusy := false }) ∧
    (completes (.beaconReceived s.node b) s fun t =>
      t = { s with
        wsq.isolated := true
        sht.clock :=
          max (if b.claimPresent = true ∧ b.claimNumber ≠ 0 then max s.sht.clock (min b.claimNumber 4294967295)
            else s.sht.clock) (min b.clock 4294967295)
        lkc.wait := t.lkc.wait
        lkc.lineBusy := false })

/-- R130, R131, R134, R154 to R157, R167, R175: the beacon timer queues a beacon built from the state and starts again: it takes the place
of a beacon in the queue, else of one that waits in the send slot, and is queued in the share part otherwise, in a full
queue on the entry of the newest non-share frame, or of the oldest CLAIM or YIELD where all six are share frames, whose drop is
reported (with one in the queue and one in the slot the queue's is replaced: the model's choice, assumption log 16). The settle window's end
sets the settle flag and has admission evaluated; the claim-wait timer's end with the own claim QUEUED withdraws it,
counts the timeout, and ends the weld NOT_STARTED with CLAIM_TIMEOUT by a retract to its CHECK position. -/
def Obligations.ShareTimersExpire : Prop :=
  ∀ s : State, s.inReset = false →
    let beacon : TxFrame := ⟨.beacon, 15, beaconBytes (beaconNow s), .beacon (s.ownClaim.map (·.number))⟩
    let dropped := if s.lkc.queueFullDrops < 65535 then s.lkc.queueFullDrops + 1 else s.lkc.queueFullDrops
    (due s.lkc.beaconTimer = true →
      completes .beaconTimerExpiry s fun t =>
        t.lkc.beaconTimer = some s.shr.beaconMs ∧
          ((∃ f ∈ s.lkc.queue, f.kind = .beacon) →
            t.lkc = { s.lkc with
              beaconTimer := some s.shr.beaconMs
              queue := s.lkc.queue.map fun f => if f.kind = .beacon then beacon else f }) ∧
          ((∀ f ∈ s.lkc.queue, f.kind ≠ .beacon) →
            (∀ f, s.lkc.slot = some f → f.kind = .beacon → s.lkc.sending = false →
              t.lkc = { s.lkc with beaconTimer := some s.shr.beaconMs, slot := some beacon }) ∧
            (s.lkc.sending = true ∨ (∀ f, s.lkc.slot = some f → f.kind ≠ .beacon) →
              t.lkc.slot = s.lkc.slot ∧ t.lkc.waiters = s.lkc.waiters ∧
                (s.lkc.queue.length < 6 →
                  t.lkc.queue =
                      s.lkc.queue.takeWhile (·.kind.isShare) ++ beacon :: s.lkc.queue.dropWhile (·.kind.isShare) ∧
                    t.sht = s.sht ∧ t.orq = s.orq ∧ t.wrs = s.wrs) ∧
                (∀ q v, s.lkc.queue.length = 6 → s.lkc.queue = q ++ [v] → v.kind.isShare = false →
                  t.lkc.queue = q.takeWhile (·.kind.isShare) ++ beacon :: q.dropWhile (·.kind.isShare) ∧
                    t.lkc.queueFullDrops = dropped ∧ dropReported s t v.purpose) ∧
                (∀ a v b, s.lkc.queue.length = 6 → s.lkc.queue = a ++ v :: b → (∀ f ∈ s.lkc.queue, f.kind.isShare = true) →
                  v.kind = .claim ∨ v.kind = .yield → (∀ f ∈ a, f.kind ≠ .claim ∧ f.kind ≠ .yield) →
                  t.lkc.queue = a ++ b ++ [beacon] ∧ t.lkc.queueFullDrops = dropped ∧ dropReported s t v.purpose))) ∧
          sameBase s t ∧ sameHead s t ∧ t.wsq = s.wsq ∧ t.stl = s.stl ∧ t.sht.claims = s.sht.claims ∧
          t.sht.peers = s.sht.peers ∧ t.sht.clock = s.sht.clock) ∧
    (due s.sht.settleTimer = true →
      exec .settleWindowExpiry s = .next (evaluateShare { s with sht.settleTimer := none, sht.settleFlag := true })) ∧
    (∀ own, due s.sht.claimWait = true → s.ownClaim = some own → own.state = .queued → s.wsq.phase = some .claimWait →
      s.wsq.abort = none → s.wsq.ending = none → s.stl.stop = .run → s.cdr.drive ≠ .running →
      completes .claimWaitExpiry s fun t =>
        t.sht.claims = s.sht.claims.filter (·.station ≠ s.node) ∧ t.sht.claimWait = none ∧ t.sht.settleTimer = none ∧
          t.sht.claimTimeouts =
            (if s.sht.claimTimeouts < 65535 then s.sht.claimTimeouts + 1 else s.sht.claimTimeouts) ∧
          t.sht.peers = s.sht.peers ∧ t.sht.clock = s.sht.clock ∧ t.wsq.ending = some ⟨.claimTimeout, true, true⟩ ∧
          t.pcu.mode = .position (clampInt 0 s.loc.strokeFwd s.wsq.checkPos) ∧
          t.pcu.moveTimer = some s.loc.moveTimeoutMs ∧ sameBase s t ∧ t.cdr = s.cdr ∧ t.tru = s.tru ∧ t.flash = s.flash ∧
          t.stl = s.stl ∧ t.wrs = { s.wrs with reads := t.wrs.reads })

/-- R127, R136, R139, R140: a loss timer's expiry counts a missed beacon; the last one makes the peer ABSENT, counted unless it
was, removes its QUEUED claim and makes its DRAWING one STALE with its drain timer. A drain timer's expiry removes the
entry and is counted. Both have the claim list evaluated, also where it has not changed (the model's inference, assumption
log 26). -/
def Obligations.LossAndDrain : Prop :=
  ∀ (p : Nat) (s : State) (old : Peer), s.inReset = false →
    (p ≠ s.node → s.sht.peers[p]? = some old → due old.lossTimer = true →
      (old.missed + 1 < s.shr.lossCount →
        exec (.lossTimerExpiry p) s = .next
          (evaluateShare
            { s with
              sht.peers :=
                s.sht.peers.set p { old with missed := old.missed + 1, lossTimer := some s.shr.beaconMs } })) ∧
      (s.shr.lossCount ≤ old.missed + 1 →
        exec (.lossTimerExpiry p) s = .next
          (evaluateShare
            { s with
              sht.peers := s.sht.peers.set p ⟨.absent, old.missed + 1, none, old.reported, old.digest, old.weldCounter, old.lastClaim⟩
              sht.peerLosses :=
                if old.presence = .absent then s.sht.peerLosses
                else if s.sht.peerLosses < 65535 then s.sht.peerLosses + 1 else s.sht.peerLosses
              sht.claims :=
                match claimOf s p with
                | none => s.sht.claims
                | some c =>
                  match c.state with
                  | .queued => s.sht.claims.filter (·.station ≠ p)
                  | .drawing =>
                    s.sht.claims.map fun e =>
                      if e.station = p then { e with state := .stale, drain := some (s.shr.drainS * 1000) } else e
                  | .stale => s.sht.claims }))) ∧
    (∀ c, claimOf s p = some c → c.state = .stale → due c.drain = true →
      exec (.drainExpiry p) s = .next
        (evaluateShare
          { s with
            sht.claims := s.sht.claims.filter (·.station ≠ p)
            sht.staleDrains := if s.sht.staleDrains < 65535 then s.sht.staleDrains + 1 else s.sht.staleDrains }))

/-! ### The link -/

/-- R149, R158: a frame with a wrong length, a wrong CRC or an unknown kind, and an ORDER whose source is 0 to 7, raises its one
counter; a frame passed over (one for another destination among them) raises none. Nothing else changes but that the line is
free. Which of these a frame is, is the model's receiveFate; the bytes of a good frame, brought by this command, count
nothing (the model's choice, assumption log 5). -/
def Obligations.DiscardedFramesCounted : Prop :=
  ∀ (frame : List Byte) (s : State), s.inReset = false → s.wsq.station ≠ .loading →
    completes (.frameDiscarded frame) s fun t =>
      let up (n : Nat) := if n < 65535 then n + 1 else n
      let fate := receiveFate s.node frame
      t = { s with
        lkc.wait := t.lkc.wait
        lkc.lineBusy := false
        lkc.lengthErrors := if fate = .lengthError then up s.lkc.lengthErrors else s.lkc.lengthErrors
        lkc.crcErrors := if fate = .crcError then up s.lkc.crcErrors else s.lkc.crcErrors
        lkc.badKinds := if fate = .badKind then up s.lkc.badKinds else s.lkc.badKinds
        lkc.foreignOrders := if fate = .foreignOrder then up s.lkc.foreignOrders else s.lkc.foreignOrders }

/-- R151, R152: another node's start bit takes the line; at the end of the medium access wait the head of the transmit queue is
sent, with the rest in force; the line's quiet clears the rest. -/
def Obligations.LineEvents : Prop :=
  ∀ s : State, s.inReset = false →
    (s.wsq.station ≠ .loading → s.lkc.sending = false →
      exec .lineActivity s = .next { s with lkc.lineBusy := true, lkc.wait := none }) ∧
    (∀ f l, s.lkc.wait.isSome = true → s.lkc.slot = none → s.lkc.queue = f :: l →
      exec .mediumAccessWaitEnd s = .next
        { s with
          lkc.slot := some f
          lkc.queue := l
          lkc.collisionRun := 0
          lkc.wait := none
          lkc.sending := true
          lkc.rest := true }) ∧
    (∀ f, s.lkc.wait.isSome = true → s.lkc.slot = some f →
      exec .mediumAccessWaitEnd s = .next { s with lkc.wait := none, lkc.sending := true, lkc.rest := true }) ∧
    (s.lkc.rest = true → s.lkc.lineBusy = false → s.lkc.sending = false →
      exec .linkRestCleared s = .next { s with lkc.rest := false })

/-- R131, R153, R167, R175: a frame sent leaves the send slot and is reported to its block: the own claim's CLAIM starts the
settle window, the first beacon naming a claim whose CLAIM was dropped starts it then, RESTART's answer makes its reset due,
a record's part 2 ends its own transfer. A collision is counted; the third in a row drops the frame, reported as a drop: a
dropped CLAIM starts the window if a beacon has named it and leaves it to that beacon otherwise, a dropped RESTART answer
makes its reset due, a dropped part 2 ends its transfer. (That a collision leaves the line busy with the winner's frame: the
model's inference, assumption log 25.) -/
def Obligations.SendingEnds : Prop :=
  ∀ (s : State) (f : TxFrame), s.inReset = false → s.lkc.sending = true → s.lkc.slot = some f →
    let fresh := s.sht.settleFlag = false ∧ s.sht.settleTimer = none
    let started (t : State) := fresh → t.sht.settleTimer = some s.shr.settleMs
    let names (n : Nat) := ∃ own, s.ownClaim = some own ∧ own.number = n
    let readEnds (t : State) :=
      (∀ id, f.purpose = .recordPart 2 id → t.wrs = { s.wrs with reads := s.wrs.reads.eraseP (·.id = id) }) ∧
        ((∀ id, f.purpose ≠ .recordPart 2 id) → t.wrs = s.wrs)
    (completes .frameTransmitted s fun t =>
      t.lkc = { s.lkc with slot := none, sending := false, collisionRun := 0, wait := t.lkc.wait } ∧
        sameBase s t ∧ sameHead s t ∧ t.wsq = s.wsq ∧ t.stl = s.stl ∧ t.sht.claims = s.sht.claims ∧
        t.sht.peers = s.sht.peers ∧
        (∀ n, f.purpose = .claim n → names n → started t) ∧
        (∀ n, f.purpose = .claim n → ¬names n → t.sht = s.sht) ∧
        (∀ n, f.purpose = .beacon (some n) → names n →
          t.sht.beaconNamed = true ∧ (s.sht.claimDropped = true → started t) ∧
            (s.sht.claimDropped = false → t.sht.settleTimer = s.sht.settleTimer)) ∧
        (f.purpose = .restartAnswer → t.orq = { s.orq with restartDue := true }) ∧
        (f.purpose ≠ .restartAnswer → t.orq = s.orq) ∧ readEnds t) ∧
    (s.lkc.collisionRun < 2 →
      exec .collision s = .next
        { s with
          lkc.collisions := if s.lkc.collisions < 65535 then s.lkc.collisions + 1 else s.lkc.collisions
          lkc.collisionRun := s.lkc.collisionRun + 1
          lkc.sending := false
          lkc.lineBusy := true }) ∧
    (2 ≤ s.lkc.collisionRun →
      completes .collision s fun t =>
        t.lkc = { s.lkc with
          slot := none
          sending := false
          collisionRun := 0
          lineBusy := true
          collisions := if s.lkc.collisions < 65535 then s.lkc.collisions + 1 else s.lkc.collisions
          jammedDrops := if s.lkc.jammedDrops < 65535 then s.lkc.jammedDrops + 1 else s.lkc.jammedDrops } ∧
        sameBase s t ∧ sameHead s t ∧ t.wsq = s.wsq ∧ t.stl = s.stl ∧
        (f.purpose = .restartAnswer → t.orq = { s.orq with restartDue := true }) ∧
        (f.purpose ≠ .restartAnswer → t.orq = s.orq) ∧ readEnds t ∧ t.sht.claims = s.sht.claims ∧
        (∀ n, f.purpose = .claim n → names n →
          (s.sht.beaconNamed = true → started t) ∧
            (s.sht.beaconNamed = false → t.sht = { s.sht with claimDropped := true })) ∧
        ((∀ n, f.purpose = .claim n → ¬names n) → t.sht = s.sht))

/-! ### Clamps and platen -/

/-- R4, R8, R33, R34, R37: an UNCLAMP taken in CLAMPED opens the clamps; a closing ends CLOSED at its force and an opening OPEN
below the release level, with the order's DONE notice, or its FAILED one after a timeout; the clamp timer reverses a movement
once, and a reversal that times out holds the station and ends the order FAILED with CLAMP_TIMEOUT. A top-up ends at its force
or its timer. -/
def Obligations.ClampMovementsEnd : Prop :=
  ∀ (s : State) (o : QueuedOrder), s.inReset = false →
    let moving := s.wsq.station = .clamping ∨ s.wsq.station = .unclamping
    let done : TxFrame :=
      ⟨.notice, o.src,
        match s.wsq.clampFail with
        | none => doneBody o.tag o.kind.code .done .none none
        | some reason => doneBody o.tag o.kind.code .failed reason none, .doneNotice⟩
    (∀ temp rest, s.orq.queue = o :: rest → o.status = .waiting → o.kind = .unclamp → s.wsq.station = .clamped →
      s.pcu.clamp = some .closed → s.cdr.drive ≠ .running →
      completes (.takeHeadOrder temp) s fun t =>
        t.wsq.station = .unclamping ∧ t.wsq.clampFail = none ∧ executing t = some { o with status := .executing } ∧
          t.pcu.clamp = some .opening ∧ t.pcu.clampValve = .open ∧ t.pcu.clampTimer = some s.loc.clampTimeoutMs ∧
          t.pcu.reversal = false ∧ t.pcu.stopped = false ∧ t.pcu.clampForceInUse = s.pcu.clampForceInUse ∧
          outgoing t = outgoing s ∧ sameBase s t) ∧
    (∀ f, s.pcu.clampForceInUse = some f → f ≤ s.pcu.pressure → s.pcu.topUp = false → s.pcu.clamp = some .closing →
      s.pcu.stopped = false → s.pcu.clampTimer.isSome = true →
      completes .clampForceReached s fun t =>
        (s.wsq.topUpDue = false → t.pcu = { s.pcu with
          clamp := some .closed, clampValve := .hold, clampTimer := none, reversal := false, slip := .armed, slipCount := 0 }) ∧
        t.pcu.clamp = some .closed ∧ t.pcu.slip = .armed ∧ t.wsq.station = (if moving then .clamped else s.wsq.station) ∧
        (moving → executing s = some o → outgoing t = outgoing s ++ [done]) ∧ (¬moving → t.lkc = s.lkc) ∧ sameBase s t ∧
        t.cdr = s.cdr ∧ t.tru = s.tru ∧ t.flash = s.flash ∧ t.stl = s.stl ∧ t.sht = s.sht ∧ t.wrs = s.wrs) ∧
    (s.pcu.clamp = some .opening → s.pcu.stopped = false → s.pcu.clampTimer.isSome = true →
      s.pcu.pressure < s.loc.clampRelKn →
      completes .clampReleased s fun t =>
        t.pcu = { s.pcu with
          clamp := some .open, clampValve := .hold, clampTimer := none, reversal := false, clampForceInUse := none } ∧
        t.wsq.station = (if moving then .idle else s.wsq.station) ∧
        (moving → executing s = some o → outgoing t = outgoing s ++ [done]) ∧ (¬moving → t.lkc = s.lkc) ∧ sameBase s t ∧
        t.cdr = s.cdr ∧ t.tru = s.tru ∧ t.flash = s.flash ∧ t.stl = s.stl ∧ t.sht = s.sht ∧ t.wrs = s.wrs) ∧
    (s.pcu.topUp = true →
      let ended := { s with
        pcu.topUp := false, pcu.clampValve := .hold, pcu.clampTimer := none, pcu.slip := .armed, pcu.slipCount := 0 }
      (∀ f, s.pcu.clampForceInUse = some f → f ≤ s.pcu.pressure → exec .clampForceReached s = .next ended) ∧
        (due s.pcu.clampTimer = true → exec .clampTimerExpiry s = .next ended)) ∧
    (s.pcu.topUp = false → due s.pcu.clampTimer = true →
      completes .clampTimerExpiry s fun t =>
        (∀ st, s.pcu.clamp = some st → st = .closing ∨ st = .opening → s.pcu.reversal = false →
          t = { s with
            wsq.clampFail := if moving then some .clampTimeout else s.wsq.clampFail
            pcu.clamp := some (if st = .closing then .opening else .closing)
            pcu.clampValve := if st = .closing then .open else .close
            pcu.clampTimer := some s.loc.clampTimeoutMs
            pcu.reversal := true
            pcu.stopped := false
            pcu.topUp := false
            pcu.slip := .disarmed
            pcu.slipCount := 0 }) ∧
        (s.pcu.reversal = true →
          t.wsq.lastFault = .clampTimeout ∧ t.pcu.clamp = s.pcu.clamp ∧ t.pcu.clampValve = .hold ∧
            t.pcu.clampTimer = none ∧ t.pcu.mode = .hold ∧ t.cdr.drive = .blocked ∧
            t.wsq.station = (if s.wsq.station = .stopped then .stopped else .faultHold) ∧ sameBase s t ∧
            (moving → executing s = some o → s.wsq.abort = none →
              outgoing t =
                outgoing s ++
                  [⟨.notice, o.src, doneBody o.tag o.kind.code .failed .clampTimeout none, .doneNotice⟩])))

/-- R8, R26, R28, R36, R37, R42, R117 to R121, R123, R124: a slip is reported once, an implausible sample once until 100
plausible ones; either holds the station in FAULT_HOLD with platen, clamp valve and trimmer held and the drive blocked, a
top-up ended with the detector armed, and a clamp movement marked stopped with its order FAILED; or it is only filed, or made
the last fault, in FAULT_HOLD already, in LISTENING and before, and while the clamps are OPEN. A weld in progress gets its
motion-barred mark: in CHECK, TOUCH and CLAIM_WAIT its order ends NOT_STARTED at once; from PREHEAT to COOL the abort path
starts, with the claim withdrawn and the abort retract waiting, or the phase kept to run on; a path under way has its retract
stopped; a begun NOT_STARTED ending ends; CLOSING goes on. (That a top-up ends at the hold: the model's inference, assumption
log 22. That the clamp order's notice is the only frame sent is said of states with a sound order queue, State.ordersSound, which
every step keeps.) -/
def Obligations.SlipAndPlausibility : Prop :=
  ∀ s : State, s.inReset = false →
    let after := s.configured = true ∧ s.wsq.station ≠ .listening ∧ s.pcu.clamp ≠ some .open
    let held := after ∧ s.wsq.station ≠ .faultHold
    let again := after ∧ s.wsq.station = .faultHold
    let freshWeld := s.wsq.abort = none ∧ s.wsq.ending = none
    let withdrawn (t : State) := t.sht.claims = s.sht.claims.filter (·.station ≠ s.node)
    let notStarted (t : State) (reason : Reason) :=
      t.wsq.phase = none ∧ t.wsq.returnState = some .clamped ∧
        ∀ o, executing s = some o → s.wsq.station ≠ .clamping → s.wsq.station ≠ .unclamping →
          TxFrame.mk .notice o.src (doneBody o.tag o.kind.code .notStarted reason none) .doneNotice ∈ outgoing t
    let holds (t : State) (code : FaultCode) :=
      t.wsq.station = (if s.wsq.station = .stopped then .stopped else .faultHold) ∧
        (s.wsq.station = .stopped → t.wsq.returnFault = true) ∧ t.pcu.mode = .hold ∧
        t.pcu.clampValve = .hold ∧ t.tru.valve = .hold ∧ t.cdr.drive = .blocked ∧ t.pcu.shoe = none ∧
        (s.wsq.phase = none →
          t.wsq.lastFault = .fault code ∧ t.wsq.recoverTimer = s.wsq.recoverTimer ∧
            (s.wsq.station = .recover → s.wsq.ending = none → t.wsq.returnState = some .recover)) ∧
        (s.pcu.clamp = some .closed → t.pcu.clamp = some .closed ∧ t.pcu.topUp = false ∧
          (s.pcu.topUp = true → t.pcu.slip = .armed ∧ t.pcu.slipCount = 0 ∧ t.pcu.clampTimer = none)) ∧
        (s.pcu.clamp = some .closing ∨ s.pcu.clamp = some .opening →
          t.pcu.clamp = s.pcu.clamp ∧ t.pcu.stopped = true ∧ t.pcu.clampTimer = none) ∧
        (∀ o, s.ordersSound → s.wsq.station = .clamping ∨ s.wsq.station = .unclamping → executing s = some o →
          s.wsq.phase = none → s.wsq.abort = none →
          outgoing t =
            outgoing s ++ [⟨.notice, o.src, doneBody o.tag o.kind.code .failed (.fault code) none, .doneNotice⟩]) ∧
        sameBase s t
    let holdsWeld (t : State) (code : FaultCode) :=
      ∀ p, s.wsq.phase = some p →
        let kept := t.wsq.phase = some p ∧ t.wsq.barred = true
        let filed := files s t p [(code, .abort)]
        (p = .closing → s.wsq.ending = none → kept ∧ t.wrs = s.wrs ∧ t.wsq.lastFault = .fault code) ∧
          (p ∈ [WeldPhase.check, .touch, .claimWait] → freshWeld →
            notStarted t (.fault code) ∧ (p = .claimWait → withdrawn t)) ∧
          (∀ e, p ≠ .closing → s.wsq.ending = some e → e.begun = true → notStarted t e.reason) ∧
          (p ∈ [WeldPhase.preheat, .flash, .boost] → freshWeld →
            kept ∧ filed ∧ t.wsq.abort = some ⟨code, p, .retractWait⟩ ∧ withdrawn t ∧ t.flash.feed = none ∧
              t.flash.step = none) ∧
          (p ∈ [WeldPhase.upset, .hold, .trim, .cool] → freshWeld →
            kept ∧ filed ∧ t.wsq.abort = some ⟨code, p, .runOn⟩ ∧ t.wsq.upsetTimer = none ∧
              t.wsq.holdTimer = s.wsq.holdTimer ∧ t.wsq.coolTimer = s.wsq.coolTimer ∧
              (p = .upset → t.wsq.upsetMark = false ∧ (s.wsq.upsetMark = true → withdrawn t))) ∧
          (∀ a, p ≠ .closing → s.wsq.ending = none → s.wsq.abort = some a →
            kept ∧ filed ∧ t.wsq.upsetTimer = none ∧
              (∀ target, a.step = .retracting target →
                t.wsq.abort = some { a with step := .retractStopped target }) ∧
              (a.step = .driveIdle → p ∈ [WeldPhase.preheat, .flash, .boost] →
                t.wsq.abort = some { a with step := .retractWait } ∧ withdrawn t) ∧
              (a.step = .retractWait ∨ a.step = .runOn → t.wsq.abort = some a))
    let onlyFiled (t : State) (code : FaultCode) :=
      t.cdr = s.cdr ∧ t.tru = s.tru ∧ t.orq = s.orq ∧ t.lkc = s.lkc ∧ t.sht = s.sht ∧ t.stl = s.stl ∧ sameBase s t ∧
        (s.wsq.phase = none → t.wsq = { s.wsq with lastFault := .fault code } ∧ t.wrs = s.wrs) ∧
        (∀ p, s.wsq.phase = some p → p ≠ .closing → s.wrs.working.isSome = true →
          t.wsq = s.wsq ∧ files s t p [(code, .abort)])
    let unheld := ¬after ∨ (again ∧ (s.wsq.phase = none ∨ s.wsq.abort.isSome = true))
    (s.pcu.slip = .armed → s.pcu.clamp = some .closed → s.loc.slipMs ≤ s.pcu.slipCount →
      completes .slipDetected s fun t =>
        (s.pcu.topUp = false ∨ ¬held → t.pcu.slip = .tripped ∧ t.pcu.slipCount = 0) ∧
          (held → holds t .clampSlip ∧ holdsWeld t .clampSlip) ∧
          (unheld → onlyFiled t .clampSlip ∧ t.pcu = { s.pcu with slip := .tripped, slipCount := 0 })) ∧
    (s.pcu.slip = .tripped → s.pcu.clamp = some .closed → s.loc.slipMs ≤ s.pcu.slipCount →
      exec .slipRearmed s = .next { s with pcu.slip := .armed, pcu.slipCount := 0 }) ∧
    (s.pcu.powered = true → s.pcu.tripped = false → s.pcu.posOk = false ∨ s.pcu.forceOk = false →
      completes .implausibleSample s fun t =>
        t.pcu.tripped = true ∧ t.pcu.plausibleRun = 0 ∧ t.pcu.mode = .hold ∧ t.pcu.shoe = none ∧
          (held → holds t .sensorFault ∧ holdsWeld t .sensorFault) ∧ (unheld → onlyFiled t .sensorFault)) ∧
    (s.pcu.tripped = true → 100 ≤ s.pcu.plausibleRun →
      exec .plausibilityRearm s = .next { s with pcu.tripped := false })

/-- R26, R40, R77, R80, R82, R87, R96, R100, R119: a POSITION or RETRACT move ends at its target or short at its timer, in HOLD, and
its report carries the weld on: a NOT_STARTED ending ends the order, an abort retract enters CLOSING, PART becomes OPEN, a
retract step goes back to the feed, at the profile speed v0 + (v1 - v0) b / flash_burnoff or the boost speed, boosted while
the open boost mark is set. Force reached ends UPSET, with distance and peak taken, UPSET_SHORT or UPSET_LONG filed, the trim
window opened, and HOLD is entered. (That a trim result SKIPPED by trim_enable is set then: the model's choice, assumption
log 35.) -/
def Obligations.PlatenMovesEnd : Prop :=
  ∀ s : State, s.inReset = false →
    let limit := s.sched.flashBurnoff
    let plain : Nat :=
      if s.wsq.phase = some .boost then s.wsq.active.speed
      else
        (2 * (s.wsq.active.v0 * limit + (s.wsq.active.v1 - s.wsq.active.v0) * (s.flash.burnOff.getD 0).toNat) + limit) /
          (2 * limit)
    let feed : Nat := if s.flash.openMark then (2 * (plain * s.sched.openBoostPct) + 100) / 200 else plain
    (∀ c x, s.pcu.mode = .position x ∨ s.pcu.mode = .retract x →
      (c = .movementTargetReached ∧ 10 ≤ s.pcu.nearCount) ∨ (c = .movementTimerExpiry ∧ due s.pcu.moveTimer = true) →
      completes c s fun t =>
        sameBase s t ∧ t.pcu.moveTimer = none ∧ t.cdr = s.cdr ∧ t.tru = s.tru ∧ t.stl = s.stl ∧ t.sht = s.sht ∧
          (∀ e, s.wsq.ending = some e → e.moving = true →
            t.wsq.phase = none ∧ t.wsq.ending = none ∧ t.wsq.station = (if s.motionHeld then s.wsq.station else .clamped) ∧
              t.wrs = s.wrs ∧
              ∀ o, executing s = some o →
                outgoing t =
                  outgoing s ++ [⟨.notice, o.src, doneBody o.tag o.kind.code .notStarted e.reason none, .doneNotice⟩]) ∧
          (∀ a target w, s.wsq.ending = none → s.wsq.abort = some a → a.step = .retracting target →
            s.wrs.working = some w →
            t.wsq.phase = some .closing ∧ t.wrs.writing.isSome = true ∧ t.wrs.writeTimer = some 50 ∧ t.pcu.mode = .hold) ∧
          (s.wsq.ending = none → s.wsq.abort = none → s.flash.step = some .part →
            t.flash = { s.flash with step := some .open } ∧ t.wsq = { s.wsq with openTimer := some s.sched.preOpenMs } ∧
              t.pcu.mode = .hold ∧ t.wrs = s.wrs ∧ t.lkc = s.lkc) ∧
          (s.wsq.ending = none → s.wsq.abort = none → s.flash.step ≠ some .part → s.flash.feed = some .stepping →
            s.stl.stop = .run →
            t.flash = { s.flash with feed := some .feeding } ∧ t.wsq = s.wsq ∧ t.pcu.mode = .speed feed ∧
              t.wrs = s.wrs ∧ t.lkc = s.lkc)) ∧
    (∀ total limit, s.pcu.mode = .force total limit → s.pcu.forceReported = false → 98 * total ≤ 100 * s.pcu.force →
      s.pcu.posHistory.length = 20 → (∀ x ∈ s.pcu.posHistory, ∀ y ∈ s.pcu.posHistory, x - y ≤ 1) →
      (∀ start, s.wsq.phase = some .upset → s.wsq.upsetStart = some start →
        completes .forceReached s fun t =>
          t.wsq.phase = some .hold ∧ t.wsq.upsetDistance = some (s.pcu.position - start) ∧
            t.wsq.upsetPeak = some s.pcu.highForce ∧ t.wsq.upsetMark = false ∧ t.wsq.upsetTimer = none ∧
            t.wsq.holdTimer = some (s.sched.holdS * 1000) ∧ t.wsq.active.holdForce = s.sched.holdForce ∧
            files s t .upset (upsetFaults s (s.pcu.position - start)) ∧ windowOpened s t ∧
            (s.wsq.barred = false → s.stl.stop = .run →
              t.pcu.mode =
                .force (min (s.sched.holdForce + s.pcu.forceBasis) s.loc.platenMaxKn) s.loc.moveSpeed) ∧
            sameBase s t) ∧
      (s.wsq.phase ≠ some .upset → exec .forceReached s = .next { s with pcu.forceReported := true }))

/-- R25, R26, R27, R43, R44, R46, R130, R154 to R156: each shoe's resistance is kept and compared with its limit; after the
fourth TOUCH begins, or the order ends ELECTRODE_CONTACT. Contact completes the touch with its position, gap and initial
pull, and the budget tests decide between STROKE_SHORT, FORCE_SHORT and CLAIM_WAIT with its claim, which puts a CLAIM frame
and then a beacon naming it in the transmit queue, the beacon in the place of one that waits there or in the send slot; the
claim is refused with CLOCK_SPENT or DISCORD, no entry, frame or timer made; the reserve position or the touch timer end it
with TOUCH_FAIL. (That CLOCK_SPENT is the reason where both refusals hold: the model's inference, assumption log 26. That
with a beacon in the queue and one in the slot the queue's is replaced: the model's choice, assumption log 16.) -/
def Obligations.ElectrodeAndTouch : Prop :=
  ∀ (s : State), s.inReset = false → s.stl.stop = .run → s.wsq.abort = none →
    (∀ k r, s.pcu.shoe = some k → due s.pcu.shoeTimer = true →
      let bad := decide (s.loc.shoeLimitUohm < r)
      completes (.shoeMeasurementEnd r) s fun t =>
        t.pcu.resistances = s.pcu.resistances.set k (some r) ∧ t.pcu.failedShoes = s.pcu.failedShoes.set k bad ∧
          sameBase s t ∧ t.cdr = s.cdr ∧ t.tru = s.tru ∧ t.stl = s.stl ∧ t.sht = s.sht ∧
          (k < 3 → t.pcu.shoe = some (k + 1) ∧ t.pcu.shoeTimer = some 50 ∧ t.wsq = s.wsq ∧ t.lkc = s.lkc) ∧
          (3 ≤ k → (∀ b ∈ s.pcu.failedShoes.set k bad, b = false) →
            t.wsq.phase = some .touch ∧ t.pcu.mode = .speed s.loc.touchSpeed ∧ t.pcu.contactMove = .touch ∧
              t.pcu.contactSense = true ∧ t.pcu.touchTimer = some s.loc.touchTimeoutMs ∧
              t.pcu.touchStart = s.pcu.position ∧ t.pcu.shoe = none) ∧
          (3 ≤ k → (∃ b ∈ s.pcu.failedShoes.set k bad, b = true) →
            t.wsq.phase = none ∧ t.pcu.shoe = none ∧
              ∀ o, executing s = some o →
                outgoing t =
                  outgoing s ++
                    [⟨.notice, o.src, doneBody o.tag o.kind.code .notStarted .electrodeContact none, .doneNotice⟩])) ∧
    (s.pcu.contactMove = .touch → 5 ≤ s.pcu.contactRun →
      let needed := (if s.sched.preCycles = 0 then 0 else s.sched.preOpenDist) + s.sched.flashBurnoff +
        s.sched.boostDist + s.sched.upsetMax
      let strokeOk := (needed : Int) ≤ s.loc.strokeFwd - s.pcu.contactPosition
      let forceOk := budgetForce s + s.pcu.pullTarget.getD 0 ≤ s.loc.platenMaxKn
      completes .touchContact s fun t =>
        t.pcu.touchPos = some s.pcu.contactPosition ∧
          t.pcu.gap = some (if s.pcu.contactFromStart then 0 else s.pcu.contactPosition - s.pcu.touchStart) ∧
          (s.wsq.kind = .closure → t.pcu.initialPull = some s.pcu.contactForce ∧ t.pcu.forceBasis = s.pcu.contactForce) ∧
          (s.wsq.kind = .join → t.pcu.initialPull = none ∧ t.pcu.forceBasis = 0) ∧ sameBase s t ∧
          (¬strokeOk → t.wsq.ending = some ⟨.strokeShort, true, true⟩) ∧
          (strokeOk → ¬forceOk → t.wsq.ending = some ⟨.forceShort, true, true⟩) ∧
          (strokeOk → forceOk → 4294967295 ≤ s.sht.clock →
            t.wsq.ending = some ⟨.clockSpent, true, true⟩ ∧ t.sht = s.sht ∧ t.lkc = s.lkc) ∧
          (strokeOk → forceOk → s.sht.clock < 4294967295 → (∃ p ∈ s.sht.peers, p.presence = .discordant) →
            t.wsq.phase = some .claimWait ∧ t.wsq.ending = some ⟨.discord, true, true⟩ ∧ t.sht = s.sht ∧ t.lkc = s.lkc) ∧
          (strokeOk → forceOk → s.sht.clock < 4294967295 → (∀ p ∈ s.sht.peers, p.presence ≠ .discordant) →
            t.wsq.phase = some .claimWait ∧ t.wsq.claimWaitAt = s.now ∧ t.sht.clock = s.sht.clock + 1 ∧
              t.sht.lastOwnClaim = some (s.sht.clock + 1) ∧
              t.sht.claims = putClaim ⟨s.node, s.sht.clock + 1, s.sched.demandKva, .queued, none⟩ s.sht.claims ∧
              t.sht.claimWait = (if s.loc.claimWaitS = 0 then none else some (s.loc.claimWaitS * 1000)) ∧
              t.sht.settleFlag = false ∧ t.sht.settleTimer = none ∧
              (s.lkc.queue.length < 6 ∨ (∃ f ∈ s.lkc.queue, f.kind ≠ .beacon) →
                ∃ b : BeaconBody, b.claimPresent = true ∧ b.drawing = false ∧ b.claimNumber = s.sht.clock + 1 ∧
                  b.demand = s.sched.demandKva ∧ b.clock = s.sht.clock + 1 ∧
                  let claim : TxFrame :=
                    ⟨.claim, 15, claimBody (s.sht.clock + 1) s.sched.demandKva, .claim (s.sht.clock + 1)⟩
                  let beacon : TxFrame := ⟨.beacon, 15, beaconBytes b, .beacon (some (s.sht.clock + 1))⟩
                  let queue := shareQueued claim s.lkc.queue
                  t.lkc.waiters = s.lkc.waiters ∧
                    ((∃ f ∈ queue, f.kind = .beacon) →
                      t.lkc.queue = queue.map (fun f => if f.kind = .beacon then beacon else f) ∧ t.lkc.slot = s.lkc.slot) ∧
                    ((∀ f ∈ queue, f.kind ≠ .beacon) →
                      (∀ f, s.lkc.slot = some f → f.kind = .beacon → s.lkc.sending = false →
                        t.lkc.queue = queue ∧ t.lkc.slot = some beacon) ∧
                      (s.lkc.sending = true ∨ (∀ f, s.lkc.slot = some f → f.kind ≠ .beacon) →
                        t.lkc.queue = shareQueued beacon queue ∧ t.lkc.slot = s.lkc.slot))))) ∧
    (∀ c,
      (c = .touchReserveReached ∧ s.pcu.contactFromStart = false ∧
          (s.loc.strokeFwd : Int) - s.loc.touchReserve ≤ s.pcu.position) ∨
        (c = .touchTimerExpiry ∧ due s.pcu.touchTimer = true) → s.pcu.contactMove = .touch →
      completes c s fun t =>
        t.wsq = { s.wsq with ending := some ⟨.touchFail, true, true⟩ } ∧
          t.pcu.mode = .position (clampInt 0 s.loc.strokeFwd s.wsq.checkPos) ∧
          t.pcu.moveTimer = some s.loc.moveTimeoutMs ∧ t.pcu.contactMove = .none ∧ t.pcu.contactSense = false ∧
          sameBase s t ∧ t.cdr = s.cdr ∧ t.tru = s.tru ∧ t.flash = s.flash ∧ t.stl = s.stl ∧ t.sht = s.sht ∧ t.lkc = s.lkc ∧
          t.orq = s.orq ∧ t.wrs = s.wrs)

/-- R28, R31, R35, R39, R42, R49, R75, R76, R79, R80, R81: the first sample after the field side is powered, with the clamps OPEN,
is not compared with one before it; where its pressure reads closed SENSOR_FAULT is the last fault, and the clamp state stays
OPEN. Any other sample becomes the latest values, moves the high mark only when plausible and forward, sets the profile speed of
the burn-off while FEEDING in FLASH, and leaves the commanded position within the stroke; below its threshold the drift watch
files PULL_DRIFT and stops. Contact ends the advance with current requested, in PREHEAT for the contact interval, in FLASH with
the feed begun; no contact in time is NO_CONTACT. (The commanded position in thousandths of 0.1 mm: the model's unit, assumption
log 10. That the drift threshold is compared unrounded, and that the first sample after the field side is powered is the first
PCU_SAMPLE: the model's inference, assumption logs 11 and 8.) -/
def Obligations.SamplesAndAdvance : Prop :=
  ∀ s : State, s.inReset = false →
    (∀ f, s.pcu.powered = true → s.pcu.wakeSample = true → s.pcu.clamp = some .open → s.wsq.phase = none →
      completes (.pcuSample f) s fun t =>
        t.wsq = { s.wsq with
          lastFault := if s.loc.clampRelKn ≤ f.pressure then .fault .sensorFault else s.wsq.lastFault } ∧
          t.pcu.wakeSample = false ∧ t.pcu.clamp = some .open ∧ t.pcu.position = f.position ∧ t.pcu.force = f.force ∧
          t.pcu.pressure = f.pressure ∧ (s.pcu.posSeen = false → t.pcu.posOk = true) ∧ t.pcu.tripped = s.pcu.tripped ∧
          sameBase s t ∧ t.flash = s.flash ∧ t.cdr = s.cdr ∧ t.tru = s.tru ∧ t.stl = s.stl ∧ t.sht = s.sht ∧
          t.lkc = s.lkc ∧ t.orq = s.orq ∧ t.wrs = s.wrs) ∧
    (∀ f, s.pcu.powered = true → s.pcu.wakeSample = false →
      completes (.pcuSample f) s fun t =>
        t.pcu.position = f.position ∧ t.pcu.force = f.force ∧ t.pcu.pressure = f.pressure ∧ t.pcu.clamp = s.pcu.clamp ∧
          (t.pcu.posOk = false → t.flash = s.flash ∧ t.pcu.plausPosition = s.pcu.plausPosition) ∧
          (∀ start, t.pcu.posOk = true → s.wsq.abort = none → s.wsq.phase = some .flash → s.flash.feed = some .feeding →
            s.flash.startPos = some start →
            t.flash.highMark = some (max f.position (s.flash.highMark.getD f.position)) ∧
              t.flash.burnOff = some (max f.position (s.flash.highMark.getD f.position) - start)) ∧
          (∀ v b, s.pcu.mode = .speed v → s.wsq.abort = none → s.wsq.phase = some .flash → s.flash.feed = some .feeding →
            t.flash.burnOff = some b →
            let limit := s.sched.flashBurnoff
            let plain := (2 * (s.wsq.active.v0 * limit + (s.wsq.active.v1 - s.wsq.active.v0) * b.toNat) + limit) / (2 * limit)
            t.pcu.mode = .speed (if s.flash.openMark then (2 * (plain * s.sched.openBoostPct) + 100) / 200 else plain : Nat)) ∧
          (s.pcu.mode ≠ .hold → s.pcu.contactFromStart = false → t.pcu.contactFromStart = false →
            0 ≤ t.pcu.commanded ∧ t.pcu.commanded ≤ s.loc.strokeFwd * 1000) ∧
          (s.pcu.mode = .hold → t.pcu.commanded = s.pcu.commanded) ∧
          sameBase s t ∧ t.wsq = s.wsq ∧ t.cdr = s.cdr ∧ t.tru = s.tru ∧ t.stl = s.stl ∧ t.sht = s.sht ∧ t.lkc = s.lkc ∧
          t.orq = s.orq ∧ t.wrs = s.wrs) ∧
    (∀ pull w, s.pcu.driftWatch = true → s.motionHeld = false → s.pcu.tripped = false → s.pcu.forceOk = true →
      s.pcu.pullAtHoldEnd = some pull →
      100 * s.pcu.force < 100 * pull - max (pull * s.loc.pullTolPct) (s.loc.pullMinBand * 100) →
      s.wsq.phase = some .cool → s.wrs.working = some w → w.record.faults.length < 6 →
      exec .pullDrift s = .next
        { s with
          pcu.driftWatch := false
          wrs.working := some { w with
            quality := true
            record := { w.record with
              faults := w.record.faults ++ [⟨.pullDrift, .quality, .cool, s.now - w.openedAt⟩] } } }) ∧
    (s.pcu.contactMove = .advance → 5 ≤ s.pcu.contactRun → s.stl.stop = .run → s.cdr.drive = .blocked →
      completes .advanceContact s fun t =>
        (s.flash.step = some .advance →
          t.flash = { s.flash with step := some .contact } ∧ t.cdr.mode = .preheatContact ∧
            t.wsq = { s.wsq with weldStarted := true, contactTimer := some s.sched.preContactMs } ∧ t.pcu.mode = .hold ∧
            t.cdr.drive = (if s.runConditions then .running else .ready) ∧ t.cdr.half = .positive ∧
            t.cdr.carrierHz = s.sched.carrierHz ∧
            (s.wsq.weldStarted = false → t.cdr.energy = ⟨0, 0, 0, 0⟩ ∧ t.cdr.flux = 0 ∧ t.cdr.overcurrentCount = 0)) ∧
          (s.flash.step ≠ some .advance → s.flash.feed = some .approach →
            t.flash.startPos = some s.pcu.position ∧ t.flash.highMark = some s.pcu.position ∧ t.flash.burnOff = some 0 ∧
              t.cdr.mode = .flash ∧ t.wsq = { s.wsq with weldStarted := true } ∧
              (s.paused = true → t.flash.feed = some .held ∧ t.pcu.mode = .hold) ∧
              (s.paused = false → t.flash.feed = some .feeding ∧ t.pcu.mode.isForce = false ∧ t.pcu.mode ≠ .hold)) ∧
          sameBase s t ∧ t.stl = s.stl ∧ t.sht = s.sht ∧ t.lkc = s.lkc ∧ t.orq = s.orq ∧ t.wrs = s.wrs ∧ t.tru = s.tru) ∧
    (∀ p, s.pcu.contactMove = .advance → due s.pcu.touchTimer = true → s.wsq.phase = some p →
      p = .preheat ∨ p = .flash → s.wsq.abort = none → s.wsq.ending = none →
      completes .advanceTimerExpiry s fun t =>
        t.wsq.abort.map (fun a => (a.cause, a.phase)) = some (.noContact, p) ∧ t.pcu.contactSense = false ∧
          t.flash.step = none ∧ t.flash.feed = none ∧ sameBase s t ∧ t.sht.peers = s.sht.peers)

/-! ### The weld -/

/-- R19, R21, R76, R77, R83, R85, R86: the contact interval ends in a normal OFF; the open interval in the next advance, or in
FLASH with the scale of R21 switched in and recorded; the streak timer clears the streak; the flash-lost timer and the flash
time limit start the abort path. None is taken in a pause (R16). -/
def Obligations.PreheatAndFlashTimers : Prop :=
  ∀ s : State, s.inReset = false →
    (s.paused = true →
      ∀ c ∈ [Instr.contactIntervalExpiry, .openIntervalExpiry, .streakTimerExpiry, .flashLostExpiry, .flashTimeExpiry],
        exec c s = .next s) ∧
    (s.paused = false →
    (due s.wsq.contactTimer = true →
      (s.cdr.drive = .running →
        exec .contactIntervalExpiry s = .next
          { s with wsq.contactTimer := none, flash.offAwaited := true, cdr.offPending := true }) ∧
      (s.cdr.drive = .ready → s.wsq.abort = none → s.motionHeld = false → s.stl.stop = .run →
        completes .contactIntervalExpiry s fun t =>
          t.cdr.drive = .blocked ∧ t.cdr.mode = .off ∧ t.flash = { s.flash with step := some .part, offAwaited := false } ∧
            t.wsq = { s.wsq with contactTimer := none } ∧
            t.pcu.mode = .retract (clampInt 0 s.loc.strokeFwd (s.pcu.position - s.sched.preOpenDist)) ∧
            sameBase s t ∧ t.sht = s.sht ∧ t.lkc = s.lkc ∧ t.wrs = s.wrs ∧ t.tru = s.tru ∧ t.orq = s.orq)) ∧
    (due s.wsq.openTimer = true →
      (s.flash.cyclesDone + 1 < s.sched.preCycles →
        completes .openIntervalExpiry s fun t =>
          t.flash = { s.flash with step := some .advance, cyclesDone := s.flash.cyclesDone + 1 } ∧
            t.wsq = { s.wsq with openTimer := none } ∧ t.pcu.contactMove = .advance ∧ t.pcu.contactSense = true ∧
            sameBase s t ∧ t.cdr = s.cdr ∧ t.wrs = s.wrs ∧ t.lkc = s.lkc ∧ t.sht = s.sht) ∧
      (s.sched.preCycles ≤ s.flash.cyclesDone + 1 →
        completes .openIntervalExpiry s fun t =>
          let e := energyKj s.cdr.carrierHz s.cdr.energy.preheat
          let r := s.sched.preEnergyRef
          t.wsq.phase = some .flash ∧ t.flash.feed = some .approach ∧ t.flash.step = none ∧
            t.flash.cyclesDone = s.flash.cyclesDone + 1 ∧ t.wsq.flashTimer = some (s.sched.flashTimeS * 1000) ∧
            (r ≠ 0 → e ≠ 0 →
              t.wsq.inForce = { s.wsq.pendingSet with scale := clampNat 80 120 ((200 * r + e) / (2 * e)) } ∧
                t.wsq.switchPending = false) ∧
            (r = 0 ∨ e = 0 → t.wsq.inForce = if s.wsq.switchPending then s.wsq.pendingSet else s.wsq.inForce) ∧
            t.wsq.active = formActive s.sched t.wsq.inForce s.wsq.active .flash ∧
            (∀ w, t.wrs.working = some w → w.record.flashScale = some t.wsq.inForce.scale) ∧
            sameBase s t ∧ t.cdr = s.cdr ∧ t.lkc = s.lkc ∧ t.sht = s.sht)) ∧
    (due s.flash.streakTimer = true →
      exec .streakTimerExpiry s = .next { s with flash.streak := 0, flash.streakTimer := none }) ∧
    (∀ p, s.wsq.phase = some p → p = .flash ∨ p = .boost → s.wsq.abort = none → s.wsq.ending = none →
      (due s.flash.lostTimer = true →
        completes .flashLostExpiry s fun t =>
          t.wsq.abort.map (fun a => (a.cause, a.phase)) = some (.flashLost, p) ∧ t.flash.lostTimer = none ∧
            t.flash.feed = none ∧ sameBase s t) ∧
      (due s.wsq.flashTimer = true →
        completes .flashTimeExpiry s fun t =>
          t.wsq.abort.map (fun a => (a.cause, a.phase)) = some (.flashTimeout, p) ∧ t.wsq.flashTimer = none ∧
            t.flash.flashTime = s.sched.flashTimeS * 1000 ∧ t.flash.feed = none ∧ sameBase s t)))

/-- R59, R69, R81, R87, R88, R89, R93, R94, R96, R97, R100: burn-off ends FLASH in BOOST, or in UPSET when boost_dist is 0; BOOST's
trip level starts a ramp from the applied one unless it is the target already, and a cycle in progress is divided: what it has
so far stays with the old mode until it is added; the boost distance ends BOOST in UPSET (in a pause, with the upset current
cut at once, R95); the upset current distance turns the drive off and withdraws the claim; the upset time limit files
UPSET_TIMEOUT and ends UPSET, with distance and peak taken, UPSET_SHORT or UPSET_LONG filed after it, the platen in FORCE for
HOLD and the trim window opened. (That a trim result SKIPPED by trim_enable is set then: the model's choice, assumption
log 35.) -/
def Obligations.FlashAndUpsetEnd : Prop :=
  ∀ s : State, s.inReset = false → s.stl.stop = .run →
    let upset (t : State) :=
      t.wsq.phase = some .upset ∧ t.wsq.upsetStart = some s.pcu.plausPosition ∧ t.flash.feed = none ∧
        t.flash.streakTimer = none ∧ t.wsq.flashTimer = none ∧ t.wsq.upsetTimer = some s.sched.upsetTimeMs ∧
        t.pcu.mode.isForce = true ∧ t.wsq.upsetMark = true ∧ t.cdr.mode = .upsetCurrent ∧
        t.wsq.active.upsetForce =
          (2 * (s.sched.upsetForce *
            (100 + (if s.wsq.switchPending then s.wsq.pendingSet else s.wsq.inForce).force).toNat) + 100) / 200 ∧
        sameBase s t ∧ t.sht = s.sht ∧ t.lkc = s.lkc ∧ t.orq = s.orq ∧ t.tru = s.tru
    (∀ d, s.wsq.phase = some .flash → followsMark s = true → s.flash.burnOff = some d → (s.sched.flashBurnoff : Int) ≤ d →
      completes .burnOffReached s fun t =>
        (s.sched.boostDist ≠ 0 →
          t.wsq.phase = some .boost ∧ t.flash.boostBase = s.flash.highMark ∧ t.flash.boostDone = some 0 ∧
            t.wsq.active.trip = s.sched.boostTripA ∧ t.wsq.active.speed = s.sched.boostSpeed ∧ t.cdr.mode = .boost ∧
            t.flash.feed = s.flash.feed ∧ t.flash.streak = s.flash.streak ∧ t.pcu = s.pcu ∧ sameBase s t ∧
            t.sht = s.sht ∧ t.lkc = s.lkc ∧
            (∀ amps, s.wsq.weldStarted = true → s.cdr.drive ≠ .blocked → s.cdr.applied = some amps →
              t.cdr.tripTarget = some s.sched.boostTripA ∧ t.cdr.applied = some amps ∧
                t.cdr.ramp =
                  (if s.cdr.tripTarget = some s.sched.boostTripA then s.cdr.ramp else some ⟨amps, s.loc.rampCycles, 0⟩)) ∧
            (s.wsq.weldStarted = true → s.cdr.drive = .running → s.cdr.mode = .flash →
              t.cdr.energy = s.cdr.energy ∧ t.cdr.tally = s.cdr.tally ∧
                t.cdr.partEnergy =
                  { s.cdr.partEnergy with
                    flash := s.cdr.partEnergy.flash + (s.cdr.sums.energy - s.cdr.sums.credited) } ∧
                t.cdr.partMs = { s.cdr.partMs with flash := s.cdr.partMs.flash + s.cdr.runMs } ∧ t.cdr.runMs = 0 ∧
                t.cdr.sums = { s.cdr.sums with credited := s.cdr.sums.energy })) ∧
        (s.sched.boostDist = 0 → s.paused = false → upset t) ∧
        (s.sched.boostDist = 0 → s.paused = true → t.wsq.phase = some .upset ∧ t.wsq.upsetMark = false)) ∧
    (∀ d, s.wsq.phase = some .boost → followsMark s = true → s.flash.boostDone = some d → (s.sched.boostDist : Int) ≤ d →
      completes .boostDistanceReached s fun t =>
        (s.paused = false → upset t) ∧ (s.paused = true → t.wsq.phase = some .upset ∧ t.wsq.upsetMark = false)) ∧
    (∀ own start, s.wsq.phase = some .upset → s.wsq.upsetMark = true → s.pcu.posOk = true →
      s.wsq.upsetStart = some start → start + s.sched.upsetCurDist ≤ s.pcu.plausPosition → s.ownClaim = some own →
      s.cdr.drive ≠ .blocked → s.wsq.abort = none → s.flash.offAwaited = false → s.paused = false →
      completes .upsetCurrentDistance s fun t =>
        t.wsq = { s.wsq with upsetMark := false } ∧ t.cdr.mode = .off ∧ t.cdr.drive = .blocked ∧
          t.sht.claims = s.sht.claims.filter (·.station ≠ s.node) ∧ sameBase s t ∧ t.flash = s.flash ∧ t.tru = s.tru ∧
          t.orq.queue = s.orq.queue ∧ t.wrs.slots = s.wrs.slots) ∧
    (∀ start, s.wsq.phase = some .upset → due s.wsq.upsetTimer = true → s.paused = false → s.wsq.upsetStart = some start →
      completes .upsetTimeExpiry s fun t =>
        t.wsq.phase = some .hold ∧ t.wsq.upsetDistance = some (s.pcu.plausPosition - start) ∧
          t.wsq.upsetPeak = some s.pcu.highForce ∧ t.wsq.upsetTimer = none ∧ t.wsq.upsetMark = false ∧
          t.wsq.holdTimer = some (s.sched.holdS * 1000) ∧ t.wsq.active.holdForce = s.sched.holdForce ∧
          files s t .upset ((.upsetTimeout, .quality) :: upsetFaults s (s.pcu.plausPosition - start)) ∧
          windowOpened s t ∧ (s.wsq.barred = true → s.flash.offAwaited = false → t.pcu.mode = .hold) ∧
          (s.wsq.barred = false →
            t.pcu.mode = .force (min (s.sched.holdForce + s.pcu.forceBasis) s.loc.platenMaxKn) s.loc.moveSpeed) ∧
          sameBase s t)

/-- R17, R22, R29, R30, R48, R98, R105, R106, R173: the platen holds for the pull before the end of HOLD; the hold time ends HOLD,
and the cooling time COOL, at CLEAR while the station is stopped or held; the pull at HOLD end of a CLOSURE weld outside its
band files STRESS_DEVIATION (the band compared unrounded: the model's inference, assumption log 11); CLOSING completes the
record with its outcome and writes it; the write's end makes its slot VALID if GOOD and VALID_HELD otherwise, and ends the
order, with both sets neutral again. -/
def Obligations.HoldCoolAndClose : Prop :=
  ∀ s : State, s.inReset = false →
    (∀ n, s.wsq.phase = some .hold → s.wsq.pullRequested = false → s.paused = false → s.wsq.holdTimer = some n →
      n ≤ s.loc.pullSettleMs →
      completes .pullSettlePoint s fun t =>
        t.wsq = { s.wsq with pullRequested := true } ∧ (s.motionHeld = false → s.wsq.barred = false → t.pcu.mode = .hold) ∧
          (s.motionHeld = true ∨ s.wsq.barred = true → t.pcu = s.pcu) ∧ sameBase s t ∧ t.cdr = s.cdr ∧ t.tru = s.tru ∧
          t.flash = s.flash ∧ t.stl = s.stl ∧ t.sht = s.sht ∧ t.lkc = s.lkc ∧ t.orq = s.orq ∧ t.wrs = s.wrs) ∧
    (s.motionHeld = true → s.paused = false →
      (due s.wsq.holdTimer = true → exec .holdTimeExpiry s = .next { s with wsq.holdTimer := none, wsq.expired := true }) ∧
      (due s.wsq.coolTimer = true → exec .coolingTimeExpiry s = .next { s with wsq.coolTimer := none, wsq.expired := true })) ∧
    (s.motionHeld = false → s.paused = false → due s.wsq.holdTimer = true →
      completes .holdTimeExpiry s fun t =>
        t.wsq.holdTimer = none ∧ sameBase s t ∧ t.cdr = s.cdr ∧ t.sht = s.sht ∧ t.lkc = s.lkc ∧ t.orq = s.orq ∧
          t.stl = s.stl ∧
          (s.wsq.kind = .closure → s.pcu.tripped = false → t.pcu.pullAtHoldEnd = some s.pcu.force) ∧
          (s.wsq.kind = .join ∨ s.pcu.tripped = true → t.pcu.pullAtHoldEnd = s.pcu.pullAtHoldEnd) ∧
          (∀ target, s.wsq.phase = some .hold → s.pcu.pullTarget = some target →
            let off := 100 * (s.pcu.force - target).natAbs
            let width := max (target * s.loc.pullTolPct) (100 * s.loc.pullMinBand)
            files s t .hold
              (if s.wsq.kind = .closure ∧ s.pcu.tripped = false ∧ width < off then [(.stressDeviation, .quality)] else [])) ∧
          (s.wsq.abort = none → s.sched.trimEnable ≠ 0 → s.tru.result = none → s.tru.state = .retracted →
            s.tru.window.isSome = true →
            t.wsq.phase = some .trim ∧
              t.tru = { s.tru with
                windowKept := s.tru.window, window := none, startWaiting := false, state := .advancing, valve := .advance
                strokeTimer := some s.loc.trimStrokeMs }) ∧
          (s.wsq.abort.isSome = true ∨ s.sched.trimEnable = 0 → s.sched.coolS ≠ 0 →
            t.wsq.phase = some .cool ∧ t.wsq.coolTimer = some (s.sched.coolS * 1000) ∧ t.wsq.coolAt = some s.now ∧
              t.tru = s.tru)) ∧
    (∀ w, s.motionHeld = false → s.paused = false → due s.wsq.coolTimer = true → s.wrs.working = some w →
      completes .coolingTimeExpiry s fun t =>
        t.wsq.phase = some .closing ∧ t.wsq.coolTimer = none ∧ t.pcu.driftWatch = false ∧
          t.wsq.coolingDone = s.wsq.coolAt.map (fun c => (s.now - c) / 1000) ∧ t.wrs.writeTimer = some 50 ∧
          t.wrs.writing.map (·.outcome) =
            some (match s.wsq.abort with
              | some a => if a.phase = .preheat ∨ a.phase = .flash ∨ a.phase = .boost then .incomplete else .reject
              | none =>
                if w.quality = false ∧
                    (s.tru.result = some .done ∨ (s.tru.result = some .skipped ∧ s.sched.trimEnable = 0)) then .good
                else .reject) ∧
          t.wrs.slots = s.wrs.slots ∧ sameBase s t ∧ t.cdr = s.cdr ∧ t.tru = s.tru ∧ t.sht = s.sht ∧ t.lkc = s.lkc) ∧
    (∀ r i, s.wrs.writing = some r → reservedSlot s.wrs = some i →
      completes .recordWriteComplete s fun t =>
        t.wrs = { s.wrs with
          slots := s.wrs.slots.set i (if r.outcome = .good then .valid r else .held r)
          newest := i
          marker := none
          writing := none
          writeTimer := none
          working := none } ∧ sameBase s t ∧ t.cdr = s.cdr ∧ t.sht = s.sht ∧ t.tru = s.tru ∧ t.stl = s.stl ∧
        (s.wsq.phase = some .closing →
          t.wsq.phase = none ∧ t.wsq.station = (if s.motionHeld then s.wsq.station else .clamped) ∧
            t.wsq.pendingSet = ⟨100, 0, 0, 0⟩ ∧ t.wsq.inForce = ⟨100, 0, 0, 0⟩ ∧ t.wsq.switchPending = false ∧
            ∀ o, executing s = some o →
              outgoing t =
                outgoing s ++ [⟨.notice, o.src, doneBody o.tag o.kind.code r.outcome r.cause (some r.weldNo), .doneNotice⟩]) ∧
        (s.wsq.phase ≠ some .closing → t.wsq = s.wsq ∧ t.pcu = s.pcu ∧ t.orq = s.orq ∧ t.lkc = s.lkc))

/-- R28, R99, R100, R101, R102: at TRIM entry a trimmer in FAULT makes the start wait for its return switch, and a result LATE ends
TRIM at once; the trim window's end with no stroke, also while the start waits, is LATE, with TRIM_LATE filed; the stroke goes
to the end switch, dwells, and returns; its return is DONE, or FAILED after a stroke timeout, which files TRIM_FAIL once in a
weld; a timeout of the return leaves the trimmer in FAULT until its switch. (That the switch is taken in DORMANT too: the model's
choice, assumption log 33.) -/
def Obligations.TrimmerEvents : Prop :=
  ∀ s : State, s.inReset = false →
    let fails := if s.tru.failFiled then [] else [(FaultCode.trimFail, Severity.quality)]
    (s.tru.state = .advancing → s.tru.stopped = false →
      exec .endSwitchMade s = .next
        { s with tru.strokeTimer := none, tru.valve := .hold, tru.state := .atEnd, tru.dwell := some 200 }) ∧
    (s.tru.state = .atEnd → due s.tru.dwell = true →
      exec .dwellEnd s = .next
        { s with
          tru.state := .returning, tru.valve := .return, tru.dwell := none, tru.strokeTimer := some s.loc.trimStrokeMs }) ∧
    (s.tru.state = .fault → s.tru.startWaiting = false →
      exec .returnSwitchMade s = .next { s with tru.state := .retracted, tru.stopped := false }) ∧
    (s.tru.state = .fault → s.tru.startWaiting = true →
      exec .returnSwitchMade s = .next
        { s with
          tru := { s.tru with
            state := .advancing, valve := .advance, strokeTimer := some s.loc.trimStrokeMs, stopped := false
            windowKept := s.tru.window, window := none, startWaiting := false } }) ∧
    (s.motionHeld = false → s.paused = false → due s.wsq.holdTimer = true → s.wsq.abort = none → s.sched.trimEnable ≠ 0 →
      completes .holdTimeExpiry s fun t =>
        (s.tru.state = .fault → s.tru.window.isSome = true → s.tru.result = none →
          t.wsq.phase = some .trim ∧ t.tru = { s.tru with startWaiting := true }) ∧
        (s.tru.result = some .late → s.sched.coolS ≠ 0 →
          t.wsq.phase = some .cool ∧ t.wsq.coolTimer = some (s.sched.coolS * 1000) ∧ t.tru = s.tru)) ∧
    (s.tru.state = .returning → s.tru.stopped = false →
      completes .returnSwitchMade s fun t =>
        t.tru = { s.tru with
          state := .retracted, strokeTimer := none, result := some (if s.tru.failFiled then .failed else .done) } ∧
        (s.wsq.phase ≠ some .trim → t.wsq = s.wsq ∧ t.wrs = s.wrs ∧ t.pcu = s.pcu) ∧
        (s.wsq.phase = some .trim → s.sched.coolS ≠ 0 →
          t.wsq.phase = some .cool ∧ t.wsq.coolTimer = some (s.sched.coolS * 1000)) ∧
        sameBase s t ∧ t.cdr = s.cdr ∧ t.sht = s.sht ∧ t.lkc = s.lkc ∧ t.orq = s.orq ∧ t.stl = s.stl) ∧
    (due s.tru.strokeTimer = true → s.tru.state = .advancing →
      completes .trimStrokeTimerExpiry s fun t =>
        t.tru = { s.tru with
          state := .returning, valve := .return, dwell := none, strokeTimer := some s.loc.trimStrokeMs, failFiled := true } ∧
        (s.tru.failFiled = true → t.wrs = s.wrs ∧ t.wsq = s.wsq) ∧
        (∀ p, s.wsq.phase = some p → p ≠ .closing → files s t p fails ∧ (s.wrs.working.isSome = true → t.wsq = s.wsq)) ∧
        (s.wsq.phase = none → s.tru.failFiled = false → t.wsq = { s.wsq with lastFault := .fault .trimFail }) ∧
        sameBase s t ∧ t.cdr = s.cdr ∧ t.pcu = s.pcu ∧ t.sht = s.sht ∧ t.lkc = s.lkc) ∧
    (due s.tru.strokeTimer = true → s.tru.state = .returning →
      completes .trimStrokeTimerExpiry s fun t =>
        t.tru = { s.tru with
          state := .fault, valve := .return, strokeTimer := none, failFiled := true, result := some .failed } ∧
        (∀ p, s.wsq.phase = some p → p ≠ .closing → files s t p fails) ∧
        (s.wsq.phase = some .trim → s.sched.coolS ≠ 0 → t.wsq.phase = some .cool) ∧
        sameBase s t ∧ t.cdr = s.cdr ∧ t.sht = s.sht ∧ t.lkc = s.lkc) ∧
    (due s.tru.window = true →
      completes .trimWindowExpiry s fun t =>
        t.tru = { s.tru with window := none, startWaiting := false, result := some .late } ∧
        (∀ p, s.wsq.phase = some p → p ≠ .closing → files s t p [(.trimLate, .quality)]) ∧
        (s.wsq.phase = some .trim → s.sched.coolS ≠ 0 → t.wsq.phase = some .cool) ∧
        sameBase s t ∧ t.cdr = s.cdr ∧ t.sht = s.sht ∧ t.lkc = s.lkc)

/-! ### The drive -/

/-- R51, R57, R58, R61, R62, R63, R67, R69: a trip cuts a conducting pulse into its off-time; the comparison begins at the end of
the blanking interval; an off-time ends in a new pulse; the window's end closes the half-cycle. An overcurrent locks the
pulses out, counts, and is filed; the second of a weld starts the abort path. A BLANKING_END takes in the samples it brings, up
to 32 of a half-cycle, for the largest current, the mean voltage and the energy, also where no blanking interval runs or no
current is read (that it brings samples: the model's choice, assumption log 4). -/
def Obligations.PulseEvents : Prop :=
  ∀ s : State, s.inReset = false →
    (∀ (l : List DriveSample) (c : CycleSums),
      (l.foldl CycleSums.add c).energy = c.energy + (l.map fun d => d.voltage * d.current).sum ∧
        (l.foldl CycleSums.add c).maxCurrent = (l.map (·.current.natAbs)).foldl max c.maxCurrent ∧
        (l.foldl CycleSums.add c).voltageSum = c.voltageSum + ((l.filter (·.conducting)).map (·.voltage.natAbs)).sum ∧
        (l.foldl CycleSums.add c).voltageCount = c.voltageCount + (l.filter (·.conducting)).length) ∧
    (s.cdr.pulse = .conducting → exec .pulseTrip s = .next { s with cdr.pulse := .offTime }) ∧
    (∀ (amps : Nat) (l : List DriveSample),
      let new := l.take (32 - s.cdr.sampled)
      let taken : State :=
        if s.cdr.drive = .running ∧ s.cdr.half ≠ .boundary then
          { s with cdr.sums := new.foldl CycleSums.add s.cdr.sums, cdr.sampled := s.cdr.sampled + new.length }
        else s
      (∀ trip, s.cdr.pulse = .blanking → s.cdr.applied = some trip →
        exec (.blankingEnd ⟨some amps, l⟩) s =
          .next { taken with cdr.pulse := if trip ≤ amps then .offTime else .conducting }) ∧
      (s.cdr.pulse ≠ .blanking → exec (.blankingEnd ⟨some amps, l⟩) s = .next taken) ∧
      exec (.blankingEnd ⟨none, l⟩) s = .next taken) ∧
    (s.cdr.pulse = .offTime →
      exec .offTimeEnd s = .next { s with cdr.pulse := if s.loc.blankPct = 0 then .conducting else .blanking }) ∧
    (s.cdr.pulse ≠ .none → exec .conductionWindowEnd s = .next { s with cdr.pulse := .closed }) ∧
    (∀ w p, s.cdr.drive = .running → s.cdr.lockout = false → s.wrs.working = some w → w.record.faults.length < 6 →
      s.wsq.phase = some p → p ≠ .closing → s.cdr.overcurrentCount = 0 →
      exec .overcurrent s = .next
        { s with
          cdr.pulse := .none
          cdr.lockout := true
          cdr.whole := false
          cdr.overcurrentCount := 1
          wrs.working := some { w with
            record := { w.record with
              faults := w.record.faults ++ [⟨.overcurrent, .info, p, s.now - w.openedAt⟩] } } }) ∧
    (∀ p, s.cdr.drive = .running → s.cdr.lockout = false → 1 ≤ s.cdr.overcurrentCount → s.wsq.phase = some p →
      p ∈ [WeldPhase.preheat, .flash, .boost] → s.wsq.abort = none → s.wsq.ending = none →
      completes .overcurrent s fun t =>
        t.cdr.pulse = .none ∧ t.cdr.overcurrentCount = s.cdr.overcurrentCount + 1 ∧
          t.wsq.abort.map (fun a => (a.cause, a.phase)) = some (.overcurrent, p) ∧ sameBase s t)

/-- R51, R52, R53, R54, R56, R57, R59, R60, R67, R69, R70: a half-cycle's end takes in the rest of its 32 samples and begins the
other one's pulse, or a waiting OFF takes effect with the energy so far, at the end of the negative half-cycle after the complete
cycle has moved the flux correction; at the boundary the energy goes to the totals and the time
RUNNING to the tallies of the modes it was divided among, a complete cycle moves the flux correction by one step toward balance, and the next cycle is
driven while the run conditions hold, with the next step of an unfinished trip ramp. (That HALF_CYCLE_END brings the samples not
yet taken in and any beyond 32 are ignored, and how the events of a boundary follow each other: the model's choices, assumption
logs 4 and 9. Energy as sums of samples: the model's inference, assumption log 12.) -/
def Obligations.CarrierCycles : Prop :=
  ∀ s : State, s.inReset = false → s.cdr.mode ≠ .off →
    (∀ samples n, s.cdr.half = .positive → s.cdr.drive = .running →
      completes (.halfCycleEnd samples n) s fun t =>
        let c := (samples.take (32 - s.cdr.sampled)).foldl CycleSums.add s.cdr.sums
        (s.cdr.offPending = false →
          t.cdr = { s.cdr with
            sums := { c with posIntegral := n }
            sampled := 0
            half := .negative
            pulse := if s.cdr.lockout then .none else if s.loc.blankPct = 0 then .conducting else .blanking } ∧
          t.wsq = s.wsq ∧ t.pcu = s.pcu ∧ t.wrs = s.wrs ∧ t.lkc = s.lkc) ∧
        (s.cdr.offPending = true →
          t.cdr.mode = .off ∧ t.cdr.drive = .blocked ∧ t.cdr.offPending = false ∧ cycleAdded s.cdr t.cdr c) ∧
        sameBase s t) ∧
    (∀ samples n, s.cdr.half = .negative → s.cdr.offPending = false →
      completes (.halfCycleEnd samples n) s fun t =>
        t.cdr.half = .boundary ∧ t.cdr.pulse = .none ∧ t.cdr.drive = s.cdr.drive ∧ t.cdr.mode = s.cdr.mode ∧
          (s.cdr.drive = .running →
            t.cdr.sums =
              { (samples.take (32 - s.cdr.sampled)).foldl CycleSums.add s.cdr.sums with negIntegral := n }) ∧
          t.wsq = s.wsq ∧ t.pcu = s.pcu ∧ t.wrs = s.wrs ∧ t.lkc = s.lkc ∧ sameBase s t) ∧
    (∀ samples n, s.cdr.half = .negative → s.cdr.offPending = true → s.cdr.drive = .running →
      completes (.halfCycleEnd samples n) s fun t =>
        let c := (samples.take (32 - s.cdr.sampled)).foldl CycleSums.add s.cdr.sums
        t.cdr.mode = .off ∧ t.cdr.drive = .blocked ∧ t.cdr.offPending = false ∧ t.cdr.half = .positive ∧
          t.cdr.pulse = .none ∧
          t.cdr.flux =
            (if s.cdr.whole = false then s.cdr.flux
            else if n < s.cdr.sums.posIntegral then min (s.cdr.flux + 1) 16
            else if s.cdr.sums.posIntegral < n then max (s.cdr.flux - 1) (-16)
            else s.cdr.flux) ∧
          cycleAdded s.cdr t.cdr c ∧ sameBase s t) ∧
    (s.cdr.half = .boundary → s.cdr.drive = .ready → s.cdr.whole = false → s.stl.pause ≠ .resuming →
      completes .carrierCycleEnd s fun t =>
        t.cdr.half = .positive ∧ t.cdr.drive = (if s.runConditions then .running else .ready) ∧
          t.cdr.whole = s.runConditions ∧ t.cdr.mode = s.cdr.mode ∧ t.cdr.flux = s.cdr.flux ∧
          t.cdr.energy = s.cdr.energy ∧ t.cdr.tally = s.cdr.tally ∧ t.cdr.sums = .zero ∧ t.cdr.sampled = 0 ∧
          (s.runConditions = false ∨ s.cdr.ramp = none → t.cdr.applied = s.cdr.applied ∧ t.cdr.ramp = s.cdr.ramp) ∧
          (∀ r target, s.runConditions = true → s.cdr.ramp = some r → s.cdr.tripTarget = some target →
            (r.cycles ≤ r.step + 1 → t.cdr.applied = some target ∧ t.cdr.ramp = none) ∧
              (r.step + 1 < r.cycles →
                t.cdr.applied =
                    some ((2 * ((r.start : Int) * r.cycles + (target - r.start) * (r.step + 1)) + r.cycles) /
                      (2 * r.cycles)).toNat ∧
                  t.cdr.ramp = some { r with step := r.step + 1 })) ∧
          (s.runConditions = false → t.cdr.pulse = .none) ∧
          (s.runConditions = true → t.cdr.pulse = if s.loc.blankPct = 0 then .conducting else .blanking) ∧
          t.wsq = s.wsq ∧ t.pcu = s.pcu ∧ t.wrs = s.wrs ∧ t.lkc = s.lkc ∧ t.sht = s.sht ∧ t.stl = s.stl ∧ sameBase s t) ∧
    (s.cdr.half = .boundary → s.cdr.drive = .running →
      completes .carrierCycleEnd s fun t =>
        let c := s.cdr.sums
        t.cdr.flux =
            (if s.cdr.whole = false then s.cdr.flux
            else if c.negIntegral < c.posIntegral then min (s.cdr.flux + 1) 16
            else if c.posIntegral < c.negIntegral then max (s.cdr.flux - 1) (-16)
            else s.cdr.flux) ∧
          cycleAdded s.cdr t.cdr c ∧ sameBase s t)

/-- R63 to R68, R82 to R84, R90: what the end of a complete carrier cycle reports. A SHORT after the needed count of short
cycles is counted, lengthens the streak, and draws the platen back by a retract step (not while HELD), or is FLASH_FREEZE past
the streak limit; an open run that reaches its count is OPEN to flash control in FLASH and BOOST, and NO_CONTACT in the other
modes; contact regained ends the open boost; the 50th cycle at the flux bound is FLUX_IMBALANCE, once in a weld. A cycle that
was complete when the drive left RUNNING at this very boundary is evaluated too. (That no sample was taken while a pulse
conducted leaves the voltage open: assumption log 3; the order of two reports of one cycle: assumption log 9.) -/
def Obligations.CompleteCycleReports : Prop :=
  ∀ s : State, s.inReset = false → s.cdr.mode ≠ .off → s.cdr.half = .boundary → s.cdr.whole = true →
    s.cdr.sums.voltageCount ≠ 0 → s.stl.pause ≠ .resuming →
    let c := s.cdr.sums
    let short := s.sched.shortKa ≤ c.maxCurrent ∧ c.voltageSum ≤ s.sched.shortV * c.voltageCount
    let isOpen := ¬short ∧ c.maxCurrent < s.loc.contactKa
    let flashing := s.cdr.mode = .flash ∨ s.cdr.mode = .boost
    let needed := max 1 ((s.sched.shortDeglitchMs * s.cdr.carrierHz + 999) / 1000)
    let shortRun := if flashing ∧ short then s.cdr.shortRun + 1 else 0
    let shortEvent := needed ≤ shortRun
    let openRun := if isOpen then s.cdr.openRun + 1 else 0
    let openEvent := isOpen ∧ openRun = s.sched.openCycles
    let regained := ¬isOpen ∧ s.cdr.openReported = true
    let flux :=
      if c.negIntegral < c.posIntegral then min (s.cdr.flux + 1) 16
      else if c.posIntegral < c.negIntegral then max (s.cdr.flux - 1) (-16) else s.cdr.flux
    let bound := if flux = 16 ∨ flux = -16 then s.cdr.boundCount + 1 else 0
    let imbalance := 50 ≤ bound ∧ s.cdr.fluxReported = false
    let acts := s.wsq.abort = none ∧ (s.wsq.phase = some .flash ∨ s.wsq.phase = some .boost) ∧
      (s.flash.feed = some .feeding ∨ s.flash.feed = some .stepping ∨ s.flash.feed = some .held)
    let aborts (t : State) (code : FaultCode) (p : WeldPhase) :=
      t.wsq.abort.map (fun a => (a.cause, a.phase)) = some (code, p)
    completes .carrierCycleEnd s fun t =>
      t.cdr.shortRun = (if shortEvent then 0 else shortRun) ∧ t.cdr.openRun = openRun ∧
        (t.cdr.openReported = true ↔ isOpen ∧ (s.cdr.openReported = true ∨ openEvent)) ∧
        t.cdr.flux = flux ∧ t.cdr.boundCount = bound ∧
        (t.cdr.fluxReported = true ↔ s.cdr.fluxReported = true ∨ imbalance) ∧ sameBase s t ∧
        (shortEvent → acts → ¬imbalance → s.flash.streak + 1 ≤ s.sched.streakLimit → s.stl.stop = .run →
          t.flash.shortCount = (if s.flash.shortCount < 65535 then s.flash.shortCount + 1 else s.flash.shortCount) ∧
            t.flash.streak = s.flash.streak + 1 ∧ t.flash.streakTimer = some s.sched.streakResetMs ∧ t.wsq = s.wsq ∧
            (s.flash.feed = some .held → t.flash.feed = some .held ∧ t.pcu = s.pcu) ∧
            (s.flash.feed ≠ some .held →
              t.flash.feed = some .stepping ∧ t.pcu.moveTimer = some s.loc.moveTimeoutMs ∧
                t.pcu.mode = .retract (clampInt 0 s.loc.strokeFwd (s.pcu.position - s.sched.retractStep)))) ∧
        (∀ p, shortEvent → acts → s.wsq.phase = some p → s.wsq.ending = none → s.sched.streakLimit < s.flash.streak + 1 →
          aborts t .flashFreeze p) ∧
        (openEvent → flashing → acts → ¬imbalance →
          t.flash = { s.flash with openMark := true, lostTimer := some s.sched.flashLostMs } ∧ t.wsq = s.wsq ∧
            t.pcu = s.pcu) ∧
        (∀ p, openEvent → ¬flashing → s.wsq.phase = some p → p = .preheat ∨ p = .upset → s.wsq.abort = none →
          s.wsq.ending = none → aborts t .noContact p) ∧
        (regained → ¬shortEvent → acts → s.flash.openMark = true → ¬imbalance →
          t.flash = { s.flash with openMark := false, lostTimer := none } ∧ t.wsq = s.wsq ∧ t.pcu = s.pcu) ∧
        (∀ p, imbalance → ¬shortEvent → ¬openEvent → s.wsq.phase = some p →
          p ∈ [WeldPhase.preheat, .flash, .boost, .upset] → s.wsq.abort = none → s.wsq.ending = none →
          aborts t .fluxImbalance p) ∧
        (¬shortEvent → ¬openEvent → ¬regained → ¬imbalance → t.wsq = s.wsq ∧ t.flash = s.flash ∧ t.pcu = s.pcu)

/-! ### Stops and pauses -/

/-- R5, R7, R35, R55, R69, R108, R109, R111, R118, R122: an assertion from RUN or HELD enters ACTIVE at once: every output holds,
the drive is blocked with its energy so far in the total, the station is STOPPED with its state kept to return to, a weld's
abort path starts with E_STOP (in CHECK, TOUCH and CLAIM_WAIT its ending waits for CLEAR, the claim withdrawn at once), an
executing CLAMP or UNCLAMP ends FAILED with E_STOP and its movement is marked stopped, and a STOP notice goes out (last: the
model's choice, assumption log 14). A release must last 20 ms to give HELD. (In the reset state only the input's level is
taken: assumption log 7. That the trimmer valve holds in LOADING, UNCONFIGURED and LISTENING too: the model's choice, assumption
log 31. The cap of an energy total as a sum of samples: assumption log 12.) -/
def Obligations.EmergencyStop : Prop :=
  ∀ (back : Bool) (s : State),
    (s.inReset = false → s.stl.stop ≠ .active →
      completes (.eStopAsserted back) s fun t =>
        t.stl.input = true ∧ t.stl.stop = .active ∧ t.stl.debounce = none ∧ t.paused = false ∧ t.pcu.mode = .hold ∧
          t.pcu.clampValve = .hold ∧ t.tru.valve = .hold ∧ t.cdr.drive = .blocked ∧ t.pcu.shoe = none ∧
          t.pcu.clamp = s.pcu.clamp ∧ t.node = s.node ∧
          t.settings = s.settings ∧ t.now = s.now ∧ t.pending = s.pending ∧
          (s.configured = true → s.wsq.station ≠ .listening →
            t.wsq.station = .stopped ∧ (s.wsq.station = .faultHold → t.wsq.returnFault = true)) ∧
          (s.wsq.station ∈ [StationState.idle, .recover, .dormant, .waking, .clamped, .clamping, .unclamping] →
            s.wsq.phase = none → t.wsq.returnState = some s.wsq.station) ∧
          (s.pcu.clamp = some .closing ∨ s.pcu.clamp = some .opening →
            t.pcu.stopped = true ∧ t.pcu.clampTimer = none) ∧
          (∀ o, s.wsq.station = .clamping ∨ s.wsq.station = .unclamping → s.wsq.abort = none → executing s = some o →
            outgoing t =
              outgoing s ++
                [⟨.notice, o.src, doneBody o.tag o.kind.code .failed (.fault .eStop) none, .doneNotice⟩,
                  ⟨.notice, 15, stopBody .active .stopped s.wsq.phase s.aborting, .notice⟩]) ∧
          (∀ p, s.wsq.station = .welding → s.wsq.phase = some p → p ≠ .closing → s.wsq.abort = none →
            s.wsq.ending = none →
            t.wsq.abort.map (fun a => (a.cause, a.phase)) = some (.eStop, p) ∧ t.wsq.phase = some p ∧
              (p ∈ [WeldPhase.check, .touch, .claimWait] → t.wsq.ending = some ⟨.fault .eStop, false, false⟩) ∧
              (p ∈ [WeldPhase.check, .touch, .claimWait] → s.wrs.working = none → t.wsq.lastFault = .fault .eStop) ∧
              (p ∈ [WeldPhase.claimWait, .preheat, .flash, .boost] →
                t.sht.claims = s.sht.claims.filter (·.station ≠ s.node))) ∧
          (s.cdr.drive = .running → cycleAdded s.cdr t.cdr s.cdr.sums) ∧
          (s.wsq.station ≠ .loading →
            TxFrame.mk .notice 15 (stopBody .active t.wsq.station t.wsq.phase t.aborting) .notice ∈ outgoing t)) ∧
    (s.inReset = false → s.stl.stop = .active →
      exec (.eStopAsserted back) s = .next { s with stl.input := true, stl.debounce := none } ∧
        exec .eStopDeasserted s = .next { s with stl.input := false, stl.debounce := some 20 }) ∧
    (s.inReset = true → exec (.eStopAsserted back) s = .next { s with stl.input := true }) ∧
    (s.inReset = true ∨ s.stl.stop ≠ .active → exec .eStopDeasserted s = .next { s with stl.input := false }) ∧
    (s.inReset = false → s.stl.stop = .active → due s.stl.debounce = true →
      completes .releaseDebounceExpiry s fun t =>
        t.stl = { s.stl with stop := .held, debounce := none } ∧
          outgoing t =
            outgoing s ++
              (if s.wsq.station = .loading then []
              else [⟨.notice, 15, stopBody .held s.wsq.station s.wsq.phase s.aborting, .notice⟩]) ∧
          sameBase s t ∧ sameLink s t ∧ sameHead s t ∧ t.wsq = s.wsq ∧ t.sht = s.sht ∧ t.orq = s.orq ∧ t.wrs = s.wrs)

/-- R69, R71, R72, R90, R91, R112 to R116: a sample below sag_v begins a SAG with its deglitch; recovery needs sag_v again before
the deglitch ends and sag_v + sag_hyst_v after; the deglitch's end counts the sag and pauses a station that draws, unless it
is stopped or held: the energy so far goes to its total, and a feed or a retract step is HELD. RESUMING ends at the next
carrier-cycle boundary, where the drive returns to RUNNING and a HELD feed makes its resume retract. ACTIVE and FAULT_HOLD
end a pause by the latest sample. The pause timer's end is SUPPLY_LOST, which starts the abort path, and ends the pause of a
station that does not draw, or stops drawing by that path. (The cap of an energy total as a sum of samples: assumption log
12.) -/
def Obligations.SupplySag : Prop :=
  ∀ s : State, s.inReset = false →
    let up (n : Nat) := if n < 65535 then n + 1 else n
    (∀ v, s.configured = true → s.wsq.station ≠ .dormant →
      (s.stl.pause = .normal →
        exec (.busVoltageSample v) s = .next
          { s with
            stl.volts := v
            stl.pause := if v < s.loc.sagV then .sag else .normal
            stl.deglitch := if v < s.loc.sagV then some s.loc.sagMs else s.stl.deglitch }) ∧
      (s.stl.pause = .sag → s.stl.deglitched = false →
        exec (.busVoltageSample v) s = .next
          { s with
            stl.volts := v
            stl.pause := if v < s.loc.sagV then .sag else .normal
            stl.deglitch := if v < s.loc.sagV then s.stl.deglitch else none }) ∧
      (s.stl.pause = .sag → s.stl.deglitched = true →
        exec (.busVoltageSample v) s = .next
          { s with
            stl.volts := v
            stl.pause := if s.loc.sagV + s.loc.sagHystV ≤ v then .normal else .sag
            stl.deglitched := !decide (s.loc.sagV + s.loc.sagHystV ≤ v) }) ∧
      (s.stl.pause = .paused → s.cdr.mode ≠ .off →
        exec (.busVoltageSample v) s = .next
          { s with stl.volts := v, stl.pause := if s.loc.sagV + s.loc.sagHystV ≤ v then .resuming else .paused }) ∧
      (s.stl.pause = .paused → s.cdr.mode = .off → s.loc.sagV + s.loc.sagHystV ≤ v →
        completes (.busVoltageSample v) s fun t =>
          t.stl = { s.stl with volts := v, pause := .normal, pauseTimer := none, lostReported := false } ∧
            t.wsq = s.wsq ∧ t.cdr = s.cdr ∧ t.lkc = s.lkc ∧ t.sht = s.sht ∧ t.wrs = s.wrs ∧ sameBase s t) ∧
      (s.stl.pause = .resuming →
        exec (.busVoltageSample v) s = .next
          { s with stl.volts := v, stl.pause := if v < s.loc.sagV then .paused else .resuming })) ∧
    (due s.stl.deglitch = true → s.drawing = false ∨ s.motionHeld = true →
      exec .sagDeglitchExpiry s = .next
        { s with stl.sagCount := up s.stl.sagCount, stl.deglitch := none, stl.deglitched := true }) ∧
    (due s.stl.deglitch = true → s.drawing = true → s.motionHeld = false →
      completes .sagDeglitchExpiry s fun t =>
        t.stl.pause = .paused ∧ t.stl.deglitched = false ∧ t.stl.deglitch = none ∧ t.stl.sagCount = up s.stl.sagCount ∧
          t.stl.pauseCount = up s.stl.pauseCount ∧ t.stl.pauseTimer = some s.loc.pauseMaxMs ∧
          t.cdr.drive ≠ .running ∧ t.wsq.station = s.wsq.station ∧ sameBase s t ∧ t.sht.peers = s.sht.peers ∧
          (s.cdr.drive = .running → cycleAdded s.cdr t.cdr s.cdr.sums) ∧
          (s.wsq.abort = none → s.flash.offAwaited = false →
            (s.flash.feed = some .feeding ∨ s.flash.feed = some .stepping →
              t.flash = { s.flash with feed := some .held } ∧ t.pcu.mode = .hold) ∧
              (s.flash.feed ≠ some .feeding → s.flash.feed ≠ some .stepping → t.flash = s.flash))) ∧
    (s.stl.pause = .resuming → s.cdr.mode ≠ .off → s.cdr.half = .boundary → s.cdr.drive = .ready → s.cdr.whole = false →
      completes .carrierCycleEnd s fun t =>
        let runs := s.drawing = true ∧ s.stl.stop = .run ∧ s.pcu.clamp = some .closed
        t.stl = { s.stl with pause := .normal, pauseTimer := none, lostReported := false } ∧
          (runs → t.cdr.drive = .running ∧ t.cdr.half = .positive ∧ t.cdr.whole = true) ∧
          (¬runs → t.cdr.drive = .ready) ∧
          (s.flash.feed = some .held → s.wsq.abort = none → s.motionHeld = false → s.stl.stop = .run →
            t.flash = { s.flash with feed := some .stepping } ∧
              t.pcu.mode = .retract (clampInt 0 s.loc.strokeFwd (s.pcu.position - s.sched.retractStep))) ∧
          (s.flash.feed ≠ some .held → t.flash = s.flash ∧ t.pcu = s.pcu) ∧
          t.wsq = s.wsq ∧ t.lkc = s.lkc ∧ t.sht = s.sht ∧ t.wrs = s.wrs ∧ sameBase s t) ∧
    (∀ back c, s.paused = true → s.configured = true → s.wsq.station ≠ .listening → s.wsq.station ≠ .dormant →
      (c = .eStopAsserted back ∧ s.stl.stop ≠ .active) ∨
        (c = .slipDetected ∧ s.pcu.slip = .armed ∧ s.pcu.clamp = some .closed ∧ s.loc.slipMs ≤ s.pcu.slipCount ∧
          s.wsq.station ≠ .faultHold) →
      completes c s fun t =>
        t.stl.pause = (if s.loc.sagV + s.loc.sagHystV ≤ s.stl.volts then .normal else .sag) ∧
          t.stl.deglitched = !decide (s.loc.sagV + s.loc.sagHystV ≤ s.stl.volts) ∧ t.stl.pauseTimer = none ∧
          t.stl.lostReported = false ∧ t.pcu.mode = .hold) ∧
    (s.paused = true → due s.stl.pauseTimer = true →
      completes .pauseTimerExpiry s fun t =>
        sameBase s t ∧
          (s.drawing = false → s.cdr.drive = .blocked → t.paused = false ∧ t.stl.pauseTimer = none ∧
            t.stl.lostReported = false ∧ t.stl.pause = (if s.loc.sagV + s.loc.sagHystV ≤ s.stl.volts then .normal else .sag)) ∧
          (∀ p, s.wsq.phase = some p → p ∈ [WeldPhase.preheat, .flash, .boost, .upset] → s.wsq.abort = none →
            s.wsq.ending = none → t.wsq.abort.map (fun a => (a.cause, a.phase)) = some (.supplyLost, p)) ∧
          (∀ p, s.wsq.phase = some p → p ∈ [WeldPhase.preheat, .flash, .boost] → s.wsq.abort = none →
            s.wsq.ending = none → s.drawing = true → s.cdr.drive = .ready → s.cdr.mode ≠ .off →
            t.paused = false ∧ t.sht.claims = s.sht.claims.filter (·.station ≠ s.node) ∧ t.cdr.drive = .blocked) ∧
          (s.wsq.phase = some .upset → s.wsq.abort = none → s.wsq.ending = none → s.motionHeld = false →
            t.wsq.upsetTimer = some s.sched.upsetTimeMs) ∧
          (s.wsq.phase = none → s.drawing = false → t.wsq = { s.wsq with lastFault := .fault .supplyLost }))
end

