-- ==== Sys2Proof/Laws/LinkFrame.lean ====
section
/-! SUPPORT. What each operation of Machine/Link.lean leaves as it was. -/

namespace Sys2Proof.Machine

@[simp] theorem armWait_frame (s : State) :
    (armWait s).inReset = s.inReset ∧ (armWait s).node = s.node ∧ (armWait s).settings = s.settings ∧
    (armWait s).now = s.now ∧ (armWait s).pending = s.pending ∧ (armWait s).free = s.free ∧ (armWait s).wsq = s.wsq ∧
    (armWait s).flash = s.flash ∧ (armWait s).cdr = s.cdr ∧ (armWait s).pcu = s.pcu ∧ (armWait s).tru = s.tru ∧
    (armWait s).stl = s.stl ∧ (armWait s).sht = s.sht ∧ (armWait s).orq = s.orq ∧ (armWait s).wrs = s.wrs := by
  refine ⟨?_, ?_, ?_, ?_, ?_, ?_, ?_, ?_, ?_, ?_, ?_, ?_, ?_, ?_, ?_⟩ <;>
    first | rfl | (unfold armWait; (repeat' split) <;> simp; done)

@[simp] theorem lineFree_frame (s : State) :
    (lineFree s).inReset = s.inReset ∧ (lineFree s).node = s.node ∧ (lineFree s).settings = s.settings ∧
    (lineFree s).now = s.now ∧ (lineFree s).pending = s.pending ∧ (lineFree s).free = s.free ∧
    (lineFree s).wsq = s.wsq ∧ (lineFree s).flash = s.flash ∧ (lineFree s).cdr = s.cdr ∧ (lineFree s).pcu = s.pcu ∧
    (lineFree s).tru = s.tru ∧ (lineFree s).stl = s.stl ∧ (lineFree s).sht = s.sht ∧ (lineFree s).orq = s.orq ∧
    (lineFree s).wrs = s.wrs := by
  refine ⟨?_, ?_, ?_, ?_, ?_, ?_, ?_, ?_, ?_, ?_, ?_, ?_, ?_, ?_, ?_⟩ <;>
    first | rfl | (unfold lineFree; (repeat' split) <;> simp; done)

@[simp] theorem startSettle_frame (s : State) :
    (startSettle s).inReset = s.inReset ∧ (startSettle s).node = s.node ∧ (startSettle s).settings = s.settings ∧
    (startSettle s).now = s.now ∧ (startSettle s).pending = s.pending ∧ (startSettle s).free = s.free ∧
    (startSettle s).wsq = s.wsq ∧ (startSettle s).flash = s.flash ∧ (startSettle s).cdr = s.cdr ∧
    (startSettle s).pcu = s.pcu ∧ (startSettle s).tru = s.tru ∧ (startSettle s).stl = s.stl ∧
    (startSettle s).lkc = s.lkc ∧ (startSettle s).orq = s.orq ∧ (startSettle s).wrs = s.wrs ∧
    (startSettle s).sht.clock = s.sht.clock ∧ (startSettle s).sht.claims = s.sht.claims ∧
    (startSettle s).sht.ownDigest = s.sht.ownDigest := by
  refine ⟨?_, ?_, ?_, ?_, ?_, ?_, ?_, ?_, ?_, ?_, ?_, ?_, ?_, ?_, ?_, ?_, ?_, ?_⟩ <;>
    first | rfl | (unfold startSettle; (repeat' split) <;> simp; done)

@[simp] theorem claimTransmitted_frame (number : Nat) (s : State) :
    (claimTransmitted number s).inReset = s.inReset ∧ (claimTransmitted number s).node = s.node ∧
    (claimTransmitted number s).settings = s.settings ∧ (claimTransmitted number s).now = s.now ∧
    (claimTransmitted number s).pending = s.pending ∧ (claimTransmitted number s).free = s.free ∧
    (claimTransmitted number s).wsq = s.wsq ∧ (claimTransmitted number s).flash = s.flash ∧
    (claimTransmitted number s).cdr = s.cdr ∧ (claimTransmitted number s).pcu = s.pcu ∧
    (claimTransmitted number s).tru = s.tru ∧ (claimTransmitted number s).stl = s.stl ∧
    (claimTransmitted number s).lkc = s.lkc ∧ (claimTransmitted number s).orq = s.orq ∧
    (claimTransmitted number s).wrs = s.wrs ∧ (claimTransmitted number s).sht.clock = s.sht.clock ∧
    (claimTransmitted number s).sht.claims = s.sht.claims ∧
    (claimTransmitted number s).sht.ownDigest = s.sht.ownDigest := by
  refine ⟨?_, ?_, ?_, ?_, ?_, ?_, ?_, ?_, ?_, ?_, ?_, ?_, ?_, ?_, ?_, ?_, ?_, ?_⟩ <;>
    first | rfl | (unfold claimTransmitted; (repeat' split) <;> simp; done)

@[simp] theorem claimDropped_frame (number : Nat) (s : State) :
    (claimDropped number s).inReset = s.inReset ∧ (claimDropped number s).node = s.node ∧
    (claimDropped number s).settings = s.settings ∧ (claimDropped number s).now = s.now ∧
    (claimDropped number s).pending = s.pending ∧ (claimDropped number s).free = s.free ∧
    (claimDropped number s).wsq = s.wsq ∧ (claimDropped number s).flash = s.flash ∧
    (claimDropped number s).cdr = s.cdr ∧ (claimDropped number s).pcu = s.pcu ∧ (claimDropped number s).tru = s.tru ∧
    (claimDropped number s).stl = s.stl ∧ (claimDropped number s).lkc = s.lkc ∧ (claimDropped number s).orq = s.orq ∧
    (claimDropped number s).wrs = s.wrs ∧ (claimDropped number s).sht.clock = s.sht.clock ∧
    (claimDropped number s).sht.claims = s.sht.claims ∧ (claimDropped number s).sht.ownDigest = s.sht.ownDigest := by
  refine ⟨?_, ?_, ?_, ?_, ?_, ?_, ?_, ?_, ?_, ?_, ?_, ?_, ?_, ?_, ?_, ?_, ?_, ?_⟩ <;>
    first | rfl | (unfold claimDropped; (repeat' split) <;> simp; done)

@[simp] theorem beaconTransmitted_frame (names : Option Nat) (s : State) :
    (beaconTransmitted names s).inReset = s.inReset ∧ (beaconTransmitted names s).node = s.node ∧
    (beaconTransmitted names s).settings = s.settings ∧ (beaconTransmitted names s).now = s.now ∧
    (beaconTransmitted names s).pending = s.pending ∧ (beaconTransmitted names s).free = s.free ∧
    (beaconTransmitted names s).wsq = s.wsq ∧ (beaconTransmitted names s).flash = s.flash ∧
    (beaconTransmitted names s).cdr = s.cdr ∧ (beaconTransmitted names s).pcu = s.pcu ∧
    (beaconTransmitted names s).tru = s.tru ∧ (beaconTransmitted names s).stl = s.stl ∧
    (beaconTransmitted names s).lkc = s.lkc ∧ (beaconTransmitted names s).orq = s.orq ∧
    (beaconTransmitted names s).wrs = s.wrs ∧ (beaconTransmitted names s).sht.clock = s.sht.clock ∧
    (beaconTransmitted names s).sht.claims = s.sht.claims ∧
    (beaconTransmitted names s).sht.ownDigest = s.sht.ownDigest := by
  refine ⟨?_, ?_, ?_, ?_, ?_, ?_, ?_, ?_, ?_, ?_, ?_, ?_, ?_, ?_, ?_, ?_, ?_, ?_⟩ <;>
    first | rfl | (unfold beaconTransmitted; (repeat' split) <;> simp; done)

@[simp] theorem recordReported_frame (part read : Nat) (s : State) :
    (recordReported part read s).inReset = s.inReset ∧ (recordReported part read s).node = s.node ∧
    (recordReported part read s).settings = s.settings ∧ (recordReported part read s).now = s.now ∧
    (recordReported part read s).pending = s.pending ∧ (recordReported part read s).free = s.free ∧
    (recordReported part read s).wsq = s.wsq ∧ (recordReported part read s).flash = s.flash ∧
    (recordReported part read s).cdr = s.cdr ∧ (recordReported part read s).pcu = s.pcu ∧
    (recordReported part read s).tru = s.tru ∧ (recordReported part read s).stl = s.stl ∧
    (recordReported part read s).sht = s.sht ∧ (recordReported part read s).lkc = s.lkc ∧
    (recordReported part read s).orq = s.orq ∧ (recordReported part read s).wrs.counter = s.wrs.counter ∧
    (recordReported part read s).wrs.slots = s.wrs.slots := by
  refine ⟨?_, ?_, ?_, ?_, ?_, ?_, ?_, ?_, ?_, ?_, ?_, ?_, ?_, ?_, ?_, ?_, ?_⟩ <;>
    first | rfl | (unfold recordReported; (repeat' split) <;> simp; done)

@[simp] theorem reportTransmitted_frame (p : Purpose) (s : State) :
    (reportTransmitted p s).inReset = s.inReset ∧ (reportTransmitted p s).node = s.node ∧
    (reportTransmitted p s).settings = s.settings ∧ (reportTransmitted p s).now = s.now ∧
    (reportTransmitted p s).pending = s.pending ∧ (reportTransmitted p s).free = s.free ∧
    (reportTransmitted p s).wsq = s.wsq ∧ (reportTransmitted p s).flash = s.flash ∧
    (reportTransmitted p s).cdr = s.cdr ∧ (reportTransmitted p s).pcu = s.pcu ∧ (reportTransmitted p s).tru = s.tru ∧
    (reportTransmitted p s).stl = s.stl ∧ (reportTransmitted p s).lkc = s.lkc ∧
    (reportTransmitted p s).sht.clock = s.sht.clock ∧ (reportTransmitted p s).sht.claims = s.sht.claims ∧
    (reportTransmitted p s).sht.ownDigest = s.sht.ownDigest ∧ (reportTransmitted p s).orq.queue = s.orq.queue ∧
    (reportTransmitted p s).orq.heldList = s.orq.heldList ∧ (reportTransmitted p s).orq.arrivals = s.orq.arrivals ∧
    (reportTransmitted p s).wrs.counter = s.wrs.counter ∧ (reportTransmitted p s).wrs.slots = s.wrs.slots := by
  refine ⟨?_, ?_, ?_, ?_, ?_, ?_, ?_, ?_, ?_, ?_, ?_, ?_, ?_, ?_, ?_, ?_, ?_, ?_, ?_, ?_, ?_⟩ <;>
    first | rfl | (unfold reportTransmitted; (repeat' split) <;> simp; done)

@[simp] theorem reportDropped_frame (p : Purpose) (s : State) :
    (reportDropped p s).inReset = s.inReset ∧ (reportDropped p s).node = s.node ∧
    (reportDropped p s).settings = s.settings ∧ (reportDropped p s).now = s.now ∧
    (reportDropped p s).pending = s.pending ∧ (reportDropped p s).free = s.free ∧ (reportDropped p s).wsq = s.wsq ∧
    (reportDropped p s).flash = s.flash ∧ (reportDropped p s).cdr = s.cdr ∧ (reportDropped p s).pcu = s.pcu ∧
    (reportDropped p s).tru = s.tru ∧ (reportDropped p s).stl = s.stl ∧ (reportDropped p s).lkc = s.lkc ∧
    (reportDropped p s).sht.clock = s.sht.clock ∧ (reportDropped p s).sht.claims = s.sht.claims ∧
    (reportDropped p s).sht.ownDigest = s.sht.ownDigest ∧ (reportDropped p s).orq.queue = s.orq.queue ∧
    (reportDropped p s).orq.heldList = s.orq.heldList ∧ (reportDropped p s).orq.arrivals = s.orq.arrivals ∧
    (reportDropped p s).wrs.counter = s.wrs.counter ∧ (reportDropped p s).wrs.slots = s.wrs.slots := by
  refine ⟨?_, ?_, ?_, ?_, ?_, ?_, ?_, ?_, ?_, ?_, ?_, ?_, ?_, ?_, ?_, ?_, ?_, ?_, ?_, ?_, ?_⟩ <;>
    first | rfl | (unfold reportDropped; (repeat' split) <;> simp; done)

@[simp] theorem placed_frame (p : Purpose) (s : State) :
    (placed p s).inReset = s.inReset ∧ (placed p s).node = s.node ∧ (placed p s).settings = s.settings ∧
    (placed p s).now = s.now ∧ (placed p s).pending = s.pending ∧ (placed p s).free = s.free ∧
    (placed p s).wsq = s.wsq ∧ (placed p s).flash = s.flash ∧ (placed p s).cdr = s.cdr ∧ (placed p s).pcu = s.pcu ∧
    (placed p s).tru = s.tru ∧ (placed p s).stl = s.stl ∧ (placed p s).sht = s.sht ∧ (placed p s).lkc = s.lkc ∧
    (placed p s).orq.heldList = s.orq.heldList ∧ (placed p s).orq.arrivals = s.orq.arrivals ∧
    (placed p s).wrs.counter = s.wrs.counter ∧ (placed p s).wrs.slots = s.wrs.slots := by
  refine ⟨?_, ?_, ?_, ?_, ?_, ?_, ?_, ?_, ?_, ?_, ?_, ?_, ?_, ?_, ?_, ?_, ?_, ?_⟩ <;>
    first | rfl | (unfold placed; (repeat' split) <;> simp; done)

@[simp] theorem sendOther_frame (f : TxFrame) (s : State) :
    (sendOther f s).inReset = s.inReset ∧ (sendOther f s).node = s.node ∧ (sendOther f s).settings = s.settings ∧
    (sendOther f s).now = s.now ∧ (sendOther f s).pending = s.pending ∧ (sendOther f s).free = s.free ∧
    (sendOther f s).wsq = s.wsq ∧ (sendOther f s).flash = s.flash ∧ (sendOther f s).cdr = s.cdr ∧
    (sendOther f s).pcu = s.pcu ∧ (sendOther f s).tru = s.tru ∧ (sendOther f s).stl = s.stl ∧
    (sendOther f s).sht = s.sht ∧ (sendOther f s).orq.heldList = s.orq.heldList ∧
    (sendOther f s).orq.arrivals = s.orq.arrivals ∧ (sendOther f s).wrs.counter = s.wrs.counter ∧
    (sendOther f s).wrs.slots = s.wrs.slots := by
  refine ⟨?_, ?_, ?_, ?_, ?_, ?_, ?_, ?_, ?_, ?_, ?_, ?_, ?_, ?_, ?_, ?_, ?_⟩ <;>
    first | rfl | (unfold sendOther; (repeat' split) <;> simp; done)

@[simp] theorem sendShare_frame (f : TxFrame) (s : State) :
    (sendShare f s).inReset = s.inReset ∧ (sendShare f s).node = s.node ∧ (sendShare f s).settings = s.settings ∧
    (sendShare f s).now = s.now ∧ (sendShare f s).pending = s.pending ∧ (sendShare f s).free = s.free ∧
    (sendShare f s).wsq = s.wsq ∧ (sendShare f s).flash = s.flash ∧ (sendShare f s).cdr = s.cdr ∧
    (sendShare f s).pcu = s.pcu ∧ (sendShare f s).tru = s.tru ∧ (sendShare f s).stl = s.stl ∧
    (sendShare f s).sht.clock = s.sht.clock ∧ (sendShare f s).sht.claims = s.sht.claims ∧
    (sendShare f s).sht.ownDigest = s.sht.ownDigest ∧ (sendShare f s).orq.queue = s.orq.queue ∧
    (sendShare f s).orq.heldList = s.orq.heldList ∧ (sendShare f s).orq.arrivals = s.orq.arrivals ∧
    (sendShare f s).wrs.counter = s.wrs.counter ∧ (sendShare f s).wrs.slots = s.wrs.slots := by
  refine ⟨?_, ?_, ?_, ?_, ?_, ?_, ?_, ?_, ?_, ?_, ?_, ?_, ?_, ?_, ?_, ?_, ?_, ?_, ?_, ?_⟩ <;>
    first | rfl | (unfold sendShare; (repeat' split) <;> simp; done)

@[simp] theorem queueBeacon_frame (s : State) :
    (queueBeacon s).inReset = s.inReset ∧ (queueBeacon s).node = s.node ∧ (queueBeacon s).settings = s.settings ∧
    (queueBeacon s).now = s.now ∧ (queueBeacon s).pending = s.pending ∧ (queueBeacon s).free = s.free ∧
    (queueBeacon s).wsq = s.wsq ∧ (queueBeacon s).flash = s.flash ∧ (queueBeacon s).cdr = s.cdr ∧
    (queueBeacon s).pcu = s.pcu ∧ (queueBeacon s).tru = s.tru ∧ (queueBeacon s).stl = s.stl ∧
    (queueBeacon s).sht.clock = s.sht.clock ∧ (queueBeacon s).sht.claims = s.sht.claims ∧
    (queueBeacon s).sht.ownDigest = s.sht.ownDigest ∧ (queueBeacon s).orq.queue = s.orq.queue ∧
    (queueBeacon s).orq.heldList = s.orq.heldList ∧ (queueBeacon s).orq.arrivals = s.orq.arrivals ∧
    (queueBeacon s).wrs.counter = s.wrs.counter ∧ (queueBeacon s).wrs.slots = s.wrs.slots := by
  refine ⟨?_, ?_, ?_, ?_, ?_, ?_, ?_, ?_, ?_, ?_, ?_, ?_, ?_, ?_, ?_, ?_, ?_, ?_, ?_, ?_⟩ <;>
    first | rfl | (unfold queueBeacon; (repeat' split) <;> simp; done)

@[simp] theorem sendAnswer_frame (dest code tag result : Nat) (reason : Reason) (data : List Byte) (p : Purpose) (s : State) :
    (sendAnswer dest code tag result reason data p s).inReset = s.inReset ∧
    (sendAnswer dest code tag result reason data p s).node = s.node ∧
    (sendAnswer dest code tag result reason data p s).settings = s.settings ∧
    (sendAnswer dest code tag result reason data p s).now = s.now ∧
    (sendAnswer dest code tag result reason data p s).pending = s.pending ∧
    (sendAnswer dest code tag result reason data p s).free = s.free ∧
    (sendAnswer dest code tag result reason data p s).wsq = s.wsq ∧
    (sendAnswer dest code tag result reason data p s).flash = s.flash ∧
    (sendAnswer dest code tag result reason data p s).cdr = s.cdr ∧
    (sendAnswer dest code tag result reason data p s).pcu = s.pcu ∧
    (sendAnswer dest code tag result reason data p s).tru = s.tru ∧
    (sendAnswer dest code tag result reason data p s).stl = s.stl ∧
    (sendAnswer dest code tag result reason data p s).sht = s.sht ∧
    (sendAnswer dest code tag result reason data p s).orq.heldList = s.orq.heldList ∧
    (sendAnswer dest code tag result reason data p s).orq.arrivals = s.orq.arrivals ∧
    (sendAnswer dest code tag result reason data p s).wrs.counter = s.wrs.counter ∧
    (sendAnswer dest code tag result reason data p s).wrs.slots = s.wrs.slots := by
  refine ⟨?_, ?_, ?_, ?_, ?_, ?_, ?_, ?_, ?_, ?_, ?_, ?_, ?_, ?_, ?_, ?_, ?_⟩ <;>
    first | rfl | (unfold sendAnswer; (repeat' split) <;> simp; done)

@[simp] theorem refuse_frame (dest code tag : Nat) (reason : Reason) (s : State) :
    (refuse dest code tag reason s).inReset = s.inReset ∧ (refuse dest code tag reason s).node = s.node ∧
    (refuse dest code tag reason s).settings = s.settings ∧ (refuse dest code tag reason s).now = s.now ∧
    (refuse dest code tag reason s).pending = s.pending ∧ (refuse dest code tag reason s).free = s.free ∧
    (refuse dest code tag reason s).wsq = s.wsq ∧ (refuse dest code tag reason s).flash = s.flash ∧
    (refuse dest code tag reason s).cdr = s.cdr ∧ (refuse dest code tag reason s).pcu = s.pcu ∧
    (refuse dest code tag reason s).tru = s.tru ∧ (refuse dest code tag reason s).stl = s.stl ∧
    (refuse dest code tag reason s).sht = s.sht ∧ (refuse dest code tag reason s).orq.heldList = s.orq.heldList ∧
    (refuse dest code tag reason s).orq.arrivals = s.orq.arrivals ∧
    (refuse dest code tag reason s).wrs.counter = s.wrs.counter ∧
    (refuse dest code tag reason s).wrs.slots = s.wrs.slots := by
  refine ⟨?_, ?_, ?_, ?_, ?_, ?_, ?_, ?_, ?_, ?_, ?_, ?_, ?_, ?_, ?_, ?_, ?_⟩ <;>
    first | rfl | (unfold refuse; (repeat' split) <;> simp; done)

@[simp] theorem accept_frame (dest code tag : Nat) (s : State) :
    (accept dest code tag s).inReset = s.inReset ∧ (accept dest code tag s).node = s.node ∧
    (accept dest code tag s).settings = s.settings ∧ (accept dest code tag s).now = s.now ∧
    (accept dest code tag s).pending = s.pending ∧ (accept dest code tag s).free = s.free ∧
    (accept dest code tag s).wsq = s.wsq ∧ (accept dest code tag s).flash = s.flash ∧
    (accept dest code tag s).cdr = s.cdr ∧ (accept dest code tag s).pcu = s.pcu ∧
    (accept dest code tag s).tru = s.tru ∧ (accept dest code tag s).stl = s.stl ∧
    (accept dest code tag s).sht = s.sht ∧ (accept dest code tag s).orq.heldList = s.orq.heldList ∧
    (accept dest code tag s).orq.arrivals = s.orq.arrivals ∧ (accept dest code tag s).wrs.counter = s.wrs.counter ∧
    (accept dest code tag s).wrs.slots = s.wrs.slots := by
  refine ⟨?_, ?_, ?_, ?_, ?_, ?_, ?_, ?_, ?_, ?_, ?_, ?_, ?_, ?_, ?_, ?_, ?_⟩ <;>
    first | rfl | (unfold accept; (repeat' split) <;> simp; done)

@[simp] theorem stopNotice_frame (s : State) :
    (stopNotice s).inReset = s.inReset ∧ (stopNotice s).node = s.node ∧ (stopNotice s).settings = s.settings ∧
    (stopNotice s).now = s.now ∧ (stopNotice s).pending = s.pending ∧ (stopNotice s).free = s.free ∧
    (stopNotice s).wsq = s.wsq ∧ (stopNotice s).flash = s.flash ∧ (stopNotice s).cdr = s.cdr ∧
    (stopNotice s).pcu = s.pcu ∧ (stopNotice s).tru = s.tru ∧ (stopNotice s).stl = s.stl ∧
    (stopNotice s).sht = s.sht ∧ (stopNotice s).orq.heldList = s.orq.heldList ∧
    (stopNotice s).orq.arrivals = s.orq.arrivals ∧ (stopNotice s).wrs.counter = s.wrs.counter ∧
    (stopNotice s).wrs.slots = s.wrs.slots := by
  refine ⟨?_, ?_, ?_, ?_, ?_, ?_, ?_, ?_, ?_, ?_, ?_, ?_, ?_, ?_, ?_, ?_, ?_⟩ <;>
    first | rfl | (unfold stopNotice; (repeat' split) <;> simp; done)

end Sys2Proof.Machine
end

