-- ==== Sys2Proof/Laws/StoreFrame.lean ====
section
/-! SUPPORT. What each operation of Machine/Store.lean leaves as it was. -/

namespace Sys2Proof.Machine

@[simp] theorem weldNumberUpdate_frame (phase : WeldPhase) (s : State) :
    (weldNumberUpdate phase s).inReset = s.inReset ∧ (weldNumberUpdate phase s).node = s.node ∧
    (weldNumberUpdate phase s).settings = s.settings ∧ (weldNumberUpdate phase s).now = s.now ∧
    (weldNumberUpdate phase s).pending = s.pending ∧ (weldNumberUpdate phase s).free = s.free ∧
    (weldNumberUpdate phase s).flash = s.flash ∧ (weldNumberUpdate phase s).cdr = s.cdr ∧
    (weldNumberUpdate phase s).pcu = s.pcu ∧ (weldNumberUpdate phase s).tru = s.tru ∧
    (weldNumberUpdate phase s).stl = s.stl ∧ (weldNumberUpdate phase s).sht = s.sht ∧
    (weldNumberUpdate phase s).lkc = s.lkc ∧ (weldNumberUpdate phase s).orq = s.orq ∧
    (weldNumberUpdate phase s).wsq.station = s.wsq.station ∧ (weldNumberUpdate phase s).wsq.phase = s.wsq.phase ∧
    (weldNumberUpdate phase s).wsq.isolated = s.wsq.isolated := by
  refine ⟨?_, ?_, ?_, ?_, ?_, ?_, ?_, ?_, ?_, ?_, ?_, ?_, ?_, ?_, ?_, ?_, ?_⟩ <;>
    first | rfl | (unfold weldNumberUpdate; (repeat' split) <;> simp; done)

@[simp] theorem rewriteMarker_frame (phase : WeldPhase) (s : State) :
    (rewriteMarker phase s).inReset = s.inReset ∧ (rewriteMarker phase s).node = s.node ∧
    (rewriteMarker phase s).settings = s.settings ∧ (rewriteMarker phase s).now = s.now ∧
    (rewriteMarker phase s).pending = s.pending ∧ (rewriteMarker phase s).free = s.free ∧
    (rewriteMarker phase s).wsq = s.wsq ∧ (rewriteMarker phase s).flash = s.flash ∧
    (rewriteMarker phase s).cdr = s.cdr ∧ (rewriteMarker phase s).pcu = s.pcu ∧ (rewriteMarker phase s).tru = s.tru ∧
    (rewriteMarker phase s).stl = s.stl ∧ (rewriteMarker phase s).sht = s.sht ∧ (rewriteMarker phase s).lkc = s.lkc ∧
    (rewriteMarker phase s).orq = s.orq ∧ (rewriteMarker phase s).wrs.counter = s.wrs.counter ∧
    (rewriteMarker phase s).wrs.slots = s.wrs.slots := by
  refine ⟨?_, ?_, ?_, ?_, ?_, ?_, ?_, ?_, ?_, ?_, ?_, ?_, ?_, ?_, ?_, ?_, ?_⟩ <;>
    first | rfl | (unfold rewriteMarker; (repeat' split) <;> simp; done)

@[simp] theorem onRecord_frame (f : WeldRecord → WeldRecord) (s : State) :
    (onRecord f s).inReset = s.inReset ∧ (onRecord f s).node = s.node ∧ (onRecord f s).settings = s.settings ∧
    (onRecord f s).now = s.now ∧ (onRecord f s).pending = s.pending ∧ (onRecord f s).free = s.free ∧
    (onRecord f s).wsq = s.wsq ∧ (onRecord f s).flash = s.flash ∧ (onRecord f s).cdr = s.cdr ∧
    (onRecord f s).pcu = s.pcu ∧ (onRecord f s).tru = s.tru ∧ (onRecord f s).stl = s.stl ∧
    (onRecord f s).sht = s.sht ∧ (onRecord f s).lkc = s.lkc ∧ (onRecord f s).orq = s.orq ∧
    (onRecord f s).wrs.counter = s.wrs.counter ∧ (onRecord f s).wrs.slots = s.wrs.slots := by
  refine ⟨?_, ?_, ?_, ?_, ?_, ?_, ?_, ?_, ?_, ?_, ?_, ?_, ?_, ?_, ?_, ?_, ?_⟩ <;>
    first | rfl | (unfold onRecord; (repeat' split) <;> simp; done)

@[simp] theorem fileEntry_frame (code : FaultCode) (severity : Severity) (phase : WeldPhase) (s : State) :
    (fileEntry code severity phase s).inReset = s.inReset ∧ (fileEntry code severity phase s).node = s.node ∧
    (fileEntry code severity phase s).settings = s.settings ∧ (fileEntry code severity phase s).now = s.now ∧
    (fileEntry code severity phase s).pending = s.pending ∧ (fileEntry code severity phase s).free = s.free ∧
    (fileEntry code severity phase s).wsq = s.wsq ∧ (fileEntry code severity phase s).flash = s.flash ∧
    (fileEntry code severity phase s).cdr = s.cdr ∧ (fileEntry code severity phase s).pcu = s.pcu ∧
    (fileEntry code severity phase s).tru = s.tru ∧ (fileEntry code severity phase s).stl = s.stl ∧
    (fileEntry code severity phase s).sht = s.sht ∧ (fileEntry code severity phase s).lkc = s.lkc ∧
    (fileEntry code severity phase s).orq = s.orq ∧ (fileEntry code severity phase s).wrs.counter = s.wrs.counter ∧
    (fileEntry code severity phase s).wrs.slots = s.wrs.slots := by
  refine ⟨?_, ?_, ?_, ?_, ?_, ?_, ?_, ?_, ?_, ?_, ?_, ?_, ?_, ?_, ?_, ?_, ?_⟩ <;>
    first | rfl | (unfold fileEntry; (repeat' split) <;> simp; done)

@[simp] theorem startWrite_frame (r : WeldRecord) (s : State) :
    (startWrite r s).inReset = s.inReset ∧ (startWrite r s).node = s.node ∧ (startWrite r s).settings = s.settings ∧
    (startWrite r s).now = s.now ∧ (startWrite r s).pending = s.pending ∧ (startWrite r s).free = s.free ∧
    (startWrite r s).wsq = s.wsq ∧ (startWrite r s).flash = s.flash ∧ (startWrite r s).cdr = s.cdr ∧
    (startWrite r s).pcu = s.pcu ∧ (startWrite r s).tru = s.tru ∧ (startWrite r s).stl = s.stl ∧
    (startWrite r s).sht = s.sht ∧ (startWrite r s).lkc = s.lkc ∧ (startWrite r s).orq = s.orq ∧
    (startWrite r s).wrs.counter = s.wrs.counter ∧ (startWrite r s).wrs.slots = s.wrs.slots := by
  refine ⟨?_, ?_, ?_, ?_, ?_, ?_, ?_, ?_, ?_, ?_, ?_, ?_, ?_, ?_, ?_, ?_, ?_⟩ <;>
    first | rfl | (unfold startWrite; (repeat' split) <;> simp; done)

@[simp] theorem settleMarker_frame (s : State) :
    (settleMarker s).inReset = s.inReset ∧ (settleMarker s).node = s.node ∧ (settleMarker s).settings = s.settings ∧
    (settleMarker s).now = s.now ∧ (settleMarker s).pending = s.pending ∧ (settleMarker s).free = s.free ∧
    (settleMarker s).wsq = s.wsq ∧ (settleMarker s).flash = s.flash ∧ (settleMarker s).cdr = s.cdr ∧
    (settleMarker s).pcu = s.pcu ∧ (settleMarker s).tru = s.tru ∧ (settleMarker s).stl = s.stl ∧
    (settleMarker s).sht = s.sht ∧ (settleMarker s).lkc = s.lkc ∧ (settleMarker s).orq = s.orq ∧
    (settleMarker s).wrs.counter = s.wrs.counter ∧ (settleMarker s).wrs.slots = s.wrs.slots := by
  refine ⟨?_, ?_, ?_, ?_, ?_, ?_, ?_, ?_, ?_, ?_, ?_, ?_, ?_, ?_, ?_, ?_, ?_⟩ <;>
    first | rfl | (unfold settleMarker; (repeat' split) <;> simp; done)

@[simp] theorem completeWrite_frame (r : WeldRecord) (s : State) :
    (completeWrite r s).inReset = s.inReset ∧ (completeWrite r s).node = s.node ∧
    (completeWrite r s).settings = s.settings ∧ (completeWrite r s).now = s.now ∧
    (completeWrite r s).pending = s.pending ∧ (completeWrite r s).free = s.free ∧ (completeWrite r s).wsq = s.wsq ∧
    (completeWrite r s).flash = s.flash ∧ (completeWrite r s).cdr = s.cdr ∧ (completeWrite r s).pcu = s.pcu ∧
    (completeWrite r s).tru = s.tru ∧ (completeWrite r s).stl = s.stl ∧ (completeWrite r s).sht = s.sht ∧
    (completeWrite r s).lkc = s.lkc ∧ (completeWrite r s).orq = s.orq ∧
    (completeWrite r s).wrs.counter = s.wrs.counter := by
  refine ⟨?_, ?_, ?_, ?_, ?_, ?_, ?_, ?_, ?_, ?_, ?_, ?_, ?_, ?_, ?_, ?_⟩ <;>
    first | rfl | (unfold completeWrite; (repeat' split) <;> simp; done)

@[simp] theorem releaseHeld_frame (weldNo : Nat) (s : State) :
    (releaseHeld weldNo s).inReset = s.inReset ∧ (releaseHeld weldNo s).node = s.node ∧
    (releaseHeld weldNo s).settings = s.settings ∧ (releaseHeld weldNo s).now = s.now ∧
    (releaseHeld weldNo s).pending = s.pending ∧ (releaseHeld weldNo s).free = s.free ∧
    (releaseHeld weldNo s).wsq = s.wsq ∧ (releaseHeld weldNo s).flash = s.flash ∧ (releaseHeld weldNo s).cdr = s.cdr ∧
    (releaseHeld weldNo s).pcu = s.pcu ∧ (releaseHeld weldNo s).tru = s.tru ∧ (releaseHeld weldNo s).stl = s.stl ∧
    (releaseHeld weldNo s).sht = s.sht ∧ (releaseHeld weldNo s).lkc = s.lkc ∧ (releaseHeld weldNo s).orq = s.orq ∧
    (releaseHeld weldNo s).wrs.counter = s.wrs.counter := by
  refine ⟨?_, ?_, ?_, ?_, ?_, ?_, ?_, ?_, ?_, ?_, ?_, ?_, ?_, ?_, ?_, ?_⟩ <;>
    first | rfl | (unfold releaseHeld; (repeat' split) <;> simp; done)

end Sys2Proof.Machine
end

