-- ==== Sys2Proof/Laws/PlatenFrame.lean ====
section
/-! SUPPORT. What each operation of Machine/Platen.lean leaves as it was. -/

namespace Sys2Proof.Machine

@[simp] theorem platenMode_frame (m : PlatenMode) (s : State) :
    (platenMode m s).inReset = s.inReset ∧ (platenMode m s).node = s.node ∧ (platenMode m s).settings = s.settings ∧
    (platenMode m s).now = s.now ∧ (platenMode m s).pending = s.pending ∧ (platenMode m s).free = s.free ∧
    (platenMode m s).wsq = s.wsq ∧ (platenMode m s).flash = s.flash ∧ (platenMode m s).cdr = s.cdr ∧
    (platenMode m s).tru = s.tru ∧ (platenMode m s).stl = s.stl ∧ (platenMode m s).sht = s.sht ∧
    (platenMode m s).lkc = s.lkc ∧ (platenMode m s).orq = s.orq ∧ (platenMode m s).wrs = s.wrs ∧
    (platenMode m s).pcu.clamp = s.pcu.clamp := by
  refine ⟨?_, ?_, ?_, ?_, ?_, ?_, ?_, ?_, ?_, ?_, ?_, ?_, ?_, ?_, ?_, ?_⟩ <;>
    first | rfl | (unfold platenMode; (repeat' split) <;> simp; done)

@[simp] theorem platenHold_frame (s : State) :
    (platenHold s).inReset = s.inReset ∧ (platenHold s).node = s.node ∧ (platenHold s).settings = s.settings ∧
    (platenHold s).now = s.now ∧ (platenHold s).pending = s.pending ∧ (platenHold s).free = s.free ∧
    (platenHold s).wsq = s.wsq ∧ (platenHold s).flash = s.flash ∧ (platenHold s).cdr = s.cdr ∧
    (platenHold s).tru = s.tru ∧ (platenHold s).stl = s.stl ∧ (platenHold s).sht = s.sht ∧
    (platenHold s).lkc = s.lkc ∧ (platenHold s).orq = s.orq ∧ (platenHold s).wrs = s.wrs ∧
    (platenHold s).pcu.clamp = s.pcu.clamp := by
  refine ⟨?_, ?_, ?_, ?_, ?_, ?_, ?_, ?_, ?_, ?_, ?_, ?_, ?_, ?_, ?_, ?_⟩ <;>
    first | rfl | (unfold platenHold; (repeat' split) <;> simp; done)

@[simp] theorem platenMove_frame (m : PlatenMode) (s : State) :
    (platenMove m s).inReset = s.inReset ∧ (platenMove m s).node = s.node ∧ (platenMove m s).settings = s.settings ∧
    (platenMove m s).now = s.now ∧ (platenMove m s).pending = s.pending ∧ (platenMove m s).free = s.free ∧
    (platenMove m s).wsq = s.wsq ∧ (platenMove m s).flash = s.flash ∧ (platenMove m s).cdr = s.cdr ∧
    (platenMove m s).tru = s.tru ∧ (platenMove m s).stl = s.stl ∧ (platenMove m s).sht = s.sht ∧
    (platenMove m s).lkc = s.lkc ∧ (platenMove m s).orq = s.orq ∧ (platenMove m s).wrs = s.wrs ∧
    (platenMove m s).pcu.clamp = s.pcu.clamp := by
  refine ⟨?_, ?_, ?_, ?_, ?_, ?_, ?_, ?_, ?_, ?_, ?_, ?_, ?_, ?_, ?_, ?_⟩ <;>
    first | rfl | (unfold platenMove; (repeat' split) <;> simp; done)

@[simp] theorem platenPosition_frame (target : Int) (s : State) :
    (platenPosition target s).inReset = s.inReset ∧ (platenPosition target s).node = s.node ∧
    (platenPosition target s).settings = s.settings ∧ (platenPosition target s).now = s.now ∧
    (platenPosition target s).pending = s.pending ∧ (platenPosition target s).free = s.free ∧
    (platenPosition target s).wsq = s.wsq ∧ (platenPosition target s).flash = s.flash ∧
    (platenPosition target s).cdr = s.cdr ∧ (platenPosition target s).tru = s.tru ∧
    (platenPosition target s).stl = s.stl ∧ (platenPosition target s).sht = s.sht ∧
    (platenPosition target s).lkc = s.lkc ∧ (platenPosition target s).orq = s.orq ∧
    (platenPosition target s).wrs = s.wrs ∧ (platenPosition target s).pcu.clamp = s.pcu.clamp := by
  refine ⟨?_, ?_, ?_, ?_, ?_, ?_, ?_, ?_, ?_, ?_, ?_, ?_, ?_, ?_, ?_, ?_⟩ <;>
    first | rfl | (unfold platenPosition; (repeat' split) <;> simp; done)

@[simp] theorem platenRetract_frame (distance : Nat) (s : State) :
    (platenRetract distance s).inReset = s.inReset ∧ (platenRetract distance s).node = s.node ∧
    (platenRetract distance s).settings = s.settings ∧ (platenRetract distance s).now = s.now ∧
    (platenRetract distance s).pending = s.pending ∧ (platenRetract distance s).free = s.free ∧
    (platenRetract distance s).wsq = s.wsq ∧ (platenRetract distance s).flash = s.flash ∧
    (platenRetract distance s).cdr = s.cdr ∧ (platenRetract distance s).tru = s.tru ∧
    (platenRetract distance s).stl = s.stl ∧ (platenRetract distance s).sht = s.sht ∧
    (platenRetract distance s).lkc = s.lkc ∧ (platenRetract distance s).orq = s.orq ∧
    (platenRetract distance s).wrs = s.wrs ∧ (platenRetract distance s).pcu.clamp = s.pcu.clamp := by
  refine ⟨?_, ?_, ?_, ?_, ?_, ?_, ?_, ?_, ?_, ?_, ?_, ?_, ?_, ?_, ?_, ?_⟩ <;>
    first | rfl | (unfold platenRetract; (repeat' split) <;> simp; done)

@[simp] theorem platenSpeed_frame (v : Int) (s : State) :
    (platenSpeed v s).inReset = s.inReset ∧ (platenSpeed v s).node = s.node ∧
    (platenSpeed v s).settings = s.settings ∧ (platenSpeed v s).now = s.now ∧ (platenSpeed v s).pending = s.pending ∧
    (platenSpeed v s).free = s.free ∧ (platenSpeed v s).wsq = s.wsq ∧ (platenSpeed v s).flash = s.flash ∧
    (platenSpeed v s).cdr = s.cdr ∧ (platenSpeed v s).tru = s.tru ∧ (platenSpeed v s).stl = s.stl ∧
    (platenSpeed v s).sht = s.sht ∧ (platenSpeed v s).lkc = s.lkc ∧ (platenSpeed v s).orq = s.orq ∧
    (platenSpeed v s).wrs = s.wrs ∧ (platenSpeed v s).pcu.clamp = s.pcu.clamp := by
  refine ⟨?_, ?_, ?_, ?_, ?_, ?_, ?_, ?_, ?_, ?_, ?_, ?_, ?_, ?_, ?_, ?_⟩ <;>
    first | rfl | (unfold platenSpeed; (repeat' split) <;> simp; done)

@[simp] theorem platenForce_frame (target limit : Nat) (s : State) :
    (platenForce target limit s).inReset = s.inReset ∧ (platenForce target limit s).node = s.node ∧
    (platenForce target limit s).settings = s.settings ∧ (platenForce target limit s).now = s.now ∧
    (platenForce target limit s).pending = s.pending ∧ (platenForce target limit s).free = s.free ∧
    (platenForce target limit s).wsq = s.wsq ∧ (platenForce target limit s).flash = s.flash ∧
    (platenForce target limit s).cdr = s.cdr ∧ (platenForce target limit s).tru = s.tru ∧
    (platenForce target limit s).stl = s.stl ∧ (platenForce target limit s).sht = s.sht ∧
    (platenForce target limit s).lkc = s.lkc ∧ (platenForce target limit s).orq = s.orq ∧
    (platenForce target limit s).wrs = s.wrs ∧ (platenForce target limit s).pcu.clamp = s.pcu.clamp := by
  refine ⟨?_, ?_, ?_, ?_, ?_, ?_, ?_, ?_, ?_, ?_, ?_, ?_, ?_, ?_, ?_, ?_⟩ <;>
    first | rfl | (unfold platenForce; (repeat' split) <;> simp; done)

@[simp] theorem platenForceAgain_frame (target limit : Nat) (s : State) :
    (platenForceAgain target limit s).inReset = s.inReset ∧ (platenForceAgain target limit s).node = s.node ∧
    (platenForceAgain target limit s).settings = s.settings ∧ (platenForceAgain target limit s).now = s.now ∧
    (platenForceAgain target limit s).pending = s.pending ∧ (platenForceAgain target limit s).free = s.free ∧
    (platenForceAgain target limit s).wsq = s.wsq ∧ (platenForceAgain target limit s).flash = s.flash ∧
    (platenForceAgain target limit s).cdr = s.cdr ∧ (platenForceAgain target limit s).tru = s.tru ∧
    (platenForceAgain target limit s).stl = s.stl ∧ (platenForceAgain target limit s).sht = s.sht ∧
    (platenForceAgain target limit s).lkc = s.lkc ∧ (platenForceAgain target limit s).orq = s.orq ∧
    (platenForceAgain target limit s).wrs = s.wrs ∧ (platenForceAgain target limit s).pcu.clamp = s.pcu.clamp := by
  refine ⟨?_, ?_, ?_, ?_, ?_, ?_, ?_, ?_, ?_, ?_, ?_, ?_, ?_, ?_, ?_, ?_⟩ <;>
    first | rfl | (unfold platenForceAgain; (repeat' split) <;> simp; done)

@[simp] theorem startContactMove_frame (m : ContactMove) (s : State) :
    (startContactMove m s).inReset = s.inReset ∧ (startContactMove m s).node = s.node ∧
    (startContactMove m s).settings = s.settings ∧ (startContactMove m s).now = s.now ∧
    (startContactMove m s).pending = s.pending ∧ (startContactMove m s).free = s.free ∧
    (startContactMove m s).wsq = s.wsq ∧ (startContactMove m s).flash = s.flash ∧ (startContactMove m s).cdr = s.cdr ∧
    (startContactMove m s).tru = s.tru ∧ (startContactMove m s).stl = s.stl ∧ (startContactMove m s).sht = s.sht ∧
    (startContactMove m s).lkc = s.lkc ∧ (startContactMove m s).orq = s.orq ∧ (startContactMove m s).wrs = s.wrs ∧
    (startContactMove m s).pcu.clamp = s.pcu.clamp := by
  refine ⟨?_, ?_, ?_, ?_, ?_, ?_, ?_, ?_, ?_, ?_, ?_, ?_, ?_, ?_, ?_, ?_⟩ <;>
    first | rfl | (unfold startContactMove; (repeat' split) <;> simp; done)

@[simp] theorem startShoes_frame (s : State) :
    (startShoes s).inReset = s.inReset ∧ (startShoes s).node = s.node ∧ (startShoes s).settings = s.settings ∧
    (startShoes s).now = s.now ∧ (startShoes s).pending = s.pending ∧ (startShoes s).free = s.free ∧
    (startShoes s).wsq = s.wsq ∧ (startShoes s).flash = s.flash ∧ (startShoes s).cdr = s.cdr ∧
    (startShoes s).tru = s.tru ∧ (startShoes s).stl = s.stl ∧ (startShoes s).sht = s.sht ∧
    (startShoes s).lkc = s.lkc ∧ (startShoes s).orq = s.orq ∧ (startShoes s).wrs = s.wrs ∧
    (startShoes s).pcu.clamp = s.pcu.clamp := by
  refine ⟨?_, ?_, ?_, ?_, ?_, ?_, ?_, ?_, ?_, ?_, ?_, ?_, ?_, ?_, ?_, ?_⟩ <;>
    first | rfl | (unfold startShoes; (repeat' split) <;> simp; done)

@[simp] theorem stopShoes_frame (s : State) :
    (stopShoes s).inReset = s.inReset ∧ (stopShoes s).node = s.node ∧ (stopShoes s).settings = s.settings ∧
    (stopShoes s).now = s.now ∧ (stopShoes s).pending = s.pending ∧ (stopShoes s).free = s.free ∧
    (stopShoes s).wsq = s.wsq ∧ (stopShoes s).flash = s.flash ∧ (stopShoes s).cdr = s.cdr ∧
    (stopShoes s).tru = s.tru ∧ (stopShoes s).stl = s.stl ∧ (stopShoes s).sht = s.sht ∧ (stopShoes s).lkc = s.lkc ∧
    (stopShoes s).orq = s.orq ∧ (stopShoes s).wrs = s.wrs ∧ (stopShoes s).pcu.clamp = s.pcu.clamp := by
  refine ⟨?_, ?_, ?_, ?_, ?_, ?_, ?_, ?_, ?_, ?_, ?_, ?_, ?_, ?_, ?_, ?_⟩ <;>
    first | rfl | (unfold stopShoes; (repeat' split) <;> simp; done)

@[simp] theorem armSlip_frame (s : State) :
    (armSlip s).inReset = s.inReset ∧ (armSlip s).node = s.node ∧ (armSlip s).settings = s.settings ∧
    (armSlip s).now = s.now ∧ (armSlip s).pending = s.pending ∧ (armSlip s).free = s.free ∧ (armSlip s).wsq = s.wsq ∧
    (armSlip s).flash = s.flash ∧ (armSlip s).cdr = s.cdr ∧ (armSlip s).tru = s.tru ∧ (armSlip s).stl = s.stl ∧
    (armSlip s).sht = s.sht ∧ (armSlip s).lkc = s.lkc ∧ (armSlip s).orq = s.orq ∧ (armSlip s).wrs = s.wrs ∧
    (armSlip s).pcu.clamp = s.pcu.clamp := by
  refine ⟨?_, ?_, ?_, ?_, ?_, ?_, ?_, ?_, ?_, ?_, ?_, ?_, ?_, ?_, ?_, ?_⟩ <;>
    first | rfl | (unfold armSlip; (repeat' split) <;> simp; done)

@[simp] theorem clampMove_frame (state : ClampState) (valve : ClampValve) (reversal : Bool) (s : State) :
    (clampMove state valve reversal s).inReset = s.inReset ∧ (clampMove state valve reversal s).node = s.node ∧
    (clampMove state valve reversal s).settings = s.settings ∧ (clampMove state valve reversal s).now = s.now ∧
    (clampMove state valve reversal s).pending = s.pending ∧ (clampMove state valve reversal s).free = s.free ∧
    (clampMove state valve reversal s).wsq = s.wsq ∧ (clampMove state valve reversal s).flash = s.flash ∧
    (clampMove state valve reversal s).cdr = s.cdr ∧ (clampMove state valve reversal s).tru = s.tru ∧
    (clampMove state valve reversal s).stl = s.stl ∧ (clampMove state valve reversal s).sht = s.sht ∧
    (clampMove state valve reversal s).lkc = s.lkc ∧ (clampMove state valve reversal s).orq = s.orq ∧
    (clampMove state valve reversal s).wrs = s.wrs := by
  refine ⟨?_, ?_, ?_, ?_, ?_, ?_, ?_, ?_, ?_, ?_, ?_, ?_, ?_, ?_, ?_⟩ <;>
    first | rfl | (unfold clampMove; (repeat' split) <;> simp; done)

@[simp] theorem closeRequest_frame (reversal : Bool) (s : State) :
    (closeRequest reversal s).inReset = s.inReset ∧ (closeRequest reversal s).node = s.node ∧
    (closeRequest reversal s).settings = s.settings ∧ (closeRequest reversal s).now = s.now ∧
    (closeRequest reversal s).pending = s.pending ∧ (closeRequest reversal s).free = s.free ∧
    (closeRequest reversal s).wsq = s.wsq ∧ (closeRequest reversal s).flash = s.flash ∧
    (closeRequest reversal s).cdr = s.cdr ∧ (closeRequest reversal s).tru = s.tru ∧
    (closeRequest reversal s).stl = s.stl ∧ (closeRequest reversal s).sht = s.sht ∧
    (closeRequest reversal s).lkc = s.lkc ∧ (closeRequest reversal s).orq = s.orq ∧
    (closeRequest reversal s).wrs = s.wrs := by
  refine ⟨?_, ?_, ?_, ?_, ?_, ?_, ?_, ?_, ?_, ?_, ?_, ?_, ?_, ?_, ?_⟩ <;>
    first | rfl | (unfold closeRequest; (repeat' split) <;> simp; done)

@[simp] theorem openRequest_frame (reversal : Bool) (s : State) :
    (openRequest reversal s).inReset = s.inReset ∧ (openRequest reversal s).node = s.node ∧
    (openRequest reversal s).settings = s.settings ∧ (openRequest reversal s).now = s.now ∧
    (openRequest reversal s).pending = s.pending ∧ (openRequest reversal s).free = s.free ∧
    (openRequest reversal s).wsq = s.wsq ∧ (openRequest reversal s).flash = s.flash ∧
    (openRequest reversal s).cdr = s.cdr ∧ (openRequest reversal s).tru = s.tru ∧
    (openRequest reversal s).stl = s.stl ∧ (openRequest reversal s).sht = s.sht ∧
    (openRequest reversal s).lkc = s.lkc ∧ (openRequest reversal s).orq = s.orq ∧
    (openRequest reversal s).wrs = s.wrs := by
  refine ⟨?_, ?_, ?_, ?_, ?_, ?_, ?_, ?_, ?_, ?_, ?_, ?_, ?_, ?_, ?_⟩ <;>
    first | rfl | (unfold openRequest; (repeat' split) <;> simp; done)

@[simp] theorem settleClamp_frame (s : State) :
    (settleClamp s).inReset = s.inReset ∧ (settleClamp s).node = s.node ∧ (settleClamp s).settings = s.settings ∧
    (settleClamp s).now = s.now ∧ (settleClamp s).pending = s.pending ∧ (settleClamp s).free = s.free ∧
    (settleClamp s).wsq = s.wsq ∧ (settleClamp s).flash = s.flash ∧ (settleClamp s).cdr = s.cdr ∧
    (settleClamp s).tru = s.tru ∧ (settleClamp s).stl = s.stl ∧ (settleClamp s).sht = s.sht ∧
    (settleClamp s).lkc = s.lkc ∧ (settleClamp s).orq = s.orq ∧ (settleClamp s).wrs = s.wrs := by
  refine ⟨?_, ?_, ?_, ?_, ?_, ?_, ?_, ?_, ?_, ?_, ?_, ?_, ?_, ?_, ?_⟩ <;>
    first | rfl | (unfold settleClamp; (repeat' split) <;> simp; done)

@[simp] theorem endTopUp_frame (s : State) :
    (endTopUp s).inReset = s.inReset ∧ (endTopUp s).node = s.node ∧ (endTopUp s).settings = s.settings ∧
    (endTopUp s).now = s.now ∧ (endTopUp s).pending = s.pending ∧ (endTopUp s).free = s.free ∧
    (endTopUp s).wsq = s.wsq ∧ (endTopUp s).flash = s.flash ∧ (endTopUp s).cdr = s.cdr ∧ (endTopUp s).tru = s.tru ∧
    (endTopUp s).stl = s.stl ∧ (endTopUp s).sht = s.sht ∧ (endTopUp s).lkc = s.lkc ∧ (endTopUp s).orq = s.orq ∧
    (endTopUp s).wrs = s.wrs ∧ (endTopUp s).pcu.clamp = s.pcu.clamp := by
  refine ⟨?_, ?_, ?_, ?_, ?_, ?_, ?_, ?_, ?_, ?_, ?_, ?_, ?_, ?_, ?_, ?_⟩ <;>
    first | rfl | (unfold endTopUp; (repeat' split) <;> simp; done)

@[simp] theorem startTopUp_frame (s : State) :
    (startTopUp s).inReset = s.inReset ∧ (startTopUp s).node = s.node ∧ (startTopUp s).settings = s.settings ∧
    (startTopUp s).now = s.now ∧ (startTopUp s).pending = s.pending ∧ (startTopUp s).free = s.free ∧
    (startTopUp s).wsq = s.wsq ∧ (startTopUp s).flash = s.flash ∧ (startTopUp s).cdr = s.cdr ∧
    (startTopUp s).tru = s.tru ∧ (startTopUp s).stl = s.stl ∧ (startTopUp s).sht = s.sht ∧
    (startTopUp s).lkc = s.lkc ∧ (startTopUp s).orq = s.orq ∧ (startTopUp s).wrs = s.wrs ∧
    (startTopUp s).pcu.clamp = s.pcu.clamp := by
  refine ⟨?_, ?_, ?_, ?_, ?_, ?_, ?_, ?_, ?_, ?_, ?_, ?_, ?_, ?_, ?_, ?_⟩ <;>
    first | rfl | (unfold startTopUp; (repeat' split) <;> simp; done)

@[simp] theorem clampsStop_frame (s : State) :
    (clampsStop s).inReset = s.inReset ∧ (clampsStop s).node = s.node ∧ (clampsStop s).settings = s.settings ∧
    (clampsStop s).now = s.now ∧ (clampsStop s).pending = s.pending ∧ (clampsStop s).free = s.free ∧
    (clampsStop s).wsq = s.wsq ∧ (clampsStop s).flash = s.flash ∧ (clampsStop s).cdr = s.cdr ∧
    (clampsStop s).tru = s.tru ∧ (clampsStop s).stl = s.stl ∧ (clampsStop s).sht = s.sht ∧
    (clampsStop s).lkc = s.lkc ∧ (clampsStop s).orq = s.orq ∧ (clampsStop s).wrs = s.wrs ∧
    (clampsStop s).pcu.clamp = s.pcu.clamp := by
  refine ⟨?_, ?_, ?_, ?_, ?_, ?_, ?_, ?_, ?_, ?_, ?_, ?_, ?_, ?_, ?_, ?_⟩ <;>
    first | rfl | (unfold clampsStop; (repeat' split) <;> simp; done)

@[simp] theorem takeSample_frame (f : FieldSample) (s : State) :
    (takeSample f s).inReset = s.inReset ∧ (takeSample f s).node = s.node ∧ (takeSample f s).settings = s.settings ∧
    (takeSample f s).now = s.now ∧ (takeSample f s).pending = s.pending ∧ (takeSample f s).free = s.free ∧
    (takeSample f s).wsq = s.wsq ∧ (takeSample f s).flash = s.flash ∧ (takeSample f s).cdr = s.cdr ∧
    (takeSample f s).tru = s.tru ∧ (takeSample f s).stl = s.stl ∧ (takeSample f s).sht = s.sht ∧
    (takeSample f s).lkc = s.lkc ∧ (takeSample f s).orq = s.orq ∧ (takeSample f s).wrs = s.wrs ∧
    (takeSample f s).pcu.clamp = s.pcu.clamp := by
  refine ⟨?_, ?_, ?_, ?_, ?_, ?_, ?_, ?_, ?_, ?_, ?_, ?_, ?_, ?_, ?_, ?_⟩ <;>
    first | rfl | (unfold takeSample; (repeat' split) <;> simp; done)

@[simp] theorem advanceCommand_frame (s : State) :
    (advanceCommand s).inReset = s.inReset ∧ (advanceCommand s).node = s.node ∧
    (advanceCommand s).settings = s.settings ∧ (advanceCommand s).now = s.now ∧
    (advanceCommand s).pending = s.pending ∧ (advanceCommand s).wsq = s.wsq ∧ (advanceCommand s).flash = s.flash ∧
    (advanceCommand s).cdr = s.cdr ∧ (advanceCommand s).tru = s.tru ∧ (advanceCommand s).stl = s.stl ∧
    (advanceCommand s).sht = s.sht ∧ (advanceCommand s).lkc = s.lkc ∧ (advanceCommand s).orq = s.orq ∧
    (advanceCommand s).wrs = s.wrs ∧ (advanceCommand s).pcu.clamp = s.pcu.clamp := by
  refine ⟨?_, ?_, ?_, ?_, ?_, ?_, ?_, ?_, ?_, ?_, ?_, ?_, ?_, ?_, ?_⟩ <;>
    (simp only [advanceCommand, State.fresh]; (repeat' split) <;> (try simp) <;> (repeat' split) <;> (try simp) <;> (repeat' split) <;> simp)

@[simp] theorem updateMark_frame (s : State) :
    (updateMark s).inReset = s.inReset ∧ (updateMark s).node = s.node ∧ (updateMark s).settings = s.settings ∧
    (updateMark s).now = s.now ∧ (updateMark s).pending = s.pending ∧ (updateMark s).free = s.free ∧
    (updateMark s).wsq = s.wsq ∧ (updateMark s).cdr = s.cdr ∧ (updateMark s).pcu = s.pcu ∧
    (updateMark s).tru = s.tru ∧ (updateMark s).stl = s.stl ∧ (updateMark s).sht = s.sht ∧
    (updateMark s).lkc = s.lkc ∧ (updateMark s).orq = s.orq ∧ (updateMark s).wrs = s.wrs := by
  refine ⟨?_, ?_, ?_, ?_, ?_, ?_, ?_, ?_, ?_, ?_, ?_, ?_, ?_, ?_, ?_⟩ <;>
    first | rfl | (unfold updateMark; (repeat' split) <;> simp; done)

@[simp] theorem setFeed_frame (s : State) :
    (setFeed s).inReset = s.inReset ∧ (setFeed s).node = s.node ∧ (setFeed s).settings = s.settings ∧
    (setFeed s).now = s.now ∧ (setFeed s).pending = s.pending ∧ (setFeed s).free = s.free ∧ (setFeed s).wsq = s.wsq ∧
    (setFeed s).flash = s.flash ∧ (setFeed s).cdr = s.cdr ∧ (setFeed s).tru = s.tru ∧ (setFeed s).stl = s.stl ∧
    (setFeed s).sht = s.sht ∧ (setFeed s).lkc = s.lkc ∧ (setFeed s).orq = s.orq ∧ (setFeed s).wrs = s.wrs ∧
    (setFeed s).pcu.clamp = s.pcu.clamp := by
  refine ⟨?_, ?_, ?_, ?_, ?_, ?_, ?_, ?_, ?_, ?_, ?_, ?_, ?_, ?_, ?_, ?_⟩ <;>
    first | rfl | (unfold setFeed; (repeat' split) <;> simp; done)

end Sys2Proof.Machine
end

