-- ==== Sys2Proof/Laws/ShareFrame.lean ====
section
/-! SUPPORT. What each operation of Machine/Share.lean leaves as it was. -/

namespace Sys2Proof.Machine

@[simp] theorem raiseClock_frame (n : Nat) (s : State) :
    (raiseClock n s).inReset = s.inReset ∧ (raiseClock n s).node = s.node ∧ (raiseClock n s).settings = s.settings ∧
    (raiseClock n s).now = s.now ∧ (raiseClock n s).pending = s.pending ∧ (raiseClock n s).free = s.free ∧
    (raiseClock n s).wsq = s.wsq ∧ (raiseClock n s).flash = s.flash ∧ (raiseClock n s).cdr = s.cdr ∧
    (raiseClock n s).pcu = s.pcu ∧ (raiseClock n s).tru = s.tru ∧ (raiseClock n s).stl = s.stl ∧
    (raiseClock n s).lkc = s.lkc ∧ (raiseClock n s).orq = s.orq ∧ (raiseClock n s).wrs = s.wrs ∧
    (raiseClock n s).sht.claims = s.sht.claims ∧ (raiseClock n s).sht.ownDigest = s.sht.ownDigest := by
  refine ⟨?_, ?_, ?_, ?_, ?_, ?_, ?_, ?_, ?_, ?_, ?_, ?_, ?_, ?_, ?_, ?_, ?_⟩ <;>
    first | rfl | (unfold raiseClock; (repeat' split) <;> simp; done)

@[simp] theorem onPeer_frame (p : Nat) (f : Peer → Peer) (s : State) :
    (onPeer p f s).inReset = s.inReset ∧ (onPeer p f s).node = s.node ∧ (onPeer p f s).settings = s.settings ∧
    (onPeer p f s).now = s.now ∧ (onPeer p f s).pending = s.pending ∧ (onPeer p f s).free = s.free ∧
    (onPeer p f s).wsq = s.wsq ∧ (onPeer p f s).flash = s.flash ∧ (onPeer p f s).cdr = s.cdr ∧
    (onPeer p f s).pcu = s.pcu ∧ (onPeer p f s).tru = s.tru ∧ (onPeer p f s).stl = s.stl ∧
    (onPeer p f s).lkc = s.lkc ∧ (onPeer p f s).orq = s.orq ∧ (onPeer p f s).wrs = s.wrs ∧
    (onPeer p f s).sht.clock = s.sht.clock ∧ (onPeer p f s).sht.claims = s.sht.claims ∧
    (onPeer p f s).sht.ownDigest = s.sht.ownDigest := by
  refine ⟨?_, ?_, ?_, ?_, ?_, ?_, ?_, ?_, ?_, ?_, ?_, ?_, ?_, ?_, ?_, ?_, ?_, ?_⟩ <;>
    first | rfl | (unfold onPeer; (repeat' split) <;> simp; done)

@[simp] theorem makeClaim_frame (demand : Nat) (s : State) :
    (makeClaim demand s).inReset = s.inReset ∧ (makeClaim demand s).node = s.node ∧
    (makeClaim demand s).settings = s.settings ∧ (makeClaim demand s).now = s.now ∧
    (makeClaim demand s).pending = s.pending ∧ (makeClaim demand s).free = s.free ∧ (makeClaim demand s).wsq = s.wsq ∧
    (makeClaim demand s).flash = s.flash ∧ (makeClaim demand s).cdr = s.cdr ∧ (makeClaim demand s).pcu = s.pcu ∧
    (makeClaim demand s).tru = s.tru ∧ (makeClaim demand s).stl = s.stl ∧
    (makeClaim demand s).sht.ownDigest = s.sht.ownDigest ∧ (makeClaim demand s).orq.queue = s.orq.queue ∧
    (makeClaim demand s).orq.heldList = s.orq.heldList ∧ (makeClaim demand s).orq.arrivals = s.orq.arrivals ∧
    (makeClaim demand s).wrs.counter = s.wrs.counter ∧ (makeClaim demand s).wrs.slots = s.wrs.slots := by
  refine ⟨?_, ?_, ?_, ?_, ?_, ?_, ?_, ?_, ?_, ?_, ?_, ?_, ?_, ?_, ?_, ?_, ?_, ?_⟩ <;>
    first | rfl | (unfold makeClaim; (repeat' split) <;> simp; done)

@[simp] theorem dropOwnClaim_frame (s : State) :
    (dropOwnClaim s).inReset = s.inReset ∧ (dropOwnClaim s).node = s.node ∧ (dropOwnClaim s).settings = s.settings ∧
    (dropOwnClaim s).now = s.now ∧ (dropOwnClaim s).pending = s.pending ∧ (dropOwnClaim s).free = s.free ∧
    (dropOwnClaim s).wsq = s.wsq ∧ (dropOwnClaim s).flash = s.flash ∧ (dropOwnClaim s).cdr = s.cdr ∧
    (dropOwnClaim s).pcu = s.pcu ∧ (dropOwnClaim s).tru = s.tru ∧ (dropOwnClaim s).stl = s.stl ∧
    (dropOwnClaim s).lkc = s.lkc ∧ (dropOwnClaim s).orq = s.orq ∧ (dropOwnClaim s).wrs = s.wrs ∧
    (dropOwnClaim s).sht.clock = s.sht.clock ∧ (dropOwnClaim s).sht.ownDigest = s.sht.ownDigest := by
  refine ⟨?_, ?_, ?_, ?_, ?_, ?_, ?_, ?_, ?_, ?_, ?_, ?_, ?_, ?_, ?_, ?_, ?_⟩ <;>
    first | rfl | (unfold dropOwnClaim; (repeat' split) <;> simp; done)

@[simp] theorem yieldFrames_frame (number : Nat) (s : State) :
    (yieldFrames number s).inReset = s.inReset ∧ (yieldFrames number s).node = s.node ∧
    (yieldFrames number s).settings = s.settings ∧ (yieldFrames number s).now = s.now ∧
    (yieldFrames number s).pending = s.pending ∧ (yieldFrames number s).free = s.free ∧
    (yieldFrames number s).wsq = s.wsq ∧ (yieldFrames number s).flash = s.flash ∧ (yieldFrames number s).cdr = s.cdr ∧
    (yieldFrames number s).pcu = s.pcu ∧ (yieldFrames number s).tru = s.tru ∧ (yieldFrames number s).stl = s.stl ∧
    (yieldFrames number s).sht.clock = s.sht.clock ∧ (yieldFrames number s).sht.claims = s.sht.claims ∧
    (yieldFrames number s).sht.ownDigest = s.sht.ownDigest ∧ (yieldFrames number s).orq.queue = s.orq.queue ∧
    (yieldFrames number s).orq.heldList = s.orq.heldList ∧ (yieldFrames number s).orq.arrivals = s.orq.arrivals ∧
    (yieldFrames number s).wrs.counter = s.wrs.counter ∧ (yieldFrames number s).wrs.slots = s.wrs.slots := by
  refine ⟨?_, ?_, ?_, ?_, ?_, ?_, ?_, ?_, ?_, ?_, ?_, ?_, ?_, ?_, ?_, ?_, ?_, ?_, ?_, ?_⟩ <;>
    first | rfl | (unfold yieldFrames; (repeat' split) <;> simp; done)

@[simp] theorem admitClaim_frame (s : State) :
    (admitClaim s).inReset = s.inReset ∧ (admitClaim s).node = s.node ∧ (admitClaim s).settings = s.settings ∧
    (admitClaim s).now = s.now ∧ (admitClaim s).pending = s.pending ∧ (admitClaim s).free = s.free ∧
    (admitClaim s).wsq = s.wsq ∧ (admitClaim s).flash = s.flash ∧ (admitClaim s).cdr = s.cdr ∧
    (admitClaim s).pcu = s.pcu ∧ (admitClaim s).tru = s.tru ∧ (admitClaim s).stl = s.stl ∧
    (admitClaim s).sht.clock = s.sht.clock ∧ (admitClaim s).sht.ownDigest = s.sht.ownDigest ∧
    (admitClaim s).orq.queue = s.orq.queue ∧ (admitClaim s).orq.heldList = s.orq.heldList ∧
    (admitClaim s).orq.arrivals = s.orq.arrivals ∧ (admitClaim s).wrs.counter = s.wrs.counter ∧
    (admitClaim s).wrs.slots = s.wrs.slots := by
  refine ⟨?_, ?_, ?_, ?_, ?_, ?_, ?_, ?_, ?_, ?_, ?_, ?_, ?_, ?_, ?_, ?_, ?_, ?_, ?_⟩ <;>
    first | rfl | (unfold admitClaim; (repeat' split) <;> simp; done)

@[simp] theorem enterClaim_frame (src number demand : Nat) (s : State) :
    (enterClaim src number demand s).inReset = s.inReset ∧ (enterClaim src number demand s).node = s.node ∧
    (enterClaim src number demand s).settings = s.settings ∧ (enterClaim src number demand s).now = s.now ∧
    (enterClaim src number demand s).pending = s.pending ∧ (enterClaim src number demand s).free = s.free ∧
    (enterClaim src number demand s).wsq = s.wsq ∧ (enterClaim src number demand s).flash = s.flash ∧
    (enterClaim src number demand s).cdr = s.cdr ∧ (enterClaim src number demand s).pcu = s.pcu ∧
    (enterClaim src number demand s).tru = s.tru ∧ (enterClaim src number demand s).stl = s.stl ∧
    (enterClaim src number demand s).lkc = s.lkc ∧ (enterClaim src number demand s).orq = s.orq ∧
    (enterClaim src number demand s).wrs = s.wrs ∧ (enterClaim src number demand s).sht.clock = s.sht.clock ∧
    (enterClaim src number demand s).sht.ownDigest = s.sht.ownDigest := by
  refine ⟨?_, ?_, ?_, ?_, ?_, ?_, ?_, ?_, ?_, ?_, ?_, ?_, ?_, ?_, ?_, ?_, ?_⟩ <;>
    first | rfl | (unfold enterClaim; (repeat' split) <;> simp; done)

@[simp] theorem claimEffect_frame (src number demand : Nat) (s : State) :
    (claimEffect src number demand s).inReset = s.inReset ∧ (claimEffect src number demand s).node = s.node ∧
    (claimEffect src number demand s).settings = s.settings ∧ (claimEffect src number demand s).now = s.now ∧
    (claimEffect src number demand s).pending = s.pending ∧ (claimEffect src number demand s).free = s.free ∧
    (claimEffect src number demand s).wsq = s.wsq ∧ (claimEffect src number demand s).flash = s.flash ∧
    (claimEffect src number demand s).cdr = s.cdr ∧ (claimEffect src number demand s).pcu = s.pcu ∧
    (claimEffect src number demand s).tru = s.tru ∧ (claimEffect src number demand s).stl = s.stl ∧
    (claimEffect src number demand s).lkc = s.lkc ∧ (claimEffect src number demand s).orq = s.orq ∧
    (claimEffect src number demand s).wrs = s.wrs ∧ (claimEffect src number demand s).sht.clock = s.sht.clock ∧
    (claimEffect src number demand s).sht.ownDigest = s.sht.ownDigest := by
  refine ⟨?_, ?_, ?_, ?_, ?_, ?_, ?_, ?_, ?_, ?_, ?_, ?_, ?_, ?_, ?_, ?_, ?_⟩ <;>
    first | rfl | (unfold claimEffect; (repeat' split) <;> simp; done)

@[simp] theorem yieldEffect_frame (src number : Nat) (s : State) :
    (yieldEffect src number s).inReset = s.inReset ∧ (yieldEffect src number s).node = s.node ∧
    (yieldEffect src number s).settings = s.settings ∧ (yieldEffect src number s).now = s.now ∧
    (yieldEffect src number s).pending = s.pending ∧ (yieldEffect src number s).free = s.free ∧
    (yieldEffect src number s).wsq = s.wsq ∧ (yieldEffect src number s).flash = s.flash ∧
    (yieldEffect src number s).cdr = s.cdr ∧ (yieldEffect src number s).pcu = s.pcu ∧
    (yieldEffect src number s).tru = s.tru ∧ (yieldEffect src number s).stl = s.stl ∧
    (yieldEffect src number s).lkc = s.lkc ∧ (yieldEffect src number s).orq = s.orq ∧
    (yieldEffect src number s).wrs = s.wrs ∧ (yieldEffect src number s).sht.clock = s.sht.clock ∧
    (yieldEffect src number s).sht.ownDigest = s.sht.ownDigest := by
  refine ⟨?_, ?_, ?_, ?_, ?_, ?_, ?_, ?_, ?_, ?_, ?_, ?_, ?_, ?_, ?_, ?_, ?_⟩ <;>
    first | rfl | (unfold yieldEffect; (repeat' split) <;> simp; done)

@[simp] theorem reconcile_frame (src : Nat) (b : BeaconBody) (s : State) :
    (reconcile src b s).inReset = s.inReset ∧ (reconcile src b s).node = s.node ∧
    (reconcile src b s).settings = s.settings ∧ (reconcile src b s).now = s.now ∧
    (reconcile src b s).pending = s.pending ∧ (reconcile src b s).free = s.free ∧ (reconcile src b s).wsq = s.wsq ∧
    (reconcile src b s).flash = s.flash ∧ (reconcile src b s).cdr = s.cdr ∧ (reconcile src b s).pcu = s.pcu ∧
    (reconcile src b s).tru = s.tru ∧ (reconcile src b s).stl = s.stl ∧ (reconcile src b s).lkc = s.lkc ∧
    (reconcile src b s).orq = s.orq ∧ (reconcile src b s).wrs = s.wrs ∧ (reconcile src b s).sht.clock = s.sht.clock ∧
    (reconcile src b s).sht.ownDigest = s.sht.ownDigest := by
  refine ⟨?_, ?_, ?_, ?_, ?_, ?_, ?_, ?_, ?_, ?_, ?_, ?_, ?_, ?_, ?_, ?_, ?_⟩ <;>
    first | rfl | (unfold reconcile; (repeat' split) <;> simp; done)

@[simp] theorem raiseFromBeacon_frame (b : BeaconBody) (s : State) :
    (raiseFromBeacon b s).inReset = s.inReset ∧ (raiseFromBeacon b s).node = s.node ∧
    (raiseFromBeacon b s).settings = s.settings ∧ (raiseFromBeacon b s).now = s.now ∧
    (raiseFromBeacon b s).pending = s.pending ∧ (raiseFromBeacon b s).free = s.free ∧
    (raiseFromBeacon b s).wsq = s.wsq ∧ (raiseFromBeacon b s).flash = s.flash ∧ (raiseFromBeacon b s).cdr = s.cdr ∧
    (raiseFromBeacon b s).pcu = s.pcu ∧ (raiseFromBeacon b s).tru = s.tru ∧ (raiseFromBeacon b s).stl = s.stl ∧
    (raiseFromBeacon b s).lkc = s.lkc ∧ (raiseFromBeacon b s).orq = s.orq ∧ (raiseFromBeacon b s).wrs = s.wrs ∧
    (raiseFromBeacon b s).sht.claims = s.sht.claims ∧ (raiseFromBeacon b s).sht.ownDigest = s.sht.ownDigest := by
  refine ⟨?_, ?_, ?_, ?_, ?_, ?_, ?_, ?_, ?_, ?_, ?_, ?_, ?_, ?_, ?_, ?_, ?_⟩ <;>
    first | rfl | (unfold raiseFromBeacon; (repeat' split) <;> simp; done)

@[simp] theorem beaconEffect_frame (src : Nat) (b : BeaconBody) (s : State) :
    (beaconEffect src b s).inReset = s.inReset ∧ (beaconEffect src b s).node = s.node ∧
    (beaconEffect src b s).settings = s.settings ∧ (beaconEffect src b s).now = s.now ∧
    (beaconEffect src b s).pending = s.pending ∧ (beaconEffect src b s).free = s.free ∧
    (beaconEffect src b s).wsq = s.wsq ∧ (beaconEffect src b s).flash = s.flash ∧ (beaconEffect src b s).cdr = s.cdr ∧
    (beaconEffect src b s).pcu = s.pcu ∧ (beaconEffect src b s).tru = s.tru ∧ (beaconEffect src b s).stl = s.stl ∧
    (beaconEffect src b s).lkc = s.lkc ∧ (beaconEffect src b s).orq = s.orq ∧ (beaconEffect src b s).wrs = s.wrs ∧
    (beaconEffect src b s).sht.ownDigest = s.sht.ownDigest := by
  refine ⟨?_, ?_, ?_, ?_, ?_, ?_, ?_, ?_, ?_, ?_, ?_, ?_, ?_, ?_, ?_, ?_⟩ <;>
    (simp only [beaconEffect]; (repeat' split) <;> (try simp) <;> (repeat' split) <;> (try simp) <;> (repeat' split) <;> simp)

@[simp] theorem staleEffect_frame (src : Nat) (s : State) :
    (staleEffect src s).inReset = s.inReset ∧ (staleEffect src s).node = s.node ∧
    (staleEffect src s).settings = s.settings ∧ (staleEffect src s).now = s.now ∧
    (staleEffect src s).pending = s.pending ∧ (staleEffect src s).free = s.free ∧ (staleEffect src s).wsq = s.wsq ∧
    (staleEffect src s).flash = s.flash ∧ (staleEffect src s).cdr = s.cdr ∧ (staleEffect src s).pcu = s.pcu ∧
    (staleEffect src s).tru = s.tru ∧ (staleEffect src s).stl = s.stl ∧ (staleEffect src s).lkc = s.lkc ∧
    (staleEffect src s).orq = s.orq ∧ (staleEffect src s).wrs = s.wrs ∧ (staleEffect src s).sht.clock = s.sht.clock ∧
    (staleEffect src s).sht.ownDigest = s.sht.ownDigest := by
  refine ⟨?_, ?_, ?_, ?_, ?_, ?_, ?_, ?_, ?_, ?_, ?_, ?_, ?_, ?_, ?_, ?_, ?_⟩ <;>
    first | rfl | (unfold staleEffect; (repeat' split) <;> simp; done)

@[simp] theorem lossEffect_frame (p : Nat) (s : State) :
    (lossEffect p s).inReset = s.inReset ∧ (lossEffect p s).node = s.node ∧ (lossEffect p s).settings = s.settings ∧
    (lossEffect p s).now = s.now ∧ (lossEffect p s).pending = s.pending ∧ (lossEffect p s).free = s.free ∧
    (lossEffect p s).wsq = s.wsq ∧ (lossEffect p s).flash = s.flash ∧ (lossEffect p s).cdr = s.cdr ∧
    (lossEffect p s).pcu = s.pcu ∧ (lossEffect p s).tru = s.tru ∧ (lossEffect p s).stl = s.stl ∧
    (lossEffect p s).lkc = s.lkc ∧ (lossEffect p s).orq = s.orq ∧ (lossEffect p s).wrs = s.wrs ∧
    (lossEffect p s).sht.clock = s.sht.clock ∧ (lossEffect p s).sht.ownDigest = s.sht.ownDigest := by
  refine ⟨?_, ?_, ?_, ?_, ?_, ?_, ?_, ?_, ?_, ?_, ?_, ?_, ?_, ?_, ?_, ?_, ?_⟩ <;>
    (simp only [lossEffect]; (repeat' split) <;> (try simp) <;> (repeat' split) <;> (try simp) <;> (repeat' split) <;> simp)

@[simp] theorem drainEffect_frame (station : Nat) (s : State) :
    (drainEffect station s).inReset = s.inReset ∧ (drainEffect station s).node = s.node ∧
    (drainEffect station s).settings = s.settings ∧ (drainEffect station s).now = s.now ∧
    (drainEffect station s).pending = s.pending ∧ (drainEffect station s).free = s.free ∧
    (drainEffect station s).wsq = s.wsq ∧ (drainEffect station s).flash = s.flash ∧
    (drainEffect station s).cdr = s.cdr ∧ (drainEffect station s).pcu = s.pcu ∧ (drainEffect station s).tru = s.tru ∧
    (drainEffect station s).stl = s.stl ∧ (drainEffect station s).lkc = s.lkc ∧ (drainEffect station s).orq = s.orq ∧
    (drainEffect station s).wrs = s.wrs ∧ (drainEffect station s).sht.clock = s.sht.clock ∧
    (drainEffect station s).sht.ownDigest = s.sht.ownDigest := by
  refine ⟨?_, ?_, ?_, ?_, ?_, ?_, ?_, ?_, ?_, ?_, ?_, ?_, ?_, ?_, ?_, ?_, ?_⟩ <;>
    first | rfl | (unfold drainEffect; (repeat' split) <;> simp; done)

end Sys2Proof.Machine
end

