-- ==== Sys2Proof/Laws/StopFrame.lean ====
section
/-! SUPPORT. What each operation of Machine/Stop.lean leaves as it was. -/

namespace Sys2Proof.Machine

@[simp] theorem flashResume_frame (s : State) :
    (flashResume s).inReset = s.inReset ∧ (flashResume s).node = s.node ∧ (flashResume s).settings = s.settings ∧
    (flashResume s).now = s.now ∧ (flashResume s).pending = s.pending ∧ (flashResume s).free = s.free ∧
    (flashResume s).wsq = s.wsq ∧ (flashResume s).cdr = s.cdr ∧ (flashResume s).tru = s.tru ∧
    (flashResume s).stl = s.stl ∧ (flashResume s).sht = s.sht ∧ (flashResume s).lkc = s.lkc ∧
    (flashResume s).orq = s.orq ∧ (flashResume s).wrs = s.wrs ∧ (flashResume s).pcu.clamp = s.pcu.clamp := by
  refine ⟨?_, ?_, ?_, ?_, ?_, ?_, ?_, ?_, ?_, ?_, ?_, ?_, ?_, ?_, ?_⟩ <;>
    first | rfl | (unfold flashResume; (repeat' split) <;> simp; done)

@[simp] theorem resumeRecovered_frame (s : State) :
    (resumeRecovered s).inReset = s.inReset ∧ (resumeRecovered s).node = s.node ∧
    (resumeRecovered s).settings = s.settings ∧ (resumeRecovered s).now = s.now ∧
    (resumeRecovered s).pending = s.pending ∧ (resumeRecovered s).free = s.free ∧ (resumeRecovered s).wsq = s.wsq ∧
    (resumeRecovered s).cdr = s.cdr ∧ (resumeRecovered s).tru = s.tru ∧ (resumeRecovered s).sht = s.sht ∧
    (resumeRecovered s).lkc = s.lkc ∧ (resumeRecovered s).orq = s.orq ∧ (resumeRecovered s).wrs = s.wrs ∧
    (resumeRecovered s).pcu.clamp = s.pcu.clamp ∧ (resumeRecovered s).stl.stop = s.stl.stop := by
  refine ⟨?_, ?_, ?_, ?_, ?_, ?_, ?_, ?_, ?_, ?_, ?_, ?_, ?_, ?_, ?_⟩ <;>
    first | rfl | (unfold resumeRecovered; (repeat' split) <;> simp; done)

@[simp] theorem resumeForced_frame (s : State) :
    (resumeForced s).inReset = s.inReset ∧ (resumeForced s).node = s.node ∧ (resumeForced s).settings = s.settings ∧
    (resumeForced s).now = s.now ∧ (resumeForced s).pending = s.pending ∧ (resumeForced s).free = s.free ∧
    (resumeForced s).wsq = s.wsq ∧ (resumeForced s).cdr = s.cdr ∧ (resumeForced s).tru = s.tru ∧
    (resumeForced s).sht = s.sht ∧ (resumeForced s).lkc = s.lkc ∧ (resumeForced s).orq = s.orq ∧
    (resumeForced s).wrs = s.wrs ∧ (resumeForced s).pcu.clamp = s.pcu.clamp ∧
    (resumeForced s).stl.stop = s.stl.stop := by
  refine ⟨?_, ?_, ?_, ?_, ?_, ?_, ?_, ?_, ?_, ?_, ?_, ?_, ?_, ?_, ?_⟩ <;>
    first | rfl | (unfold resumeForced; (repeat' split) <;> simp; done)

@[simp] theorem endPause_frame (s : State) :
    (endPause s).inReset = s.inReset ∧ (endPause s).node = s.node ∧ (endPause s).settings = s.settings ∧
    (endPause s).now = s.now ∧ (endPause s).pending = s.pending ∧ (endPause s).free = s.free ∧
    (endPause s).wsq = s.wsq ∧ (endPause s).cdr = s.cdr ∧ (endPause s).tru = s.tru ∧ (endPause s).sht = s.sht ∧
    (endPause s).lkc = s.lkc ∧ (endPause s).orq = s.orq ∧ (endPause s).wrs = s.wrs ∧
    (endPause s).pcu.clamp = s.pcu.clamp ∧ (endPause s).stl.stop = s.stl.stop := by
  refine ⟨?_, ?_, ?_, ?_, ?_, ?_, ?_, ?_, ?_, ?_, ?_, ?_, ?_, ?_, ?_⟩ <;>
    first | rfl | (unfold endPause; (repeat' split) <;> simp; done)

@[simp] theorem drawingEnded_frame (s : State) :
    (drawingEnded s).inReset = s.inReset ∧ (drawingEnded s).node = s.node ∧ (drawingEnded s).settings = s.settings ∧
    (drawingEnded s).now = s.now ∧ (drawingEnded s).pending = s.pending ∧ (drawingEnded s).free = s.free ∧
    (drawingEnded s).wsq = s.wsq ∧ (drawingEnded s).cdr = s.cdr ∧ (drawingEnded s).tru = s.tru ∧
    (drawingEnded s).sht = s.sht ∧ (drawingEnded s).lkc = s.lkc ∧ (drawingEnded s).orq = s.orq ∧
    (drawingEnded s).wrs = s.wrs ∧ (drawingEnded s).pcu.clamp = s.pcu.clamp ∧
    (drawingEnded s).stl.stop = s.stl.stop := by
  refine ⟨?_, ?_, ?_, ?_, ?_, ?_, ?_, ?_, ?_, ?_, ?_, ?_, ?_, ?_, ?_⟩ <;>
    first | rfl | (unfold drawingEnded; (repeat' split) <;> simp; done)

@[simp] theorem timingStopped_frame (s : State) :
    (timingStopped s).inReset = s.inReset ∧ (timingStopped s).node = s.node ∧
    (timingStopped s).settings = s.settings ∧ (timingStopped s).now = s.now ∧ (timingStopped s).pending = s.pending ∧
    (timingStopped s).free = s.free ∧ (timingStopped s).wsq = s.wsq ∧ (timingStopped s).cdr = s.cdr ∧
    (timingStopped s).tru = s.tru ∧ (timingStopped s).sht = s.sht ∧ (timingStopped s).lkc = s.lkc ∧
    (timingStopped s).orq = s.orq ∧ (timingStopped s).wrs = s.wrs ∧ (timingStopped s).pcu.clamp = s.pcu.clamp ∧
    (timingStopped s).stl.stop = s.stl.stop := by
  refine ⟨?_, ?_, ?_, ?_, ?_, ?_, ?_, ?_, ?_, ?_, ?_, ?_, ?_, ?_, ?_⟩ <;>
    first | rfl | (unfold timingStopped; (repeat' split) <;> simp; done)

@[simp] theorem takeVolts_frame (volts : Nat) (s : State) :
    (takeVolts volts s).inReset = s.inReset ∧ (takeVolts volts s).node = s.node ∧
    (takeVolts volts s).settings = s.settings ∧ (takeVolts volts s).now = s.now ∧
    (takeVolts volts s).pending = s.pending ∧ (takeVolts volts s).free = s.free ∧ (takeVolts volts s).wsq = s.wsq ∧
    (takeVolts volts s).cdr = s.cdr ∧ (takeVolts volts s).tru = s.tru ∧ (takeVolts volts s).sht = s.sht ∧
    (takeVolts volts s).lkc = s.lkc ∧ (takeVolts volts s).orq = s.orq ∧ (takeVolts volts s).wrs = s.wrs ∧
    (takeVolts volts s).pcu.clamp = s.pcu.clamp ∧ (takeVolts volts s).stl.stop = s.stl.stop := by
  refine ⟨?_, ?_, ?_, ?_, ?_, ?_, ?_, ?_, ?_, ?_, ?_, ?_, ?_, ?_, ?_⟩ <;>
    first | rfl | (unfold takeVolts; (repeat' split) <;> simp; done)

@[simp] theorem detectorReset_frame (s : State) :
    (detectorReset s).inReset = s.inReset ∧ (detectorReset s).node = s.node ∧
    (detectorReset s).settings = s.settings ∧ (detectorReset s).now = s.now ∧ (detectorReset s).pending = s.pending ∧
    (detectorReset s).free = s.free ∧ (detectorReset s).wsq = s.wsq ∧ (detectorReset s).flash = s.flash ∧
    (detectorReset s).cdr = s.cdr ∧ (detectorReset s).pcu = s.pcu ∧ (detectorReset s).tru = s.tru ∧
    (detectorReset s).sht = s.sht ∧ (detectorReset s).lkc = s.lkc ∧ (detectorReset s).orq = s.orq ∧
    (detectorReset s).wrs = s.wrs ∧ (detectorReset s).stl.stop = s.stl.stop := by
  refine ⟨?_, ?_, ?_, ?_, ?_, ?_, ?_, ?_, ?_, ?_, ?_, ?_, ?_, ?_, ?_, ?_⟩ <;>
    first | rfl | (unfold detectorReset; (repeat' split) <;> simp; done)

end Sys2Proof.Machine
end

