-- ==== Sys2Proof/Laws/TrimFrame.lean ====
section
/-! SUPPORT. What each operation of Machine/Trim.lean leaves as it was. -/

namespace Sys2Proof.Machine

@[simp] theorem truFirstSample_frame (returnSwitch : Bool) (s : State) :
    (truFirstSample returnSwitch s).inReset = s.inReset ∧ (truFirstSample returnSwitch s).node = s.node ∧
    (truFirstSample returnSwitch s).settings = s.settings ∧ (truFirstSample returnSwitch s).now = s.now ∧
    (truFirstSample returnSwitch s).pending = s.pending ∧ (truFirstSample returnSwitch s).free = s.free ∧
    (truFirstSample returnSwitch s).wsq = s.wsq ∧ (truFirstSample returnSwitch s).flash = s.flash ∧
    (truFirstSample returnSwitch s).cdr = s.cdr ∧ (truFirstSample returnSwitch s).pcu = s.pcu ∧
    (truFirstSample returnSwitch s).stl = s.stl ∧ (truFirstSample returnSwitch s).sht = s.sht ∧
    (truFirstSample returnSwitch s).lkc = s.lkc ∧ (truFirstSample returnSwitch s).orq = s.orq ∧
    (truFirstSample returnSwitch s).wrs = s.wrs := by
  refine ⟨?_, ?_, ?_, ?_, ?_, ?_, ?_, ?_, ?_, ?_, ?_, ?_, ?_, ?_, ?_⟩ <;>
    first | rfl | (unfold truFirstSample; (repeat' split) <;> simp; done)

@[simp] theorem startStroke_frame (s : State) :
    (startStroke s).inReset = s.inReset ∧ (startStroke s).node = s.node ∧ (startStroke s).settings = s.settings ∧
    (startStroke s).now = s.now ∧ (startStroke s).pending = s.pending ∧ (startStroke s).free = s.free ∧
    (startStroke s).wsq = s.wsq ∧ (startStroke s).flash = s.flash ∧ (startStroke s).cdr = s.cdr ∧
    (startStroke s).pcu = s.pcu ∧ (startStroke s).stl = s.stl ∧ (startStroke s).sht = s.sht ∧
    (startStroke s).lkc = s.lkc ∧ (startStroke s).orq = s.orq ∧ (startStroke s).wrs = s.wrs := by
  refine ⟨?_, ?_, ?_, ?_, ?_, ?_, ?_, ?_, ?_, ?_, ?_, ?_, ?_, ?_, ?_⟩ <;>
    first | rfl | (unfold startStroke; (repeat' split) <;> simp; done)

@[simp] theorem requestStroke_frame (s : State) :
    (requestStroke s).inReset = s.inReset ∧ (requestStroke s).node = s.node ∧
    (requestStroke s).settings = s.settings ∧ (requestStroke s).now = s.now ∧ (requestStroke s).pending = s.pending ∧
    (requestStroke s).free = s.free ∧ (requestStroke s).wsq = s.wsq ∧ (requestStroke s).flash = s.flash ∧
    (requestStroke s).cdr = s.cdr ∧ (requestStroke s).pcu = s.pcu ∧ (requestStroke s).stl = s.stl ∧
    (requestStroke s).sht = s.sht ∧ (requestStroke s).lkc = s.lkc ∧ (requestStroke s).orq = s.orq ∧
    (requestStroke s).wrs = s.wrs := by
  refine ⟨?_, ?_, ?_, ?_, ?_, ?_, ?_, ?_, ?_, ?_, ?_, ?_, ?_, ?_, ?_⟩ <;>
    first | rfl | (unfold requestStroke; (repeat' split) <;> simp; done)

@[simp] theorem startReturn_frame (s : State) :
    (startReturn s).inReset = s.inReset ∧ (startReturn s).node = s.node ∧ (startReturn s).settings = s.settings ∧
    (startReturn s).now = s.now ∧ (startReturn s).pending = s.pending ∧ (startReturn s).free = s.free ∧
    (startReturn s).wsq = s.wsq ∧ (startReturn s).flash = s.flash ∧ (startReturn s).cdr = s.cdr ∧
    (startReturn s).pcu = s.pcu ∧ (startReturn s).stl = s.stl ∧ (startReturn s).sht = s.sht ∧
    (startReturn s).lkc = s.lkc ∧ (startReturn s).orq = s.orq ∧ (startReturn s).wrs = s.wrs := by
  refine ⟨?_, ?_, ?_, ?_, ?_, ?_, ?_, ?_, ?_, ?_, ?_, ?_, ?_, ?_, ?_⟩ <;>
    first | rfl | (unfold startReturn; (repeat' split) <;> simp; done)

@[simp] theorem reachEnd_frame (s : State) :
    (reachEnd s).inReset = s.inReset ∧ (reachEnd s).node = s.node ∧ (reachEnd s).settings = s.settings ∧
    (reachEnd s).now = s.now ∧ (reachEnd s).pending = s.pending ∧ (reachEnd s).free = s.free ∧
    (reachEnd s).wsq = s.wsq ∧ (reachEnd s).flash = s.flash ∧ (reachEnd s).cdr = s.cdr ∧ (reachEnd s).pcu = s.pcu ∧
    (reachEnd s).stl = s.stl ∧ (reachEnd s).sht = s.sht ∧ (reachEnd s).lkc = s.lkc ∧ (reachEnd s).orq = s.orq ∧
    (reachEnd s).wrs = s.wrs := by
  refine ⟨?_, ?_, ?_, ?_, ?_, ?_, ?_, ?_, ?_, ?_, ?_, ?_, ?_, ?_, ?_⟩ <;>
    first | rfl | (unfold reachEnd; (repeat' split) <;> simp; done)

@[simp] theorem truHold_frame (s : State) :
    (truHold s).inReset = s.inReset ∧ (truHold s).node = s.node ∧ (truHold s).settings = s.settings ∧
    (truHold s).now = s.now ∧ (truHold s).pending = s.pending ∧ (truHold s).free = s.free ∧ (truHold s).wsq = s.wsq ∧
    (truHold s).flash = s.flash ∧ (truHold s).cdr = s.cdr ∧ (truHold s).pcu = s.pcu ∧ (truHold s).stl = s.stl ∧
    (truHold s).sht = s.sht ∧ (truHold s).lkc = s.lkc ∧ (truHold s).orq = s.orq ∧ (truHold s).wrs = s.wrs := by
  refine ⟨?_, ?_, ?_, ?_, ?_, ?_, ?_, ?_, ?_, ?_, ?_, ?_, ?_, ?_, ?_⟩ <;>
    first | rfl | (unfold truHold; (repeat' split) <;> simp; done)

@[simp] theorem truTakeUp_frame (s : State) :
    (truTakeUp s).inReset = s.inReset ∧ (truTakeUp s).node = s.node ∧ (truTakeUp s).settings = s.settings ∧
    (truTakeUp s).now = s.now ∧ (truTakeUp s).pending = s.pending ∧ (truTakeUp s).free = s.free ∧
    (truTakeUp s).wsq = s.wsq ∧ (truTakeUp s).flash = s.flash ∧ (truTakeUp s).cdr = s.cdr ∧
    (truTakeUp s).pcu = s.pcu ∧ (truTakeUp s).stl = s.stl ∧ (truTakeUp s).sht = s.sht ∧ (truTakeUp s).lkc = s.lkc ∧
    (truTakeUp s).orq = s.orq ∧ (truTakeUp s).wrs = s.wrs := by
  refine ⟨?_, ?_, ?_, ?_, ?_, ?_, ?_, ?_, ?_, ?_, ?_, ?_, ?_, ?_, ?_⟩ <;>
    first | rfl | (unfold truTakeUp; (repeat' split) <;> simp; done)

@[simp] theorem openWindow_frame (s : State) :
    (openWindow s).inReset = s.inReset ∧ (openWindow s).node = s.node ∧ (openWindow s).settings = s.settings ∧
    (openWindow s).now = s.now ∧ (openWindow s).pending = s.pending ∧ (openWindow s).free = s.free ∧
    (openWindow s).wsq = s.wsq ∧ (openWindow s).flash = s.flash ∧ (openWindow s).cdr = s.cdr ∧
    (openWindow s).pcu = s.pcu ∧ (openWindow s).stl = s.stl ∧ (openWindow s).sht = s.sht ∧
    (openWindow s).lkc = s.lkc ∧ (openWindow s).orq = s.orq ∧ (openWindow s).wrs = s.wrs := by
  refine ⟨?_, ?_, ?_, ?_, ?_, ?_, ?_, ?_, ?_, ?_, ?_, ?_, ?_, ?_, ?_⟩ <;>
    first | rfl | (unfold openWindow; (repeat' split) <;> simp; done)

@[simp] theorem truAbort_frame (s : State) :
    (truAbort s).inReset = s.inReset ∧ (truAbort s).node = s.node ∧ (truAbort s).settings = s.settings ∧
    (truAbort s).now = s.now ∧ (truAbort s).pending = s.pending ∧ (truAbort s).free = s.free ∧
    (truAbort s).wsq = s.wsq ∧ (truAbort s).flash = s.flash ∧ (truAbort s).cdr = s.cdr ∧ (truAbort s).pcu = s.pcu ∧
    (truAbort s).stl = s.stl ∧ (truAbort s).sht = s.sht ∧ (truAbort s).lkc = s.lkc ∧ (truAbort s).orq = s.orq ∧
    (truAbort s).wrs = s.wrs := by
  refine ⟨?_, ?_, ?_, ?_, ?_, ?_, ?_, ?_, ?_, ?_, ?_, ?_, ?_, ?_, ?_⟩ <;>
    first | rfl | (unfold truAbort; (repeat' split) <;> simp; done)

@[simp] theorem truNewWeld_frame (s : State) :
    (truNewWeld s).inReset = s.inReset ∧ (truNewWeld s).node = s.node ∧ (truNewWeld s).settings = s.settings ∧
    (truNewWeld s).now = s.now ∧ (truNewWeld s).pending = s.pending ∧ (truNewWeld s).free = s.free ∧
    (truNewWeld s).wsq = s.wsq ∧ (truNewWeld s).flash = s.flash ∧ (truNewWeld s).cdr = s.cdr ∧
    (truNewWeld s).pcu = s.pcu ∧ (truNewWeld s).stl = s.stl ∧ (truNewWeld s).sht = s.sht ∧
    (truNewWeld s).lkc = s.lkc ∧ (truNewWeld s).orq = s.orq ∧ (truNewWeld s).wrs = s.wrs := by
  refine ⟨?_, ?_, ?_, ?_, ?_, ?_, ?_, ?_, ?_, ?_, ?_, ?_, ?_, ?_, ?_⟩ <;>
    first | rfl | (unfold truNewWeld; (repeat' split) <;> simp; done)

end Sys2Proof.Machine
end

