-- ==== Sys2Proof/Laws/DriveFrame.lean ====
section
/-! SUPPORT. What each operation of Machine/Drive.lean leaves as it was. -/

namespace Sys2Proof.Machine

@[simp] theorem divideCycle_frame (s : State) :
    (divideCycle s).inReset = s.inReset ∧ (divideCycle s).node = s.node ∧
    (divideCycle s).settings = s.settings ∧ (divideCycle s).now = s.now ∧
    (divideCycle s).pending = s.pending ∧ (divideCycle s).free = s.free ∧
    (divideCycle s).wsq = s.wsq ∧ (divideCycle s).flash = s.flash ∧ (divideCycle s).pcu = s.pcu ∧
    (divideCycle s).tru = s.tru ∧ (divideCycle s).stl = s.stl ∧ (divideCycle s).sht = s.sht ∧
    (divideCycle s).lkc = s.lkc ∧ (divideCycle s).orq = s.orq ∧ (divideCycle s).wrs = s.wrs ∧
    (divideCycle s).cdr.drive = s.cdr.drive ∧ (divideCycle s).cdr.mode = s.cdr.mode := by
  refine ⟨?_, ?_, ?_, ?_, ?_, ?_, ?_, ?_, ?_, ?_, ?_, ?_, ?_, ?_, ?_, ?_, ?_⟩ <;>
    first | rfl | (unfold divideCycle; (repeat' split) <;> simp; done)

@[simp] theorem creditEnergy_frame (s : State) :
    (creditEnergy s).inReset = s.inReset ∧ (creditEnergy s).node = s.node ∧
    (creditEnergy s).settings = s.settings ∧ (creditEnergy s).now = s.now ∧
    (creditEnergy s).pending = s.pending ∧ (creditEnergy s).free = s.free ∧
    (creditEnergy s).wsq = s.wsq ∧ (creditEnergy s).flash = s.flash ∧ (creditEnergy s).pcu = s.pcu ∧
    (creditEnergy s).tru = s.tru ∧ (creditEnergy s).stl = s.stl ∧ (creditEnergy s).sht = s.sht ∧
    (creditEnergy s).lkc = s.lkc ∧ (creditEnergy s).orq = s.orq ∧ (creditEnergy s).wrs = s.wrs ∧
    (creditEnergy s).cdr.drive = s.cdr.drive ∧ (creditEnergy s).cdr.mode = s.cdr.mode := by
  refine ⟨?_, ?_, ?_, ?_, ?_, ?_, ?_, ?_, ?_, ?_, ?_, ?_, ?_, ?_, ?_, ?_, ?_⟩ <;>
    first | rfl | (unfold creditEnergy; (repeat' split) <;> simp; done)

@[simp] theorem startPulse_frame (s : State) :
    (startPulse s).inReset = s.inReset ∧ (startPulse s).node = s.node ∧ (startPulse s).settings = s.settings ∧
    (startPulse s).now = s.now ∧ (startPulse s).pending = s.pending ∧ (startPulse s).free = s.free ∧
    (startPulse s).wsq = s.wsq ∧ (startPulse s).flash = s.flash ∧ (startPulse s).pcu = s.pcu ∧
    (startPulse s).tru = s.tru ∧ (startPulse s).stl = s.stl ∧ (startPulse s).sht = s.sht ∧
    (startPulse s).lkc = s.lkc ∧ (startPulse s).orq = s.orq ∧ (startPulse s).wrs = s.wrs ∧
    (startPulse s).cdr.drive = s.cdr.drive ∧ (startPulse s).cdr.mode = s.cdr.mode := by
  refine ⟨?_, ?_, ?_, ?_, ?_, ?_, ?_, ?_, ?_, ?_, ?_, ?_, ?_, ?_, ?_, ?_, ?_⟩ <;>
    first | rfl | (unfold startPulse; (repeat' split) <;> simp; done)

@[simp] theorem rampStep_frame (s : State) :
    (rampStep s).inReset = s.inReset ∧ (rampStep s).node = s.node ∧ (rampStep s).settings = s.settings ∧
    (rampStep s).now = s.now ∧ (rampStep s).pending = s.pending ∧ (rampStep s).free = s.free ∧
    (rampStep s).wsq = s.wsq ∧ (rampStep s).flash = s.flash ∧ (rampStep s).pcu = s.pcu ∧ (rampStep s).tru = s.tru ∧
    (rampStep s).stl = s.stl ∧ (rampStep s).sht = s.sht ∧ (rampStep s).lkc = s.lkc ∧ (rampStep s).orq = s.orq ∧
    (rampStep s).wrs = s.wrs ∧ (rampStep s).cdr.drive = s.cdr.drive ∧ (rampStep s).cdr.mode = s.cdr.mode := by
  refine ⟨?_, ?_, ?_, ?_, ?_, ?_, ?_, ?_, ?_, ?_, ?_, ?_, ?_, ?_, ?_, ?_, ?_⟩ <;>
    (simp only [rampStep]; (repeat' split) <;> (try simp) <;> (repeat' split) <;> (try simp) <;> (repeat' split) <;> simp)

@[simp] theorem setTarget_frame (trip : Nat) (s : State) :
    (setTarget trip s).inReset = s.inReset ∧ (setTarget trip s).node = s.node ∧
    (setTarget trip s).settings = s.settings ∧ (setTarget trip s).now = s.now ∧
    (setTarget trip s).pending = s.pending ∧ (setTarget trip s).free = s.free ∧ (setTarget trip s).wsq = s.wsq ∧
    (setTarget trip s).flash = s.flash ∧ (setTarget trip s).pcu = s.pcu ∧ (setTarget trip s).tru = s.tru ∧
    (setTarget trip s).stl = s.stl ∧ (setTarget trip s).sht = s.sht ∧ (setTarget trip s).lkc = s.lkc ∧
    (setTarget trip s).orq = s.orq ∧ (setTarget trip s).wrs = s.wrs ∧ (setTarget trip s).cdr.drive = s.cdr.drive ∧
    (setTarget trip s).cdr.mode = s.cdr.mode := by
  refine ⟨?_, ?_, ?_, ?_, ?_, ?_, ?_, ?_, ?_, ?_, ?_, ?_, ?_, ?_, ?_, ?_, ?_⟩ <;>
    first | rfl | (unfold setTarget; (repeat' split) <;> simp; done)

@[simp] theorem beginCycle_frame (s : State) :
    (beginCycle s).inReset = s.inReset ∧ (beginCycle s).node = s.node ∧ (beginCycle s).settings = s.settings ∧
    (beginCycle s).now = s.now ∧ (beginCycle s).pending = s.pending ∧ (beginCycle s).free = s.free ∧
    (beginCycle s).wsq = s.wsq ∧ (beginCycle s).flash = s.flash ∧ (beginCycle s).pcu = s.pcu ∧
    (beginCycle s).tru = s.tru ∧ (beginCycle s).stl = s.stl ∧ (beginCycle s).sht = s.sht ∧
    (beginCycle s).lkc = s.lkc ∧ (beginCycle s).orq = s.orq ∧ (beginCycle s).wrs = s.wrs ∧
    (beginCycle s).cdr.mode = s.cdr.mode := by
  refine ⟨?_, ?_, ?_, ?_, ?_, ?_, ?_, ?_, ?_, ?_, ?_, ?_, ?_, ?_, ?_, ?_⟩ <;>
    (simp only [beginCycle]; (repeat' split) <;> (try simp) <;> (repeat' split) <;> (try simp) <;> (repeat' split) <;> simp)

@[simp] theorem cutRunning_frame (s : State) :
    (cutRunning s).inReset = s.inReset ∧ (cutRunning s).node = s.node ∧ (cutRunning s).settings = s.settings ∧
    (cutRunning s).now = s.now ∧ (cutRunning s).pending = s.pending ∧ (cutRunning s).wsq = s.wsq ∧
    (cutRunning s).flash = s.flash ∧ (cutRunning s).pcu = s.pcu ∧ (cutRunning s).tru = s.tru ∧
    (cutRunning s).stl = s.stl ∧ (cutRunning s).sht = s.sht ∧ (cutRunning s).lkc = s.lkc ∧
    (cutRunning s).orq = s.orq ∧ (cutRunning s).wrs = s.wrs ∧ (cutRunning s).cdr.mode = s.cdr.mode := by
  refine ⟨?_, ?_, ?_, ?_, ?_, ?_, ?_, ?_, ?_, ?_, ?_, ?_, ?_, ?_, ?_⟩ <;>
    (simp only [cutRunning]; (repeat' split) <;> (try simp) <;> (repeat' split) <;> (try simp) <;> (repeat' split) <;> simp)

@[simp] theorem blockDrive_frame (s : State) :
    (blockDrive s).inReset = s.inReset ∧ (blockDrive s).node = s.node ∧ (blockDrive s).settings = s.settings ∧
    (blockDrive s).now = s.now ∧ (blockDrive s).pending = s.pending ∧ (blockDrive s).wsq = s.wsq ∧
    (blockDrive s).flash = s.flash ∧ (blockDrive s).pcu = s.pcu ∧ (blockDrive s).tru = s.tru ∧
    (blockDrive s).stl = s.stl ∧ (blockDrive s).sht = s.sht ∧ (blockDrive s).lkc = s.lkc ∧
    (blockDrive s).orq = s.orq ∧ (blockDrive s).wrs = s.wrs := by
  refine ⟨?_, ?_, ?_, ?_, ?_, ?_, ?_, ?_, ?_, ?_, ?_, ?_, ?_, ?_⟩ <;>
    (simp only [blockDrive]; (repeat' split) <;> (try simp) <;> (repeat' split) <;> (try simp) <;> (repeat' split) <;> simp)

@[simp] theorem weldContext_frame (trip : Nat) (s : State) :
    (weldContext trip s).inReset = s.inReset ∧ (weldContext trip s).node = s.node ∧
    (weldContext trip s).settings = s.settings ∧ (weldContext trip s).now = s.now ∧
    (weldContext trip s).pending = s.pending ∧ (weldContext trip s).free = s.free ∧ (weldContext trip s).wsq = s.wsq ∧
    (weldContext trip s).flash = s.flash ∧ (weldContext trip s).pcu = s.pcu ∧ (weldContext trip s).tru = s.tru ∧
    (weldContext trip s).stl = s.stl ∧ (weldContext trip s).sht = s.sht ∧ (weldContext trip s).lkc = s.lkc ∧
    (weldContext trip s).orq = s.orq ∧ (weldContext trip s).wrs = s.wrs ∧
    (weldContext trip s).cdr.drive = s.cdr.drive ∧ (weldContext trip s).cdr.mode = s.cdr.mode := by
  refine ⟨?_, ?_, ?_, ?_, ?_, ?_, ?_, ?_, ?_, ?_, ?_, ?_, ?_, ?_, ?_, ?_, ?_⟩ <;>
    first | rfl | (unfold weldContext; (repeat' split) <;> simp; done)

@[simp] theorem setRuns_frame (new : DriveMode) (s : State) :
    (setRuns new s).inReset = s.inReset ∧ (setRuns new s).node = s.node ∧ (setRuns new s).settings = s.settings ∧
    (setRuns new s).now = s.now ∧ (setRuns new s).pending = s.pending ∧ (setRuns new s).free = s.free ∧
    (setRuns new s).wsq = s.wsq ∧ (setRuns new s).flash = s.flash ∧ (setRuns new s).pcu = s.pcu ∧
    (setRuns new s).tru = s.tru ∧ (setRuns new s).stl = s.stl ∧ (setRuns new s).sht = s.sht ∧
    (setRuns new s).lkc = s.lkc ∧ (setRuns new s).orq = s.orq ∧ (setRuns new s).wrs = s.wrs ∧
    (setRuns new s).cdr.drive = s.cdr.drive ∧ (setRuns new s).cdr.mode = s.cdr.mode := by
  refine ⟨?_, ?_, ?_, ?_, ?_, ?_, ?_, ?_, ?_, ?_, ?_, ?_, ?_, ?_, ?_, ?_, ?_⟩ <;>
    first | rfl | (unfold setRuns; (repeat' split) <;> simp; done)

@[simp] theorem requestCurrent_frame (mode : DriveMode) (trip hz : Nat) (weldStart : Bool) (s : State) :
    (requestCurrent mode trip hz weldStart s).inReset = s.inReset ∧
    (requestCurrent mode trip hz weldStart s).node = s.node ∧
    (requestCurrent mode trip hz weldStart s).settings = s.settings ∧
    (requestCurrent mode trip hz weldStart s).now = s.now ∧
    (requestCurrent mode trip hz weldStart s).pending = s.pending ∧
    (requestCurrent mode trip hz weldStart s).wsq = s.wsq ∧
    (requestCurrent mode trip hz weldStart s).flash = s.flash ∧
    (requestCurrent mode trip hz weldStart s).pcu = s.pcu ∧ (requestCurrent mode trip hz weldStart s).tru = s.tru ∧
    (requestCurrent mode trip hz weldStart s).stl = s.stl ∧ (requestCurrent mode trip hz weldStart s).sht = s.sht ∧
    (requestCurrent mode trip hz weldStart s).lkc = s.lkc ∧ (requestCurrent mode trip hz weldStart s).orq = s.orq ∧
    (requestCurrent mode trip hz weldStart s).wrs = s.wrs := by
  refine ⟨?_, ?_, ?_, ?_, ?_, ?_, ?_, ?_, ?_, ?_, ?_, ?_, ?_, ?_⟩ <;>
    (simp only [requestCurrent]; (repeat' split) <;> (try simp) <;> (repeat' split) <;> (try simp) <;> (repeat' split) <;> simp)

@[simp] theorem takeSamples_frame (samples : List DriveSample) (s : State) :
    (takeSamples samples s).inReset = s.inReset ∧ (takeSamples samples s).node = s.node ∧
    (takeSamples samples s).settings = s.settings ∧ (takeSamples samples s).now = s.now ∧
    (takeSamples samples s).pending = s.pending ∧ (takeSamples samples s).free = s.free ∧
    (takeSamples samples s).wsq = s.wsq ∧ (takeSamples samples s).flash = s.flash ∧
    (takeSamples samples s).pcu = s.pcu ∧ (takeSamples samples s).tru = s.tru ∧ (takeSamples samples s).stl = s.stl ∧
    (takeSamples samples s).sht = s.sht ∧ (takeSamples samples s).lkc = s.lkc ∧ (takeSamples samples s).orq = s.orq ∧
    (takeSamples samples s).wrs = s.wrs ∧ (takeSamples samples s).cdr.drive = s.cdr.drive ∧
    (takeSamples samples s).cdr.mode = s.cdr.mode := by
  refine ⟨?_, ?_, ?_, ?_, ?_, ?_, ?_, ?_, ?_, ?_, ?_, ?_, ?_, ?_, ?_, ?_, ?_⟩ <;>
    first | rfl | (unfold takeSamples; (repeat' split) <;> simp; done)

@[simp] theorem takeIntegral_frame (integral : Nat) (s : State) :
    (takeIntegral integral s).inReset = s.inReset ∧ (takeIntegral integral s).node = s.node ∧
    (takeIntegral integral s).settings = s.settings ∧ (takeIntegral integral s).now = s.now ∧
    (takeIntegral integral s).pending = s.pending ∧ (takeIntegral integral s).free = s.free ∧
    (takeIntegral integral s).wsq = s.wsq ∧ (takeIntegral integral s).flash = s.flash ∧
    (takeIntegral integral s).pcu = s.pcu ∧ (takeIntegral integral s).tru = s.tru ∧
    (takeIntegral integral s).stl = s.stl ∧ (takeIntegral integral s).sht = s.sht ∧
    (takeIntegral integral s).lkc = s.lkc ∧ (takeIntegral integral s).orq = s.orq ∧
    (takeIntegral integral s).wrs = s.wrs ∧ (takeIntegral integral s).cdr.drive = s.cdr.drive ∧
    (takeIntegral integral s).cdr.mode = s.cdr.mode := by
  refine ⟨?_, ?_, ?_, ?_, ?_, ?_, ?_, ?_, ?_, ?_, ?_, ?_, ?_, ?_, ?_, ?_, ?_⟩ <;>
    first | rfl | (unfold takeIntegral; (repeat' split) <;> simp; done)

end Sys2Proof.Machine
end

