-- ==== Sys2Proof/Laws/WeldFrame.lean ====
section
/-! SUPPORT. What each operation of Machine/Weld.lean leaves as it was. -/

namespace Sys2Proof.Machine

@[simp] theorem makeTopUp_frame (s : State) :
    (makeTopUp s).inReset = s.inReset ∧ (makeTopUp s).node = s.node ∧ (makeTopUp s).settings = s.settings ∧
    (makeTopUp s).now = s.now ∧ (makeTopUp s).pending = s.pending ∧ (makeTopUp s).free = s.free ∧
    (makeTopUp s).flash = s.flash ∧ (makeTopUp s).cdr = s.cdr ∧ (makeTopUp s).tru = s.tru ∧
    (makeTopUp s).stl = s.stl ∧ (makeTopUp s).sht = s.sht ∧ (makeTopUp s).lkc = s.lkc ∧ (makeTopUp s).orq = s.orq ∧
    (makeTopUp s).wrs = s.wrs ∧ (makeTopUp s).wsq.station = s.wsq.station ∧ (makeTopUp s).wsq.phase = s.wsq.phase ∧
    (makeTopUp s).wsq.isolated = s.wsq.isolated ∧ (makeTopUp s).pcu.clamp = s.pcu.clamp := by
  refine ⟨?_, ?_, ?_, ?_, ?_, ?_, ?_, ?_, ?_, ?_, ?_, ?_, ?_, ?_, ?_, ?_, ?_, ?_⟩ <;>
    first | rfl | (unfold makeTopUp; (repeat' split) <;> simp; done)

@[simp] theorem setStation_frame (st : StationState) (s : State) :
    (setStation st s).inReset = s.inReset ∧ (setStation st s).node = s.node ∧
    (setStation st s).settings = s.settings ∧ (setStation st s).now = s.now ∧ (setStation st s).pending = s.pending ∧
    (setStation st s).free = s.free ∧ (setStation st s).flash = s.flash ∧ (setStation st s).cdr = s.cdr ∧
    (setStation st s).tru = s.tru ∧ (setStation st s).stl = s.stl ∧ (setStation st s).sht = s.sht ∧
    (setStation st s).lkc = s.lkc ∧ (setStation st s).orq = s.orq ∧ (setStation st s).wrs = s.wrs ∧
    (setStation st s).wsq.phase = s.wsq.phase ∧ (setStation st s).wsq.isolated = s.wsq.isolated ∧
    (setStation st s).pcu.clamp = s.pcu.clamp := by
  refine ⟨?_, ?_, ?_, ?_, ?_, ?_, ?_, ?_, ?_, ?_, ?_, ?_, ?_, ?_, ?_, ?_, ?_⟩ <;>
    first | rfl | (unfold setStation; (repeat' split) <;> simp; done)

@[simp] theorem clearClampForce_frame (s : State) :
    (clearClampForce s).inReset = s.inReset ∧ (clearClampForce s).node = s.node ∧
    (clearClampForce s).settings = s.settings ∧ (clearClampForce s).now = s.now ∧
    (clearClampForce s).pending = s.pending ∧ (clearClampForce s).free = s.free ∧ (clearClampForce s).wsq = s.wsq ∧
    (clearClampForce s).flash = s.flash ∧ (clearClampForce s).cdr = s.cdr ∧ (clearClampForce s).tru = s.tru ∧
    (clearClampForce s).stl = s.stl ∧ (clearClampForce s).sht = s.sht ∧ (clearClampForce s).lkc = s.lkc ∧
    (clearClampForce s).orq = s.orq ∧ (clearClampForce s).wrs = s.wrs ∧ (clearClampForce s).pcu.clamp = s.pcu.clamp := by
  refine ⟨?_, ?_, ?_, ?_, ?_, ?_, ?_, ?_, ?_, ?_, ?_, ?_, ?_, ?_, ?_, ?_⟩ <;>
    first | rfl | (unfold clearClampForce; (repeat' split) <;> simp; done)

@[simp] theorem endOrder_frame (outcome : OrderOutcome) (reason : Reason) (weldNo : Option Nat) (s : State) :
    (endOrder outcome reason weldNo s).inReset = s.inReset ∧ (endOrder outcome reason weldNo s).node = s.node ∧
    (endOrder outcome reason weldNo s).settings = s.settings ∧ (endOrder outcome reason weldNo s).now = s.now ∧
    (endOrder outcome reason weldNo s).pending = s.pending ∧ (endOrder outcome reason weldNo s).free = s.free ∧
    (endOrder outcome reason weldNo s).wsq = s.wsq ∧ (endOrder outcome reason weldNo s).flash = s.flash ∧
    (endOrder outcome reason weldNo s).cdr = s.cdr ∧ (endOrder outcome reason weldNo s).pcu = s.pcu ∧
    (endOrder outcome reason weldNo s).tru = s.tru ∧ (endOrder outcome reason weldNo s).stl = s.stl ∧
    (endOrder outcome reason weldNo s).sht = s.sht ∧
    (endOrder outcome reason weldNo s).orq.heldList = s.orq.heldList ∧
    (endOrder outcome reason weldNo s).orq.arrivals = s.orq.arrivals ∧
    (endOrder outcome reason weldNo s).wrs.counter = s.wrs.counter ∧
    (endOrder outcome reason weldNo s).wrs.slots = s.wrs.slots := by
  refine ⟨?_, ?_, ?_, ?_, ?_, ?_, ?_, ?_, ?_, ?_, ?_, ?_, ?_, ?_, ?_, ?_, ?_⟩ <;>
    first | rfl | (unfold endOrder; (repeat' split) <;> simp; done)

@[simp] theorem neutralSets_frame (s : State) :
    (neutralSets s).inReset = s.inReset ∧ (neutralSets s).node = s.node ∧ (neutralSets s).settings = s.settings ∧
    (neutralSets s).now = s.now ∧ (neutralSets s).pending = s.pending ∧ (neutralSets s).free = s.free ∧
    (neutralSets s).flash = s.flash ∧ (neutralSets s).cdr = s.cdr ∧ (neutralSets s).pcu = s.pcu ∧
    (neutralSets s).tru = s.tru ∧ (neutralSets s).stl = s.stl ∧ (neutralSets s).sht = s.sht ∧
    (neutralSets s).lkc = s.lkc ∧ (neutralSets s).orq = s.orq ∧ (neutralSets s).wrs = s.wrs ∧
    (neutralSets s).wsq.station = s.wsq.station ∧ (neutralSets s).wsq.phase = s.wsq.phase ∧
    (neutralSets s).wsq.isolated = s.wsq.isolated := by
  refine ⟨?_, ?_, ?_, ?_, ?_, ?_, ?_, ?_, ?_, ?_, ?_, ?_, ?_, ?_, ?_, ?_, ?_, ?_⟩ <;>
    first | rfl | (unfold neutralSets; (repeat' split) <;> simp; done)

@[simp] theorem pcuWeldEnd_frame (s : State) :
    (pcuWeldEnd s).inReset = s.inReset ∧ (pcuWeldEnd s).node = s.node ∧ (pcuWeldEnd s).settings = s.settings ∧
    (pcuWeldEnd s).now = s.now ∧ (pcuWeldEnd s).pending = s.pending ∧ (pcuWeldEnd s).free = s.free ∧
    (pcuWeldEnd s).wsq = s.wsq ∧ (pcuWeldEnd s).flash = s.flash ∧ (pcuWeldEnd s).cdr = s.cdr ∧
    (pcuWeldEnd s).tru = s.tru ∧ (pcuWeldEnd s).stl = s.stl ∧ (pcuWeldEnd s).sht = s.sht ∧
    (pcuWeldEnd s).lkc = s.lkc ∧ (pcuWeldEnd s).orq = s.orq ∧ (pcuWeldEnd s).wrs = s.wrs ∧
    (pcuWeldEnd s).pcu.clamp = s.pcu.clamp := by
  refine ⟨?_, ?_, ?_, ?_, ?_, ?_, ?_, ?_, ?_, ?_, ?_, ?_, ?_, ?_, ?_, ?_⟩ <;>
    first | rfl | (unfold pcuWeldEnd; (repeat' split) <;> simp; done)

@[simp] theorem wsqWeldEnd_frame (s : State) :
    (wsqWeldEnd s).inReset = s.inReset ∧ (wsqWeldEnd s).node = s.node ∧ (wsqWeldEnd s).settings = s.settings ∧
    (wsqWeldEnd s).now = s.now ∧ (wsqWeldEnd s).pending = s.pending ∧ (wsqWeldEnd s).free = s.free ∧
    (wsqWeldEnd s).flash = s.flash ∧ (wsqWeldEnd s).cdr = s.cdr ∧ (wsqWeldEnd s).pcu = s.pcu ∧
    (wsqWeldEnd s).tru = s.tru ∧ (wsqWeldEnd s).stl = s.stl ∧ (wsqWeldEnd s).sht = s.sht ∧
    (wsqWeldEnd s).lkc = s.lkc ∧ (wsqWeldEnd s).orq = s.orq ∧ (wsqWeldEnd s).wrs = s.wrs ∧
    (wsqWeldEnd s).wsq.station = s.wsq.station ∧ (wsqWeldEnd s).wsq.isolated = s.wsq.isolated := by
  refine ⟨?_, ?_, ?_, ?_, ?_, ?_, ?_, ?_, ?_, ?_, ?_, ?_, ?_, ?_, ?_, ?_, ?_⟩ <;>
    first | rfl | (unfold wsqWeldEnd; (repeat' split) <;> simp; done)

@[simp] theorem leaveWeld_frame (s : State) :
    (leaveWeld s).inReset = s.inReset ∧ (leaveWeld s).node = s.node ∧ (leaveWeld s).settings = s.settings ∧
    (leaveWeld s).now = s.now ∧ (leaveWeld s).pending = s.pending ∧ (leaveWeld s).free = s.free ∧
    (leaveWeld s).flash = s.flash ∧ (leaveWeld s).cdr = s.cdr ∧ (leaveWeld s).tru = s.tru ∧
    (leaveWeld s).stl = s.stl ∧ (leaveWeld s).sht = s.sht ∧ (leaveWeld s).lkc = s.lkc ∧ (leaveWeld s).orq = s.orq ∧
    (leaveWeld s).wsq.isolated = s.wsq.isolated ∧ (leaveWeld s).pcu.clamp = s.pcu.clamp ∧
    (leaveWeld s).wrs = s.wrs := by
  refine ⟨?_, ?_, ?_, ?_, ?_, ?_, ?_, ?_, ?_, ?_, ?_, ?_, ?_, ?_, ?_, ?_⟩ <;>
    first | rfl | (unfold leaveWeld; (repeat' split) <;> simp; done)

@[simp] theorem endWeld_frame (outcome : OrderOutcome) (reason : Reason) (weldNo : Option Nat) (s : State) :
    (endWeld outcome reason weldNo s).inReset = s.inReset ∧ (endWeld outcome reason weldNo s).node = s.node ∧
    (endWeld outcome reason weldNo s).settings = s.settings ∧ (endWeld outcome reason weldNo s).now = s.now ∧
    (endWeld outcome reason weldNo s).pending = s.pending ∧ (endWeld outcome reason weldNo s).free = s.free ∧
    (endWeld outcome reason weldNo s).flash = s.flash ∧ (endWeld outcome reason weldNo s).cdr = s.cdr ∧
    (endWeld outcome reason weldNo s).tru = s.tru ∧ (endWeld outcome reason weldNo s).stl = s.stl ∧
    (endWeld outcome reason weldNo s).sht = s.sht ∧ (endWeld outcome reason weldNo s).wsq.isolated = s.wsq.isolated ∧
    (endWeld outcome reason weldNo s).pcu.clamp = s.pcu.clamp ∧
    (endWeld outcome reason weldNo s).orq.heldList = s.orq.heldList ∧
    (endWeld outcome reason weldNo s).orq.arrivals = s.orq.arrivals ∧
    (endWeld outcome reason weldNo s).wrs.counter = s.wrs.counter ∧
    (endWeld outcome reason weldNo s).wrs.slots = s.wrs.slots := by
  refine ⟨?_, ?_, ?_, ?_, ?_, ?_, ?_, ?_, ?_, ?_, ?_, ?_, ?_, ?_, ?_, ?_, ?_⟩ <;>
    first | rfl | (unfold endWeld; (repeat' split) <;> simp; done)

@[simp] theorem switchSets_frame (s : State) :
    (switchSets s).inReset = s.inReset ∧ (switchSets s).node = s.node ∧ (switchSets s).settings = s.settings ∧
    (switchSets s).now = s.now ∧ (switchSets s).pending = s.pending ∧ (switchSets s).free = s.free ∧
    (switchSets s).flash = s.flash ∧ (switchSets s).cdr = s.cdr ∧ (switchSets s).pcu = s.pcu ∧
    (switchSets s).tru = s.tru ∧ (switchSets s).stl = s.stl ∧ (switchSets s).sht = s.sht ∧
    (switchSets s).lkc = s.lkc ∧ (switchSets s).orq = s.orq ∧ (switchSets s).wrs = s.wrs ∧
    (switchSets s).wsq.station = s.wsq.station ∧ (switchSets s).wsq.phase = s.wsq.phase ∧
    (switchSets s).wsq.isolated = s.wsq.isolated := by
  refine ⟨?_, ?_, ?_, ?_, ?_, ?_, ?_, ?_, ?_, ?_, ?_, ?_, ?_, ?_, ?_, ?_, ?_, ?_⟩ <;>
    first | rfl | (unfold switchSets; (repeat' split) <;> simp; done)

@[simp] theorem enterPhase_frame (p : WeldPhase) (s : State) :
    (enterPhase p s).inReset = s.inReset ∧ (enterPhase p s).node = s.node ∧ (enterPhase p s).settings = s.settings ∧
    (enterPhase p s).now = s.now ∧ (enterPhase p s).pending = s.pending ∧ (enterPhase p s).free = s.free ∧
    (enterPhase p s).flash = s.flash ∧ (enterPhase p s).cdr = s.cdr ∧ (enterPhase p s).pcu = s.pcu ∧
    (enterPhase p s).tru = s.tru ∧ (enterPhase p s).stl = s.stl ∧ (enterPhase p s).sht = s.sht ∧
    (enterPhase p s).lkc = s.lkc ∧ (enterPhase p s).orq = s.orq ∧ (enterPhase p s).wsq.station = s.wsq.station ∧
    (enterPhase p s).wsq.isolated = s.wsq.isolated ∧ (enterPhase p s).wrs.counter = s.wrs.counter ∧
    (enterPhase p s).wrs.slots = s.wrs.slots := by
  refine ⟨?_, ?_, ?_, ?_, ?_, ?_, ?_, ?_, ?_, ?_, ?_, ?_, ?_, ?_, ?_, ?_, ?_, ?_⟩ <;>
    first | rfl | (unfold enterPhase; (repeat' split) <;> simp; done)

@[simp] theorem enterClosing_frame (s : State) :
    (enterClosing s).inReset = s.inReset ∧ (enterClosing s).node = s.node ∧ (enterClosing s).settings = s.settings ∧
    (enterClosing s).now = s.now ∧ (enterClosing s).pending = s.pending ∧ (enterClosing s).free = s.free ∧
    (enterClosing s).flash = s.flash ∧ (enterClosing s).cdr = s.cdr ∧ (enterClosing s).pcu = s.pcu ∧
    (enterClosing s).tru = s.tru ∧ (enterClosing s).stl = s.stl ∧ (enterClosing s).sht = s.sht ∧
    (enterClosing s).lkc = s.lkc ∧ (enterClosing s).orq = s.orq ∧ (enterClosing s).wsq.station = s.wsq.station ∧
    (enterClosing s).wsq.isolated = s.wsq.isolated ∧ (enterClosing s).wrs.counter = s.wrs.counter ∧
    (enterClosing s).wrs.slots = s.wrs.slots := by
  refine ⟨?_, ?_, ?_, ?_, ?_, ?_, ?_, ?_, ?_, ?_, ?_, ?_, ?_, ?_, ?_, ?_, ?_, ?_⟩ <;>
    (simp only [enterClosing]; (repeat' split) <;> (try simp) <;> (repeat' split) <;> (try simp) <;> (repeat' split) <;> simp)

@[simp] theorem setStep_frame (step : AbortStep) (s : State) :
    (setStep step s).inReset = s.inReset ∧ (setStep step s).node = s.node ∧ (setStep step s).settings = s.settings ∧
    (setStep step s).now = s.now ∧ (setStep step s).pending = s.pending ∧ (setStep step s).free = s.free ∧
    (setStep step s).flash = s.flash ∧ (setStep step s).cdr = s.cdr ∧ (setStep step s).pcu = s.pcu ∧
    (setStep step s).tru = s.tru ∧ (setStep step s).stl = s.stl ∧ (setStep step s).sht = s.sht ∧
    (setStep step s).lkc = s.lkc ∧ (setStep step s).orq = s.orq ∧ (setStep step s).wrs = s.wrs ∧
    (setStep step s).wsq.station = s.wsq.station ∧ (setStep step s).wsq.phase = s.wsq.phase ∧
    (setStep step s).wsq.isolated = s.wsq.isolated := by
  refine ⟨?_, ?_, ?_, ?_, ?_, ?_, ?_, ?_, ?_, ?_, ?_, ?_, ?_, ?_, ?_, ?_, ?_, ?_⟩ <;>
    first | rfl | (unfold setStep; (repeat' split) <;> simp; done)

@[simp] theorem beginRetract_frame (s : State) :
    (beginRetract s).inReset = s.inReset ∧ (beginRetract s).node = s.node ∧ (beginRetract s).settings = s.settings ∧
    (beginRetract s).now = s.now ∧ (beginRetract s).pending = s.pending ∧ (beginRetract s).free = s.free ∧
    (beginRetract s).flash = s.flash ∧ (beginRetract s).cdr = s.cdr ∧ (beginRetract s).tru = s.tru ∧
    (beginRetract s).stl = s.stl ∧ (beginRetract s).sht = s.sht ∧ (beginRetract s).lkc = s.lkc ∧
    (beginRetract s).orq = s.orq ∧ (beginRetract s).wsq.station = s.wsq.station ∧
    (beginRetract s).wsq.isolated = s.wsq.isolated ∧ (beginRetract s).pcu.clamp = s.pcu.clamp ∧
    (beginRetract s).wrs.counter = s.wrs.counter ∧ (beginRetract s).wrs.slots = s.wrs.slots := by
  refine ⟨?_, ?_, ?_, ?_, ?_, ?_, ?_, ?_, ?_, ?_, ?_, ?_, ?_, ?_, ?_, ?_, ?_, ?_⟩ <;>
    (simp only [beginRetract]; (repeat' split) <;> (try simp) <;> (repeat' split) <;> (try simp) <;> (repeat' split) <;> simp)

@[simp] theorem yieldClaim_frame (s : State) :
    (yieldClaim s).inReset = s.inReset ∧ (yieldClaim s).node = s.node ∧ (yieldClaim s).settings = s.settings ∧
    (yieldClaim s).now = s.now ∧ (yieldClaim s).pending = s.pending ∧ (yieldClaim s).free = s.free ∧
    (yieldClaim s).wsq = s.wsq ∧ (yieldClaim s).cdr = s.cdr ∧ (yieldClaim s).tru = s.tru ∧
    (yieldClaim s).pcu.clamp = s.pcu.clamp ∧ (yieldClaim s).stl.stop = s.stl.stop ∧
    (yieldClaim s).sht.clock = s.sht.clock ∧ (yieldClaim s).sht.ownDigest = s.sht.ownDigest ∧
    (yieldClaim s).orq.queue = s.orq.queue ∧ (yieldClaim s).orq.heldList = s.orq.heldList ∧
    (yieldClaim s).orq.arrivals = s.orq.arrivals ∧ (yieldClaim s).wrs.counter = s.wrs.counter ∧
    (yieldClaim s).wrs.slots = s.wrs.slots := by
  refine ⟨?_, ?_, ?_, ?_, ?_, ?_, ?_, ?_, ?_, ?_, ?_, ?_, ?_, ?_, ?_, ?_, ?_, ?_⟩ <;>
    first | rfl | (unfold yieldClaim; (repeat' split) <;> simp; done)

@[simp] theorem contactStepEnds_frame (s : State) :
    (contactStepEnds s).inReset = s.inReset ∧ (contactStepEnds s).node = s.node ∧
    (contactStepEnds s).settings = s.settings ∧ (contactStepEnds s).now = s.now ∧
    (contactStepEnds s).pending = s.pending ∧ (contactStepEnds s).free = s.free ∧ (contactStepEnds s).wsq = s.wsq ∧
    (contactStepEnds s).cdr = s.cdr ∧ (contactStepEnds s).tru = s.tru ∧ (contactStepEnds s).stl = s.stl ∧
    (contactStepEnds s).sht = s.sht ∧ (contactStepEnds s).lkc = s.lkc ∧ (contactStepEnds s).orq = s.orq ∧
    (contactStepEnds s).wrs = s.wrs ∧ (contactStepEnds s).pcu.clamp = s.pcu.clamp := by
  refine ⟨?_, ?_, ?_, ?_, ?_, ?_, ?_, ?_, ?_, ?_, ?_, ?_, ?_, ?_, ?_⟩ <;>
    first | rfl | (unfold contactStepEnds; (repeat' split) <;> simp; done)

@[simp] theorem abortStepEnds_frame (s : State) :
    (abortStepEnds s).inReset = s.inReset ∧ (abortStepEnds s).node = s.node ∧
    (abortStepEnds s).settings = s.settings ∧ (abortStepEnds s).now = s.now ∧ (abortStepEnds s).pending = s.pending ∧
    (abortStepEnds s).free = s.free ∧ (abortStepEnds s).cdr = s.cdr ∧ (abortStepEnds s).tru = s.tru ∧
    (abortStepEnds s).wsq.station = s.wsq.station ∧ (abortStepEnds s).wsq.isolated = s.wsq.isolated ∧
    (abortStepEnds s).pcu.clamp = s.pcu.clamp ∧ (abortStepEnds s).stl.stop = s.stl.stop ∧
    (abortStepEnds s).sht.clock = s.sht.clock ∧ (abortStepEnds s).sht.ownDigest = s.sht.ownDigest ∧
    (abortStepEnds s).orq.queue = s.orq.queue ∧ (abortStepEnds s).orq.heldList = s.orq.heldList ∧
    (abortStepEnds s).orq.arrivals = s.orq.arrivals ∧ (abortStepEnds s).wrs.counter = s.wrs.counter ∧
    (abortStepEnds s).wrs.slots = s.wrs.slots := by
  refine ⟨?_, ?_, ?_, ?_, ?_, ?_, ?_, ?_, ?_, ?_, ?_, ?_, ?_, ?_, ?_, ?_, ?_, ?_, ?_⟩ <;>
    (simp only [abortStepEnds]; (repeat' split) <;> (try simp) <;> (repeat' split) <;> (try simp) <;> (repeat' split) <;> simp)

@[simp] theorem driveOffReport_frame (s : State) :
    (driveOffReport s).inReset = s.inReset ∧ (driveOffReport s).node = s.node ∧
    (driveOffReport s).settings = s.settings ∧ (driveOffReport s).now = s.now ∧
    (driveOffReport s).pending = s.pending ∧ (driveOffReport s).free = s.free ∧ (driveOffReport s).cdr = s.cdr ∧
    (driveOffReport s).tru = s.tru ∧ (driveOffReport s).wsq.station = s.wsq.station ∧
    (driveOffReport s).wsq.isolated = s.wsq.isolated ∧ (driveOffReport s).pcu.clamp = s.pcu.clamp ∧
    (driveOffReport s).stl.stop = s.stl.stop ∧ (driveOffReport s).sht.clock = s.sht.clock ∧
    (driveOffReport s).sht.ownDigest = s.sht.ownDigest ∧ (driveOffReport s).orq.queue = s.orq.queue ∧
    (driveOffReport s).orq.heldList = s.orq.heldList ∧ (driveOffReport s).orq.arrivals = s.orq.arrivals ∧
    (driveOffReport s).wrs.counter = s.wrs.counter ∧ (driveOffReport s).wrs.slots = s.wrs.slots := by
  refine ⟨?_, ?_, ?_, ?_, ?_, ?_, ?_, ?_, ?_, ?_, ?_, ?_, ?_, ?_, ?_, ?_, ?_, ?_, ?_⟩ <;>
    (simp only [driveOffReport]; (repeat' split) <;> (try simp) <;> (repeat' split) <;> (try simp) <;> (repeat' split) <;> simp)

@[simp] theorem driveOff_frame (s : State) :
    (driveOff s).inReset = s.inReset ∧ (driveOff s).node = s.node ∧ (driveOff s).settings = s.settings ∧
    (driveOff s).now = s.now ∧ (driveOff s).pending = s.pending ∧ (driveOff s).tru = s.tru ∧
    (driveOff s).wsq.station = s.wsq.station ∧ (driveOff s).wsq.isolated = s.wsq.isolated ∧
    (driveOff s).pcu.clamp = s.pcu.clamp ∧ (driveOff s).stl.stop = s.stl.stop ∧ (driveOff s).sht.clock = s.sht.clock ∧
    (driveOff s).sht.ownDigest = s.sht.ownDigest ∧ (driveOff s).orq.queue = s.orq.queue ∧
    (driveOff s).orq.heldList = s.orq.heldList ∧ (driveOff s).orq.arrivals = s.orq.arrivals ∧
    (driveOff s).wrs.counter = s.wrs.counter ∧ (driveOff s).wrs.slots = s.wrs.slots := by
  refine ⟨?_, ?_, ?_, ?_, ?_, ?_, ?_, ?_, ?_, ?_, ?_, ?_, ?_, ?_, ?_, ?_, ?_⟩ <;>
    (simp only [driveOff]; (repeat' split) <;> (try simp) <;> (repeat' split) <;> (try simp) <;> (repeat' split) <;> simp)

@[simp] theorem normalOff_frame (s : State) :
    (normalOff s).inReset = s.inReset ∧ (normalOff s).node = s.node ∧ (normalOff s).settings = s.settings ∧
    (normalOff s).now = s.now ∧ (normalOff s).pending = s.pending ∧ (normalOff s).tru = s.tru ∧
    (normalOff s).wsq.station = s.wsq.station ∧ (normalOff s).wsq.isolated = s.wsq.isolated ∧
    (normalOff s).pcu.clamp = s.pcu.clamp ∧ (normalOff s).stl.stop = s.stl.stop ∧
    (normalOff s).sht.clock = s.sht.clock ∧ (normalOff s).sht.ownDigest = s.sht.ownDigest ∧
    (normalOff s).orq.queue = s.orq.queue ∧ (normalOff s).orq.heldList = s.orq.heldList ∧
    (normalOff s).orq.arrivals = s.orq.arrivals ∧ (normalOff s).wrs.counter = s.wrs.counter ∧
    (normalOff s).wrs.slots = s.wrs.slots := by
  refine ⟨?_, ?_, ?_, ?_, ?_, ?_, ?_, ?_, ?_, ?_, ?_, ?_, ?_, ?_, ?_, ?_, ?_⟩ <;>
    (simp only [normalOff]; (repeat' split) <;> (try simp) <;> (repeat' split) <;> (try simp) <;> (repeat' split) <;> simp)

@[simp] theorem immediateOff_frame (s : State) :
    (immediateOff s).inReset = s.inReset ∧ (immediateOff s).node = s.node ∧ (immediateOff s).settings = s.settings ∧
    (immediateOff s).now = s.now ∧ (immediateOff s).pending = s.pending ∧ (immediateOff s).tru = s.tru ∧
    (immediateOff s).wsq.station = s.wsq.station ∧ (immediateOff s).wsq.isolated = s.wsq.isolated ∧
    (immediateOff s).pcu.clamp = s.pcu.clamp ∧ (immediateOff s).stl.stop = s.stl.stop ∧
    (immediateOff s).sht.clock = s.sht.clock ∧ (immediateOff s).sht.ownDigest = s.sht.ownDigest ∧
    (immediateOff s).orq.queue = s.orq.queue ∧ (immediateOff s).orq.heldList = s.orq.heldList ∧
    (immediateOff s).orq.arrivals = s.orq.arrivals ∧ (immediateOff s).wrs.counter = s.wrs.counter ∧
    (immediateOff s).wrs.slots = s.wrs.slots := by
  refine ⟨?_, ?_, ?_, ?_, ?_, ?_, ?_, ?_, ?_, ?_, ?_, ?_, ?_, ?_, ?_, ?_, ?_⟩ <;>
    (simp only [immediateOff]; (repeat' split) <;> (try simp) <;> (repeat' split) <;> (try simp) <;> (repeat' split) <;> simp)

@[simp] theorem loseRun_frame (s : State) :
    (loseRun s).inReset = s.inReset ∧ (loseRun s).node = s.node ∧ (loseRun s).settings = s.settings ∧
    (loseRun s).now = s.now ∧ (loseRun s).pending = s.pending ∧ (loseRun s).tru = s.tru ∧
    (loseRun s).wsq.station = s.wsq.station ∧ (loseRun s).wsq.isolated = s.wsq.isolated ∧
    (loseRun s).pcu.clamp = s.pcu.clamp ∧ (loseRun s).stl.stop = s.stl.stop ∧ (loseRun s).sht.clock = s.sht.clock ∧
    (loseRun s).sht.ownDigest = s.sht.ownDigest ∧ (loseRun s).orq.queue = s.orq.queue ∧
    (loseRun s).orq.heldList = s.orq.heldList ∧ (loseRun s).orq.arrivals = s.orq.arrivals ∧
    (loseRun s).wrs.counter = s.wrs.counter ∧ (loseRun s).wrs.slots = s.wrs.slots := by
  refine ⟨?_, ?_, ?_, ?_, ?_, ?_, ?_, ?_, ?_, ?_, ?_, ?_, ?_, ?_, ?_, ?_, ?_⟩ <;>
    (simp only [loseRun]; (repeat' split) <;> (try simp) <;> (repeat' split) <;> (try simp) <;> (repeat' split) <;> simp)

@[simp] theorem yieldOwn_frame (s : State) :
    (yieldOwn s).inReset = s.inReset ∧ (yieldOwn s).node = s.node ∧ (yieldOwn s).settings = s.settings ∧
    (yieldOwn s).now = s.now ∧ (yieldOwn s).pending = s.pending ∧ (yieldOwn s).tru = s.tru ∧
    (yieldOwn s).wsq.station = s.wsq.station ∧ (yieldOwn s).wsq.isolated = s.wsq.isolated ∧
    (yieldOwn s).pcu.clamp = s.pcu.clamp ∧ (yieldOwn s).stl.stop = s.stl.stop ∧ (yieldOwn s).sht.clock = s.sht.clock ∧
    (yieldOwn s).sht.ownDigest = s.sht.ownDigest ∧ (yieldOwn s).orq.queue = s.orq.queue ∧
    (yieldOwn s).orq.heldList = s.orq.heldList ∧ (yieldOwn s).orq.arrivals = s.orq.arrivals ∧
    (yieldOwn s).wrs.counter = s.wrs.counter ∧ (yieldOwn s).wrs.slots = s.wrs.slots := by
  refine ⟨?_, ?_, ?_, ?_, ?_, ?_, ?_, ?_, ?_, ?_, ?_, ?_, ?_, ?_, ?_, ?_, ?_⟩ <;>
    (simp only [yieldOwn]; (repeat' split) <;> (try simp) <;> (repeat' split) <;> (try simp) <;> (repeat' split) <;> simp)

@[simp] theorem driveRequest_frame (mode : DriveMode) (trip : Nat) (s : State) :
    (driveRequest mode trip s).inReset = s.inReset ∧ (driveRequest mode trip s).node = s.node ∧
    (driveRequest mode trip s).settings = s.settings ∧ (driveRequest mode trip s).now = s.now ∧
    (driveRequest mode trip s).pending = s.pending ∧ (driveRequest mode trip s).tru = s.tru ∧
    (driveRequest mode trip s).wsq.station = s.wsq.station ∧
    (driveRequest mode trip s).wsq.isolated = s.wsq.isolated ∧ (driveRequest mode trip s).pcu.clamp = s.pcu.clamp ∧
    (driveRequest mode trip s).stl.stop = s.stl.stop ∧ (driveRequest mode trip s).sht.clock = s.sht.clock ∧
    (driveRequest mode trip s).sht.ownDigest = s.sht.ownDigest ∧ (driveRequest mode trip s).orq.queue = s.orq.queue ∧
    (driveRequest mode trip s).orq.heldList = s.orq.heldList ∧
    (driveRequest mode trip s).orq.arrivals = s.orq.arrivals ∧
    (driveRequest mode trip s).wrs.counter = s.wrs.counter ∧ (driveRequest mode trip s).wrs.slots = s.wrs.slots := by
  refine ⟨?_, ?_, ?_, ?_, ?_, ?_, ?_, ?_, ?_, ?_, ?_, ?_, ?_, ?_, ?_, ?_, ?_⟩ <;>
    (simp only [driveRequest]; (repeat' split) <;> (try simp) <;> (repeat' split) <;> (try simp) <;> (repeat' split) <;> simp)

@[simp] theorem endUpsetCurrent_frame (s : State) :
    (endUpsetCurrent s).inReset = s.inReset ∧ (endUpsetCurrent s).node = s.node ∧
    (endUpsetCurrent s).settings = s.settings ∧ (endUpsetCurrent s).now = s.now ∧
    (endUpsetCurrent s).pending = s.pending ∧ (endUpsetCurrent s).tru = s.tru ∧
    (endUpsetCurrent s).wsq.station = s.wsq.station ∧ (endUpsetCurrent s).wsq.isolated = s.wsq.isolated ∧
    (endUpsetCurrent s).pcu.clamp = s.pcu.clamp ∧ (endUpsetCurrent s).stl.stop = s.stl.stop ∧
    (endUpsetCurrent s).sht.clock = s.sht.clock ∧ (endUpsetCurrent s).sht.ownDigest = s.sht.ownDigest ∧
    (endUpsetCurrent s).orq.queue = s.orq.queue ∧ (endUpsetCurrent s).orq.heldList = s.orq.heldList ∧
    (endUpsetCurrent s).orq.arrivals = s.orq.arrivals ∧ (endUpsetCurrent s).wrs.counter = s.wrs.counter ∧
    (endUpsetCurrent s).wrs.slots = s.wrs.slots := by
  refine ⟨?_, ?_, ?_, ?_, ?_, ?_, ?_, ?_, ?_, ?_, ?_, ?_, ?_, ?_, ?_, ?_, ?_⟩ <;>
    (simp only [endUpsetCurrent]; (repeat' split) <;> (try simp) <;> (repeat' split) <;> (try simp) <;> (repeat' split) <;> simp)

@[simp] theorem endCool_frame (s : State) :
    (endCool s).inReset = s.inReset ∧ (endCool s).node = s.node ∧ (endCool s).settings = s.settings ∧
    (endCool s).now = s.now ∧ (endCool s).pending = s.pending ∧ (endCool s).free = s.free ∧
    (endCool s).flash = s.flash ∧ (endCool s).cdr = s.cdr ∧ (endCool s).tru = s.tru ∧ (endCool s).stl = s.stl ∧
    (endCool s).sht = s.sht ∧ (endCool s).lkc = s.lkc ∧ (endCool s).orq = s.orq ∧
    (endCool s).wsq.station = s.wsq.station ∧ (endCool s).wsq.isolated = s.wsq.isolated ∧
    (endCool s).pcu.clamp = s.pcu.clamp ∧ (endCool s).wrs.counter = s.wrs.counter ∧
    (endCool s).wrs.slots = s.wrs.slots := by
  refine ⟨?_, ?_, ?_, ?_, ?_, ?_, ?_, ?_, ?_, ?_, ?_, ?_, ?_, ?_, ?_, ?_, ?_, ?_⟩ <;>
    (simp only [endCool]; (repeat' split) <;> (try simp) <;> (repeat' split) <;> (try simp) <;> (repeat' split) <;> simp)

@[simp] theorem enterCool_frame (s : State) :
    (enterCool s).inReset = s.inReset ∧ (enterCool s).node = s.node ∧ (enterCool s).settings = s.settings ∧
    (enterCool s).now = s.now ∧ (enterCool s).pending = s.pending ∧ (enterCool s).free = s.free ∧
    (enterCool s).flash = s.flash ∧ (enterCool s).cdr = s.cdr ∧ (enterCool s).tru = s.tru ∧
    (enterCool s).stl = s.stl ∧ (enterCool s).sht = s.sht ∧ (enterCool s).lkc = s.lkc ∧ (enterCool s).orq = s.orq ∧
    (enterCool s).wsq.station = s.wsq.station ∧ (enterCool s).wsq.isolated = s.wsq.isolated ∧
    (enterCool s).pcu.clamp = s.pcu.clamp ∧ (enterCool s).wrs.counter = s.wrs.counter ∧
    (enterCool s).wrs.slots = s.wrs.slots := by
  refine ⟨?_, ?_, ?_, ?_, ?_, ?_, ?_, ?_, ?_, ?_, ?_, ?_, ?_, ?_, ?_, ?_, ?_, ?_⟩ <;>
    (simp only [enterCool]; (repeat' split) <;> (try simp) <;> (repeat' split) <;> (try simp) <;> (repeat' split) <;> simp)

@[simp] theorem beginEnding_frame (reason : Reason) (s : State) :
    (beginEnding reason s).inReset = s.inReset ∧ (beginEnding reason s).node = s.node ∧
    (beginEnding reason s).settings = s.settings ∧ (beginEnding reason s).now = s.now ∧
    (beginEnding reason s).pending = s.pending ∧ (beginEnding reason s).free = s.free ∧
    (beginEnding reason s).flash = s.flash ∧ (beginEnding reason s).cdr = s.cdr ∧ (beginEnding reason s).tru = s.tru ∧
    (beginEnding reason s).stl = s.stl ∧ (beginEnding reason s).sht = s.sht ∧ (beginEnding reason s).lkc = s.lkc ∧
    (beginEnding reason s).orq = s.orq ∧ (beginEnding reason s).wrs = s.wrs ∧
    (beginEnding reason s).wsq.station = s.wsq.station ∧ (beginEnding reason s).wsq.phase = s.wsq.phase ∧
    (beginEnding reason s).wsq.isolated = s.wsq.isolated ∧ (beginEnding reason s).pcu.clamp = s.pcu.clamp := by
  refine ⟨?_, ?_, ?_, ?_, ?_, ?_, ?_, ?_, ?_, ?_, ?_, ?_, ?_, ?_, ?_, ?_, ?_, ?_⟩ <;>
    first | rfl | (unfold beginEnding; (repeat' split) <;> simp; done)

@[simp] theorem abortCheck_frame (cause : FaultCode) (s : State) :
    (abortCheck cause s).inReset = s.inReset ∧ (abortCheck cause s).node = s.node ∧
    (abortCheck cause s).settings = s.settings ∧ (abortCheck cause s).now = s.now ∧
    (abortCheck cause s).pending = s.pending ∧ (abortCheck cause s).free = s.free ∧
    (abortCheck cause s).flash = s.flash ∧ (abortCheck cause s).cdr = s.cdr ∧ (abortCheck cause s).tru = s.tru ∧
    (abortCheck cause s).stl = s.stl ∧ (abortCheck cause s).sht = s.sht ∧
    (abortCheck cause s).wsq.isolated = s.wsq.isolated ∧ (abortCheck cause s).pcu.clamp = s.pcu.clamp ∧
    (abortCheck cause s).orq.heldList = s.orq.heldList ∧ (abortCheck cause s).orq.arrivals = s.orq.arrivals ∧
    (abortCheck cause s).wrs.counter = s.wrs.counter ∧ (abortCheck cause s).wrs.slots = s.wrs.slots := by
  refine ⟨?_, ?_, ?_, ?_, ?_, ?_, ?_, ?_, ?_, ?_, ?_, ?_, ?_, ?_, ?_, ?_, ?_⟩ <;>
    first | rfl | (unfold abortCheck; (repeat' split) <;> simp; done)

@[simp] theorem abortBeforeCurrent_frame (cause : FaultCode) (s : State) :
    (abortBeforeCurrent cause s).inReset = s.inReset ∧ (abortBeforeCurrent cause s).node = s.node ∧
    (abortBeforeCurrent cause s).settings = s.settings ∧ (abortBeforeCurrent cause s).now = s.now ∧
    (abortBeforeCurrent cause s).pending = s.pending ∧ (abortBeforeCurrent cause s).free = s.free ∧
    (abortBeforeCurrent cause s).flash = s.flash ∧ (abortBeforeCurrent cause s).cdr = s.cdr ∧
    (abortBeforeCurrent cause s).tru = s.tru ∧ (abortBeforeCurrent cause s).stl = s.stl ∧
    (abortBeforeCurrent cause s).sht = s.sht ∧ (abortBeforeCurrent cause s).wsq.isolated = s.wsq.isolated ∧
    (abortBeforeCurrent cause s).pcu.clamp = s.pcu.clamp ∧
    (abortBeforeCurrent cause s).orq.heldList = s.orq.heldList ∧
    (abortBeforeCurrent cause s).orq.arrivals = s.orq.arrivals ∧
    (abortBeforeCurrent cause s).wrs.counter = s.wrs.counter ∧ (abortBeforeCurrent cause s).wrs.slots = s.wrs.slots := by
  refine ⟨?_, ?_, ?_, ?_, ?_, ?_, ?_, ?_, ?_, ?_, ?_, ?_, ?_, ?_, ?_, ?_, ?_⟩ <;>
    first | rfl | (unfold abortBeforeCurrent; (repeat' split) <;> simp; done)

@[simp] theorem stopFlashTime_frame (s : State) :
    (stopFlashTime s).inReset = s.inReset ∧ (stopFlashTime s).node = s.node ∧
    (stopFlashTime s).settings = s.settings ∧ (stopFlashTime s).now = s.now ∧ (stopFlashTime s).pending = s.pending ∧
    (stopFlashTime s).free = s.free ∧ (stopFlashTime s).cdr = s.cdr ∧ (stopFlashTime s).pcu = s.pcu ∧
    (stopFlashTime s).tru = s.tru ∧ (stopFlashTime s).stl = s.stl ∧ (stopFlashTime s).sht = s.sht ∧
    (stopFlashTime s).lkc = s.lkc ∧ (stopFlashTime s).orq = s.orq ∧ (stopFlashTime s).wrs = s.wrs ∧
    (stopFlashTime s).wsq.station = s.wsq.station ∧ (stopFlashTime s).wsq.phase = s.wsq.phase ∧
    (stopFlashTime s).wsq.isolated = s.wsq.isolated := by
  refine ⟨?_, ?_, ?_, ?_, ?_, ?_, ?_, ?_, ?_, ?_, ?_, ?_, ?_, ?_, ?_, ?_, ?_⟩ <;>
    first | rfl | (unfold stopFlashTime; (repeat' split) <;> simp; done)

@[simp] theorem flashEnds_frame (s : State) :
    (flashEnds s).inReset = s.inReset ∧ (flashEnds s).node = s.node ∧ (flashEnds s).settings = s.settings ∧
    (flashEnds s).now = s.now ∧ (flashEnds s).pending = s.pending ∧ (flashEnds s).free = s.free ∧
    (flashEnds s).wsq = s.wsq ∧ (flashEnds s).cdr = s.cdr ∧ (flashEnds s).pcu = s.pcu ∧ (flashEnds s).tru = s.tru ∧
    (flashEnds s).stl = s.stl ∧ (flashEnds s).sht = s.sht ∧ (flashEnds s).lkc = s.lkc ∧ (flashEnds s).orq = s.orq ∧
    (flashEnds s).wrs = s.wrs := by
  refine ⟨?_, ?_, ?_, ?_, ?_, ?_, ?_, ?_, ?_, ?_, ?_, ?_, ?_, ?_, ?_⟩ <;>
    first | rfl | (unfold flashEnds; (repeat' split) <;> simp; done)

@[simp] theorem stopWork_frame (s : State) :
    (stopWork s).inReset = s.inReset ∧ (stopWork s).node = s.node ∧ (stopWork s).settings = s.settings ∧
    (stopWork s).now = s.now ∧ (stopWork s).pending = s.pending ∧ (stopWork s).free = s.free ∧
    (stopWork s).cdr = s.cdr ∧ (stopWork s).pcu = s.pcu ∧ (stopWork s).stl = s.stl ∧ (stopWork s).sht = s.sht ∧
    (stopWork s).lkc = s.lkc ∧ (stopWork s).orq = s.orq ∧ (stopWork s).wrs = s.wrs ∧
    (stopWork s).wsq.station = s.wsq.station ∧ (stopWork s).wsq.phase = s.wsq.phase ∧
    (stopWork s).wsq.isolated = s.wsq.isolated := by
  refine ⟨?_, ?_, ?_, ?_, ?_, ?_, ?_, ?_, ?_, ?_, ?_, ?_, ?_, ?_, ?_, ?_⟩ <;>
    first | rfl | (unfold stopWork; (repeat' split) <;> simp; done)

@[simp] theorem abortFlash_frame (s : State) :
    (abortFlash s).inReset = s.inReset ∧ (abortFlash s).node = s.node ∧ (abortFlash s).settings = s.settings ∧
    (abortFlash s).now = s.now ∧ (abortFlash s).pending = s.pending ∧ (abortFlash s).tru = s.tru ∧
    (abortFlash s).wsq.station = s.wsq.station ∧ (abortFlash s).wsq.isolated = s.wsq.isolated ∧
    (abortFlash s).pcu.clamp = s.pcu.clamp ∧ (abortFlash s).stl.stop = s.stl.stop ∧
    (abortFlash s).sht.clock = s.sht.clock ∧ (abortFlash s).sht.ownDigest = s.sht.ownDigest ∧
    (abortFlash s).orq.queue = s.orq.queue ∧ (abortFlash s).orq.heldList = s.orq.heldList ∧
    (abortFlash s).orq.arrivals = s.orq.arrivals ∧ (abortFlash s).wrs.counter = s.wrs.counter ∧
    (abortFlash s).wrs.slots = s.wrs.slots := by
  refine ⟨?_, ?_, ?_, ?_, ?_, ?_, ?_, ?_, ?_, ?_, ?_, ?_, ?_, ?_, ?_, ?_, ?_⟩ <;>
    (simp only [abortFlash]; (repeat' split) <;> (try simp) <;> (repeat' split) <;> (try simp) <;> (repeat' split) <;> simp)

@[simp] theorem abortUpset_frame (s : State) :
    (abortUpset s).inReset = s.inReset ∧ (abortUpset s).node = s.node ∧ (abortUpset s).settings = s.settings ∧
    (abortUpset s).now = s.now ∧ (abortUpset s).pending = s.pending ∧ (abortUpset s).tru = s.tru ∧
    (abortUpset s).wsq.station = s.wsq.station ∧ (abortUpset s).wsq.isolated = s.wsq.isolated ∧
    (abortUpset s).pcu.clamp = s.pcu.clamp ∧ (abortUpset s).stl.stop = s.stl.stop ∧
    (abortUpset s).sht.clock = s.sht.clock ∧ (abortUpset s).sht.ownDigest = s.sht.ownDigest ∧
    (abortUpset s).orq.queue = s.orq.queue ∧ (abortUpset s).orq.heldList = s.orq.heldList ∧
    (abortUpset s).orq.arrivals = s.orq.arrivals ∧ (abortUpset s).wrs.counter = s.wrs.counter ∧
    (abortUpset s).wrs.slots = s.wrs.slots := by
  refine ⟨?_, ?_, ?_, ?_, ?_, ?_, ?_, ?_, ?_, ?_, ?_, ?_, ?_, ?_, ?_, ?_, ?_⟩ <;>
    (simp only [abortUpset]; (repeat' split) <;> (try simp) <;> (repeat' split) <;> (try simp) <;> (repeat' split) <;> simp)

@[simp] theorem abortTrim_frame (s : State) :
    (abortTrim s).inReset = s.inReset ∧ (abortTrim s).node = s.node ∧ (abortTrim s).settings = s.settings ∧
    (abortTrim s).now = s.now ∧ (abortTrim s).pending = s.pending ∧ (abortTrim s).free = s.free ∧
    (abortTrim s).flash = s.flash ∧ (abortTrim s).cdr = s.cdr ∧ (abortTrim s).tru = s.tru ∧
    (abortTrim s).stl = s.stl ∧ (abortTrim s).sht = s.sht ∧ (abortTrim s).lkc = s.lkc ∧ (abortTrim s).orq = s.orq ∧
    (abortTrim s).wsq.station = s.wsq.station ∧ (abortTrim s).wsq.isolated = s.wsq.isolated ∧
    (abortTrim s).pcu.clamp = s.pcu.clamp ∧ (abortTrim s).wrs.counter = s.wrs.counter ∧
    (abortTrim s).wrs.slots = s.wrs.slots := by
  refine ⟨?_, ?_, ?_, ?_, ?_, ?_, ?_, ?_, ?_, ?_, ?_, ?_, ?_, ?_, ?_, ?_, ?_, ?_⟩ <;>
    (simp only [abortTrim]; (repeat' split) <;> (try simp) <;> (repeat' split) <;> (try simp) <;> (repeat' split) <;> simp)

@[simp] theorem beginPath_frame (cause : FaultCode) (phase : WeldPhase) (s : State) :
    (beginPath cause phase s).inReset = s.inReset ∧ (beginPath cause phase s).node = s.node ∧
    (beginPath cause phase s).settings = s.settings ∧ (beginPath cause phase s).now = s.now ∧
    (beginPath cause phase s).pending = s.pending ∧ (beginPath cause phase s).tru = s.tru ∧
    (beginPath cause phase s).wsq.isolated = s.wsq.isolated ∧ (beginPath cause phase s).pcu.clamp = s.pcu.clamp ∧
    (beginPath cause phase s).stl.stop = s.stl.stop ∧ (beginPath cause phase s).sht.clock = s.sht.clock ∧
    (beginPath cause phase s).sht.ownDigest = s.sht.ownDigest ∧
    (beginPath cause phase s).orq.heldList = s.orq.heldList ∧
    (beginPath cause phase s).orq.arrivals = s.orq.arrivals ∧ (beginPath cause phase s).wrs.counter = s.wrs.counter ∧
    (beginPath cause phase s).wrs.slots = s.wrs.slots := by
  refine ⟨?_, ?_, ?_, ?_, ?_, ?_, ?_, ?_, ?_, ?_, ?_, ?_, ?_, ?_, ?_⟩ <;>
    (simp only [beginPath]; (repeat' split) <;> (try simp) <;> (repeat' split) <;> (try simp) <;> (repeat' split) <;> simp)

@[simp] theorem startAbort_frame (cause : FaultCode) (phase : WeldPhase) (s : State) :
    (startAbort cause phase s).inReset = s.inReset ∧ (startAbort cause phase s).node = s.node ∧
    (startAbort cause phase s).settings = s.settings ∧ (startAbort cause phase s).now = s.now ∧
    (startAbort cause phase s).pending = s.pending ∧ (startAbort cause phase s).wsq.isolated = s.wsq.isolated ∧
    (startAbort cause phase s).pcu.clamp = s.pcu.clamp ∧ (startAbort cause phase s).stl.stop = s.stl.stop ∧
    (startAbort cause phase s).sht.clock = s.sht.clock ∧ (startAbort cause phase s).sht.ownDigest = s.sht.ownDigest ∧
    (startAbort cause phase s).orq.heldList = s.orq.heldList ∧
    (startAbort cause phase s).orq.arrivals = s.orq.arrivals ∧
    (startAbort cause phase s).wrs.counter = s.wrs.counter ∧ (startAbort cause phase s).wrs.slots = s.wrs.slots := by
  refine ⟨?_, ?_, ?_, ?_, ?_, ?_, ?_, ?_, ?_, ?_, ?_, ?_, ?_, ?_⟩ <;>
    (simp only [startAbort]; (repeat' split) <;> (try simp) <;> (repeat' split) <;> (try simp) <;> (repeat' split) <;> simp)

@[simp] theorem tryAbort_frame (cause : FaultCode) (s : State) :
    (tryAbort cause s).inReset = s.inReset ∧ (tryAbort cause s).node = s.node ∧
    (tryAbort cause s).settings = s.settings ∧ (tryAbort cause s).now = s.now ∧
    (tryAbort cause s).pending = s.pending ∧ (tryAbort cause s).wsq.isolated = s.wsq.isolated ∧
    (tryAbort cause s).pcu.clamp = s.pcu.clamp ∧ (tryAbort cause s).stl.stop = s.stl.stop ∧
    (tryAbort cause s).sht.clock = s.sht.clock ∧ (tryAbort cause s).sht.ownDigest = s.sht.ownDigest ∧
    (tryAbort cause s).orq.heldList = s.orq.heldList ∧ (tryAbort cause s).orq.arrivals = s.orq.arrivals ∧
    (tryAbort cause s).wrs.counter = s.wrs.counter ∧ (tryAbort cause s).wrs.slots = s.wrs.slots := by
  refine ⟨?_, ?_, ?_, ?_, ?_, ?_, ?_, ?_, ?_, ?_, ?_, ?_, ?_, ?_⟩ <;>
    (simp only [tryAbort]; (repeat' split) <;> (try simp) <;> (repeat' split) <;> (try simp) <;> (repeat' split) <;> simp)

@[simp] theorem fileFault_frame (code : FaultCode) (s : State) :
    (fileFault code s).inReset = s.inReset ∧ (fileFault code s).node = s.node ∧
    (fileFault code s).settings = s.settings ∧ (fileFault code s).now = s.now ∧
    (fileFault code s).pending = s.pending ∧ (fileFault code s).free = s.free ∧ (fileFault code s).flash = s.flash ∧
    (fileFault code s).cdr = s.cdr ∧ (fileFault code s).pcu = s.pcu ∧ (fileFault code s).tru = s.tru ∧
    (fileFault code s).stl = s.stl ∧ (fileFault code s).sht = s.sht ∧ (fileFault code s).lkc = s.lkc ∧
    (fileFault code s).orq = s.orq ∧ (fileFault code s).wsq.station = s.wsq.station ∧
    (fileFault code s).wsq.phase = s.wsq.phase ∧ (fileFault code s).wsq.isolated = s.wsq.isolated ∧
    (fileFault code s).wrs.counter = s.wrs.counter ∧ (fileFault code s).wrs.slots = s.wrs.slots := by
  refine ⟨?_, ?_, ?_, ?_, ?_, ?_, ?_, ?_, ?_, ?_, ?_, ?_, ?_, ?_, ?_, ?_, ?_, ?_, ?_⟩ <;>
    first | rfl | (unfold fileFault; (repeat' split) <;> simp; done)

@[simp] theorem reportFault_frame (code : FaultCode) (s : State) :
    (reportFault code s).inReset = s.inReset ∧ (reportFault code s).node = s.node ∧
    (reportFault code s).settings = s.settings ∧ (reportFault code s).now = s.now ∧
    (reportFault code s).pending = s.pending ∧ (reportFault code s).wsq.isolated = s.wsq.isolated ∧
    (reportFault code s).pcu.clamp = s.pcu.clamp ∧ (reportFault code s).stl.stop = s.stl.stop ∧
    (reportFault code s).sht.clock = s.sht.clock ∧ (reportFault code s).sht.ownDigest = s.sht.ownDigest ∧
    (reportFault code s).orq.heldList = s.orq.heldList ∧ (reportFault code s).orq.arrivals = s.orq.arrivals ∧
    (reportFault code s).wrs.counter = s.wrs.counter ∧ (reportFault code s).wrs.slots = s.wrs.slots := by
  refine ⟨?_, ?_, ?_, ?_, ?_, ?_, ?_, ?_, ?_, ?_, ?_, ?_, ?_, ?_⟩ <;>
    (simp only [reportFault]; (repeat' split) <;> (try simp) <;> (repeat' split) <;> (try simp) <;> (repeat' split) <;> simp)

end Sys2Proof.Machine
end

