-- ==== Sys2Proof/Laws/PhasesFrame.lean ====
section
/-! SUPPORT. What each operation of Machine/Phases.lean leaves as it was. -/

namespace Sys2Proof.Machine

@[simp] theorem flashPause_frame (s : State) :
    (flashPause s).inReset = s.inReset ∧ (flashPause s).node = s.node ∧ (flashPause s).settings = s.settings ∧
    (flashPause s).now = s.now ∧ (flashPause s).pending = s.pending ∧ (flashPause s).free = s.free ∧
    (flashPause s).wsq = s.wsq ∧ (flashPause s).cdr = s.cdr ∧ (flashPause s).tru = s.tru ∧
    (flashPause s).stl = s.stl ∧ (flashPause s).sht = s.sht ∧ (flashPause s).lkc = s.lkc ∧
    (flashPause s).orq = s.orq ∧ (flashPause s).wrs = s.wrs ∧ (flashPause s).pcu.clamp = s.pcu.clamp := by
  refine ⟨?_, ?_, ?_, ?_, ?_, ?_, ?_, ?_, ?_, ?_, ?_, ?_, ?_, ?_, ?_⟩ <;>
    first | rfl | (unfold flashPause; (repeat' split) <;> simp; done)

@[simp] theorem cutUpset_frame (s : State) :
    (cutUpset s).inReset = s.inReset ∧ (cutUpset s).node = s.node ∧ (cutUpset s).settings = s.settings ∧
    (cutUpset s).now = s.now ∧ (cutUpset s).pending = s.pending ∧ (cutUpset s).wsq.isolated = s.wsq.isolated ∧
    (cutUpset s).pcu.clamp = s.pcu.clamp ∧ (cutUpset s).stl.stop = s.stl.stop ∧ (cutUpset s).sht.clock = s.sht.clock ∧
    (cutUpset s).sht.ownDigest = s.sht.ownDigest ∧ (cutUpset s).orq.heldList = s.orq.heldList ∧
    (cutUpset s).orq.arrivals = s.orq.arrivals ∧ (cutUpset s).wrs.counter = s.wrs.counter ∧
    (cutUpset s).wrs.slots = s.wrs.slots := by
  refine ⟨?_, ?_, ?_, ?_, ?_, ?_, ?_, ?_, ?_, ?_, ?_, ?_, ?_, ?_⟩ <;>
    (simp only [cutUpset]; (repeat' split) <;> (try simp) <;> (repeat' split) <;> (try simp) <;> (repeat' split) <;> simp)

@[simp] theorem beginPause_frame (s : State) :
    (beginPause s).inReset = s.inReset ∧ (beginPause s).node = s.node ∧ (beginPause s).settings = s.settings ∧
    (beginPause s).now = s.now ∧ (beginPause s).pending = s.pending ∧ (beginPause s).wsq.isolated = s.wsq.isolated ∧
    (beginPause s).pcu.clamp = s.pcu.clamp ∧ (beginPause s).stl.stop = s.stl.stop ∧
    (beginPause s).sht.clock = s.sht.clock ∧ (beginPause s).sht.ownDigest = s.sht.ownDigest ∧
    (beginPause s).orq.heldList = s.orq.heldList ∧ (beginPause s).orq.arrivals = s.orq.arrivals ∧
    (beginPause s).wrs.counter = s.wrs.counter ∧ (beginPause s).wrs.slots = s.wrs.slots := by
  refine ⟨?_, ?_, ?_, ?_, ?_, ?_, ?_, ?_, ?_, ?_, ?_, ?_, ?_, ?_⟩ <;>
    (simp only [beginPause]; (repeat' split) <;> (try simp) <;> (repeat' split) <;> (try simp) <;> (repeat' split) <;> simp)

@[simp] theorem enterHold_frame (s : State) :
    (enterHold s).inReset = s.inReset ∧ (enterHold s).node = s.node ∧ (enterHold s).settings = s.settings ∧
    (enterHold s).now = s.now ∧ (enterHold s).pending = s.pending ∧ (enterHold s).free = s.free ∧
    (enterHold s).flash = s.flash ∧ (enterHold s).cdr = s.cdr ∧ (enterHold s).tru = s.tru ∧
    (enterHold s).stl = s.stl ∧ (enterHold s).sht = s.sht ∧ (enterHold s).lkc = s.lkc ∧ (enterHold s).orq = s.orq ∧
    (enterHold s).wsq.station = s.wsq.station ∧ (enterHold s).wsq.isolated = s.wsq.isolated ∧
    (enterHold s).pcu.clamp = s.pcu.clamp ∧ (enterHold s).wrs.counter = s.wrs.counter ∧
    (enterHold s).wrs.slots = s.wrs.slots := by
  refine ⟨?_, ?_, ?_, ?_, ?_, ?_, ?_, ?_, ?_, ?_, ?_, ?_, ?_, ?_, ?_, ?_, ?_, ?_⟩ <;>
    first | rfl | (unfold enterHold; (repeat' split) <;> simp; done)

@[simp] theorem enterTrim_frame (s : State) :
    (enterTrim s).inReset = s.inReset ∧ (enterTrim s).node = s.node ∧ (enterTrim s).settings = s.settings ∧
    (enterTrim s).now = s.now ∧ (enterTrim s).pending = s.pending ∧ (enterTrim s).free = s.free ∧
    (enterTrim s).flash = s.flash ∧ (enterTrim s).cdr = s.cdr ∧ (enterTrim s).stl = s.stl ∧
    (enterTrim s).sht = s.sht ∧ (enterTrim s).lkc = s.lkc ∧ (enterTrim s).orq = s.orq ∧
    (enterTrim s).wsq.station = s.wsq.station ∧ (enterTrim s).wsq.isolated = s.wsq.isolated ∧
    (enterTrim s).pcu.clamp = s.pcu.clamp ∧ (enterTrim s).wrs.counter = s.wrs.counter ∧
    (enterTrim s).wrs.slots = s.wrs.slots := by
  refine ⟨?_, ?_, ?_, ?_, ?_, ?_, ?_, ?_, ?_, ?_, ?_, ?_, ?_, ?_, ?_, ?_, ?_⟩ <;>
    (simp only [enterTrim]; (repeat' split) <;> (try simp) <;> (repeat' split) <;> (try simp) <;> (repeat' split) <;> simp)

@[simp] theorem trimReport_frame (result : TrimResult) (s : State) :
    (trimReport result s).inReset = s.inReset ∧ (trimReport result s).node = s.node ∧
    (trimReport result s).settings = s.settings ∧ (trimReport result s).now = s.now ∧
    (trimReport result s).pending = s.pending ∧ (trimReport result s).free = s.free ∧
    (trimReport result s).flash = s.flash ∧ (trimReport result s).cdr = s.cdr ∧ (trimReport result s).stl = s.stl ∧
    (trimReport result s).sht = s.sht ∧ (trimReport result s).lkc = s.lkc ∧ (trimReport result s).orq = s.orq ∧
    (trimReport result s).wsq.station = s.wsq.station ∧ (trimReport result s).wsq.isolated = s.wsq.isolated ∧
    (trimReport result s).pcu.clamp = s.pcu.clamp ∧ (trimReport result s).wrs.counter = s.wrs.counter ∧
    (trimReport result s).wrs.slots = s.wrs.slots := by
  refine ⟨?_, ?_, ?_, ?_, ?_, ?_, ?_, ?_, ?_, ?_, ?_, ?_, ?_, ?_, ?_, ?_, ?_⟩ <;>
    (simp only [trimReport]; (repeat' split) <;> (try simp) <;> (repeat' split) <;> (try simp) <;> (repeat' split) <;> simp)

@[simp] theorem readPull_frame (s : State) :
    (readPull s).inReset = s.inReset ∧ (readPull s).node = s.node ∧ (readPull s).settings = s.settings ∧
    (readPull s).now = s.now ∧ (readPull s).pending = s.pending ∧ (readPull s).wsq.isolated = s.wsq.isolated ∧
    (readPull s).pcu.clamp = s.pcu.clamp ∧ (readPull s).stl.stop = s.stl.stop ∧ (readPull s).sht.clock = s.sht.clock ∧
    (readPull s).sht.ownDigest = s.sht.ownDigest ∧ (readPull s).orq.heldList = s.orq.heldList ∧
    (readPull s).orq.arrivals = s.orq.arrivals ∧ (readPull s).wrs.counter = s.wrs.counter ∧
    (readPull s).wrs.slots = s.wrs.slots := by
  refine ⟨?_, ?_, ?_, ?_, ?_, ?_, ?_, ?_, ?_, ?_, ?_, ?_, ?_, ?_⟩ <;>
    (simp only [readPull]; (repeat' split) <;> (try simp) <;> (repeat' split) <;> (try simp) <;> (repeat' split) <;> simp)

@[simp] theorem endHold_frame (s : State) :
    (endHold s).inReset = s.inReset ∧ (endHold s).node = s.node ∧ (endHold s).settings = s.settings ∧
    (endHold s).now = s.now ∧ (endHold s).pending = s.pending ∧ (endHold s).wsq.isolated = s.wsq.isolated ∧
    (endHold s).pcu.clamp = s.pcu.clamp ∧ (endHold s).stl.stop = s.stl.stop ∧ (endHold s).sht.clock = s.sht.clock ∧
    (endHold s).sht.ownDigest = s.sht.ownDigest ∧ (endHold s).orq.heldList = s.orq.heldList ∧
    (endHold s).orq.arrivals = s.orq.arrivals ∧ (endHold s).wrs.counter = s.wrs.counter ∧
    (endHold s).wrs.slots = s.wrs.slots := by
  refine ⟨?_, ?_, ?_, ?_, ?_, ?_, ?_, ?_, ?_, ?_, ?_, ?_, ?_, ?_⟩ <;>
    (simp only [endHold]; (repeat' split) <;> (try simp) <;> (repeat' split) <;> (try simp) <;> (repeat' split) <;> simp)

@[simp] theorem requestUpset_frame (s : State) :
    (requestUpset s).inReset = s.inReset ∧ (requestUpset s).node = s.node ∧ (requestUpset s).settings = s.settings ∧
    (requestUpset s).now = s.now ∧ (requestUpset s).pending = s.pending ∧ (requestUpset s).free = s.free ∧
    (requestUpset s).wsq = s.wsq ∧ (requestUpset s).flash = s.flash ∧ (requestUpset s).cdr = s.cdr ∧
    (requestUpset s).tru = s.tru ∧ (requestUpset s).stl = s.stl ∧ (requestUpset s).sht = s.sht ∧
    (requestUpset s).lkc = s.lkc ∧ (requestUpset s).orq = s.orq ∧ (requestUpset s).wrs = s.wrs ∧
    (requestUpset s).pcu.clamp = s.pcu.clamp := by
  refine ⟨?_, ?_, ?_, ?_, ?_, ?_, ?_, ?_, ?_, ?_, ?_, ?_, ?_, ?_, ?_, ?_⟩ <;>
    first | rfl | (unfold requestUpset; (repeat' split) <;> simp; done)

@[simp] theorem enterUpset_frame (s : State) :
    (enterUpset s).inReset = s.inReset ∧ (enterUpset s).node = s.node ∧ (enterUpset s).settings = s.settings ∧
    (enterUpset s).now = s.now ∧ (enterUpset s).pending = s.pending ∧ (enterUpset s).wsq.isolated = s.wsq.isolated ∧
    (enterUpset s).pcu.clamp = s.pcu.clamp ∧ (enterUpset s).stl.stop = s.stl.stop ∧
    (enterUpset s).sht.clock = s.sht.clock ∧ (enterUpset s).sht.ownDigest = s.sht.ownDigest ∧
    (enterUpset s).orq.heldList = s.orq.heldList ∧ (enterUpset s).orq.arrivals = s.orq.arrivals ∧
    (enterUpset s).wrs.counter = s.wrs.counter ∧ (enterUpset s).wrs.slots = s.wrs.slots := by
  refine ⟨?_, ?_, ?_, ?_, ?_, ?_, ?_, ?_, ?_, ?_, ?_, ?_, ?_, ?_⟩ <;>
    (simp only [enterUpset]; (repeat' split) <;> (try simp) <;> (repeat' split) <;> (try simp) <;> (repeat' split) <;> simp)

@[simp] theorem checkUpset_frame (distance : Int) (s : State) :
    (checkUpset distance s).inReset = s.inReset ∧ (checkUpset distance s).node = s.node ∧
    (checkUpset distance s).settings = s.settings ∧ (checkUpset distance s).now = s.now ∧
    (checkUpset distance s).pending = s.pending ∧ (checkUpset distance s).wsq.isolated = s.wsq.isolated ∧
    (checkUpset distance s).pcu.clamp = s.pcu.clamp ∧ (checkUpset distance s).stl.stop = s.stl.stop ∧
    (checkUpset distance s).sht.clock = s.sht.clock ∧ (checkUpset distance s).sht.ownDigest = s.sht.ownDigest ∧
    (checkUpset distance s).orq.heldList = s.orq.heldList ∧ (checkUpset distance s).orq.arrivals = s.orq.arrivals ∧
    (checkUpset distance s).wrs.counter = s.wrs.counter ∧ (checkUpset distance s).wrs.slots = s.wrs.slots := by
  refine ⟨?_, ?_, ?_, ?_, ?_, ?_, ?_, ?_, ?_, ?_, ?_, ?_, ?_, ?_⟩ <;>
    (simp only [checkUpset]; (repeat' split) <;> (try simp) <;> (repeat' split) <;> (try simp) <;> (repeat' split) <;> simp)

@[simp] theorem endUpset_frame (position peak : Int) (s : State) :
    (endUpset position peak s).inReset = s.inReset ∧ (endUpset position peak s).node = s.node ∧
    (endUpset position peak s).settings = s.settings ∧ (endUpset position peak s).now = s.now ∧
    (endUpset position peak s).pending = s.pending ∧ (endUpset position peak s).wsq.isolated = s.wsq.isolated ∧
    (endUpset position peak s).pcu.clamp = s.pcu.clamp ∧ (endUpset position peak s).stl.stop = s.stl.stop ∧
    (endUpset position peak s).sht.clock = s.sht.clock ∧ (endUpset position peak s).sht.ownDigest = s.sht.ownDigest ∧
    (endUpset position peak s).orq.heldList = s.orq.heldList ∧
    (endUpset position peak s).orq.arrivals = s.orq.arrivals ∧
    (endUpset position peak s).wrs.counter = s.wrs.counter ∧ (endUpset position peak s).wrs.slots = s.wrs.slots := by
  refine ⟨?_, ?_, ?_, ?_, ?_, ?_, ?_, ?_, ?_, ?_, ?_, ?_, ?_, ?_⟩ <;>
    (simp only [endUpset]; (repeat' split) <;> (try simp) <;> (repeat' split) <;> (try simp) <;> (repeat' split) <;> simp)

@[simp] theorem feed_frame (s : State) :
    (feed s).inReset = s.inReset ∧ (feed s).node = s.node ∧ (feed s).settings = s.settings ∧ (feed s).now = s.now ∧
    (feed s).pending = s.pending ∧ (feed s).free = s.free ∧ (feed s).wsq = s.wsq ∧ (feed s).cdr = s.cdr ∧
    (feed s).tru = s.tru ∧ (feed s).stl = s.stl ∧ (feed s).sht = s.sht ∧ (feed s).lkc = s.lkc ∧ (feed s).orq = s.orq ∧
    (feed s).wrs = s.wrs ∧ (feed s).pcu.clamp = s.pcu.clamp := by
  refine ⟨?_, ?_, ?_, ?_, ?_, ?_, ?_, ?_, ?_, ?_, ?_, ?_, ?_, ?_, ?_⟩ <;>
    first | rfl | (unfold feed; (repeat' split) <;> simp; done)

@[simp] theorem enterBoost_frame (s : State) :
    (enterBoost s).inReset = s.inReset ∧ (enterBoost s).node = s.node ∧ (enterBoost s).settings = s.settings ∧
    (enterBoost s).now = s.now ∧ (enterBoost s).pending = s.pending ∧ (enterBoost s).tru = s.tru ∧
    (enterBoost s).wsq.station = s.wsq.station ∧ (enterBoost s).wsq.isolated = s.wsq.isolated ∧
    (enterBoost s).pcu.clamp = s.pcu.clamp ∧ (enterBoost s).stl.stop = s.stl.stop ∧
    (enterBoost s).sht.clock = s.sht.clock ∧ (enterBoost s).sht.ownDigest = s.sht.ownDigest ∧
    (enterBoost s).orq.queue = s.orq.queue ∧ (enterBoost s).orq.heldList = s.orq.heldList ∧
    (enterBoost s).orq.arrivals = s.orq.arrivals ∧ (enterBoost s).wrs.counter = s.wrs.counter ∧
    (enterBoost s).wrs.slots = s.wrs.slots := by
  refine ⟨?_, ?_, ?_, ?_, ?_, ?_, ?_, ?_, ?_, ?_, ?_, ?_, ?_, ?_, ?_, ?_, ?_⟩ <;>
    (simp only [enterBoost]; (repeat' split) <;> (try simp) <;> (repeat' split) <;> (try simp) <;> (repeat' split) <;> simp)

@[simp] theorem endFlash_frame (s : State) :
    (endFlash s).inReset = s.inReset ∧ (endFlash s).node = s.node ∧ (endFlash s).settings = s.settings ∧
    (endFlash s).now = s.now ∧ (endFlash s).pending = s.pending ∧ (endFlash s).wsq.isolated = s.wsq.isolated ∧
    (endFlash s).pcu.clamp = s.pcu.clamp ∧ (endFlash s).stl.stop = s.stl.stop ∧ (endFlash s).sht.clock = s.sht.clock ∧
    (endFlash s).sht.ownDigest = s.sht.ownDigest ∧ (endFlash s).orq.heldList = s.orq.heldList ∧
    (endFlash s).orq.arrivals = s.orq.arrivals ∧ (endFlash s).wrs.counter = s.wrs.counter ∧
    (endFlash s).wrs.slots = s.wrs.slots := by
  refine ⟨?_, ?_, ?_, ?_, ?_, ?_, ?_, ?_, ?_, ?_, ?_, ?_, ?_, ?_⟩ <;>
    (simp only [endFlash]; (repeat' split) <;> (try simp) <;> (repeat' split) <;> (try simp) <;> (repeat' split) <;> simp)

@[simp] theorem enterFlash_frame (s : State) :
    (enterFlash s).inReset = s.inReset ∧ (enterFlash s).node = s.node ∧ (enterFlash s).settings = s.settings ∧
    (enterFlash s).now = s.now ∧ (enterFlash s).pending = s.pending ∧ (enterFlash s).free = s.free ∧
    (enterFlash s).cdr = s.cdr ∧ (enterFlash s).tru = s.tru ∧ (enterFlash s).stl = s.stl ∧
    (enterFlash s).sht = s.sht ∧ (enterFlash s).lkc = s.lkc ∧ (enterFlash s).orq = s.orq ∧
    (enterFlash s).wsq.station = s.wsq.station ∧ (enterFlash s).wsq.isolated = s.wsq.isolated ∧
    (enterFlash s).pcu.clamp = s.pcu.clamp ∧ (enterFlash s).wrs.counter = s.wrs.counter ∧
    (enterFlash s).wrs.slots = s.wrs.slots := by
  refine ⟨?_, ?_, ?_, ?_, ?_, ?_, ?_, ?_, ?_, ?_, ?_, ?_, ?_, ?_, ?_, ?_, ?_⟩ <;>
    first | rfl | (unfold enterFlash; (repeat' split) <;> simp; done)

@[simp] theorem retractStep_frame (s : State) :
    (retractStep s).inReset = s.inReset ∧ (retractStep s).node = s.node ∧ (retractStep s).settings = s.settings ∧
    (retractStep s).now = s.now ∧ (retractStep s).pending = s.pending ∧ (retractStep s).free = s.free ∧
    (retractStep s).wsq = s.wsq ∧ (retractStep s).cdr = s.cdr ∧ (retractStep s).tru = s.tru ∧
    (retractStep s).stl = s.stl ∧ (retractStep s).sht = s.sht ∧ (retractStep s).lkc = s.lkc ∧
    (retractStep s).orq = s.orq ∧ (retractStep s).wrs = s.wrs ∧ (retractStep s).pcu.clamp = s.pcu.clamp := by
  refine ⟨?_, ?_, ?_, ?_, ?_, ?_, ?_, ?_, ?_, ?_, ?_, ?_, ?_, ?_, ?_⟩ <;>
    first | rfl | (unfold retractStep; (repeat' split) <;> simp; done)

@[simp] theorem shortEvent_frame (s : State) :
    (shortEvent s).inReset = s.inReset ∧ (shortEvent s).node = s.node ∧ (shortEvent s).settings = s.settings ∧
    (shortEvent s).now = s.now ∧ (shortEvent s).pending = s.pending ∧ (shortEvent s).wsq.isolated = s.wsq.isolated ∧
    (shortEvent s).pcu.clamp = s.pcu.clamp ∧ (shortEvent s).stl.stop = s.stl.stop ∧
    (shortEvent s).sht.clock = s.sht.clock ∧ (shortEvent s).sht.ownDigest = s.sht.ownDigest ∧
    (shortEvent s).orq.heldList = s.orq.heldList ∧ (shortEvent s).orq.arrivals = s.orq.arrivals ∧
    (shortEvent s).wrs.counter = s.wrs.counter ∧ (shortEvent s).wrs.slots = s.wrs.slots := by
  refine ⟨?_, ?_, ?_, ?_, ?_, ?_, ?_, ?_, ?_, ?_, ?_, ?_, ?_, ?_⟩ <;>
    (simp only [shortEvent]; (repeat' split) <;> (try simp) <;> (repeat' split) <;> (try simp) <;> (repeat' split) <;> simp)

@[simp] theorem openEvent_frame (mode : DriveMode) (s : State) :
    (openEvent mode s).inReset = s.inReset ∧ (openEvent mode s).node = s.node ∧
    (openEvent mode s).settings = s.settings ∧ (openEvent mode s).now = s.now ∧
    (openEvent mode s).pending = s.pending ∧ (openEvent mode s).wsq.isolated = s.wsq.isolated ∧
    (openEvent mode s).pcu.clamp = s.pcu.clamp ∧ (openEvent mode s).stl.stop = s.stl.stop ∧
    (openEvent mode s).sht.clock = s.sht.clock ∧ (openEvent mode s).sht.ownDigest = s.sht.ownDigest ∧
    (openEvent mode s).orq.heldList = s.orq.heldList ∧ (openEvent mode s).orq.arrivals = s.orq.arrivals ∧
    (openEvent mode s).wrs.counter = s.wrs.counter ∧ (openEvent mode s).wrs.slots = s.wrs.slots := by
  refine ⟨?_, ?_, ?_, ?_, ?_, ?_, ?_, ?_, ?_, ?_, ?_, ?_, ?_, ?_⟩ <;>
    (simp only [openEvent]; (repeat' split) <;> (try simp) <;> (repeat' split) <;> (try simp) <;> (repeat' split) <;> simp)

@[simp] theorem contactRegained_frame (s : State) :
    (contactRegained s).inReset = s.inReset ∧ (contactRegained s).node = s.node ∧
    (contactRegained s).settings = s.settings ∧ (contactRegained s).now = s.now ∧
    (contactRegained s).pending = s.pending ∧ (contactRegained s).free = s.free ∧ (contactRegained s).wsq = s.wsq ∧
    (contactRegained s).cdr = s.cdr ∧ (contactRegained s).pcu = s.pcu ∧ (contactRegained s).tru = s.tru ∧
    (contactRegained s).stl = s.stl ∧ (contactRegained s).sht = s.sht ∧ (contactRegained s).lkc = s.lkc ∧
    (contactRegained s).orq = s.orq ∧ (contactRegained s).wrs = s.wrs := by
  refine ⟨?_, ?_, ?_, ?_, ?_, ?_, ?_, ?_, ?_, ?_, ?_, ?_, ?_, ?_, ?_⟩ <;>
    first | rfl | (unfold contactRegained; (repeat' split) <;> simp; done)

@[simp] theorem deliverReports_frame (mode : DriveMode) (r : CycleReports) (s : State) :
    (deliverReports mode r s).inReset = s.inReset ∧ (deliverReports mode r s).node = s.node ∧
    (deliverReports mode r s).settings = s.settings ∧ (deliverReports mode r s).now = s.now ∧
    (deliverReports mode r s).pending = s.pending ∧ (deliverReports mode r s).wsq.isolated = s.wsq.isolated ∧
    (deliverReports mode r s).pcu.clamp = s.pcu.clamp ∧ (deliverReports mode r s).stl.stop = s.stl.stop ∧
    (deliverReports mode r s).sht.clock = s.sht.clock ∧ (deliverReports mode r s).sht.ownDigest = s.sht.ownDigest ∧
    (deliverReports mode r s).orq.heldList = s.orq.heldList ∧
    (deliverReports mode r s).orq.arrivals = s.orq.arrivals ∧ (deliverReports mode r s).wrs.counter = s.wrs.counter ∧
    (deliverReports mode r s).wrs.slots = s.wrs.slots := by
  refine ⟨?_, ?_, ?_, ?_, ?_, ?_, ?_, ?_, ?_, ?_, ?_, ?_, ?_, ?_⟩ <;>
    (simp only [deliverReports]; (repeat' split) <;> (try simp) <;> (repeat' split) <;> (try simp) <;> (repeat' split) <;> simp)

@[simp] theorem cycleClass_frame (s : State) :
    ((cycleClass s).2).inReset = s.inReset ∧ ((cycleClass s).2).node = s.node ∧
    ((cycleClass s).2).settings = s.settings ∧ ((cycleClass s).2).now = s.now ∧
    ((cycleClass s).2).pending = s.pending ∧ ((cycleClass s).2).wsq = s.wsq ∧ ((cycleClass s).2).flash = s.flash ∧
    ((cycleClass s).2).pcu = s.pcu ∧ ((cycleClass s).2).tru = s.tru ∧ ((cycleClass s).2).stl = s.stl ∧
    ((cycleClass s).2).sht = s.sht ∧ ((cycleClass s).2).lkc = s.lkc ∧ ((cycleClass s).2).orq = s.orq ∧
    ((cycleClass s).2).wrs = s.wrs ∧ ((cycleClass s).2).cdr = s.cdr := by
  refine ⟨?_, ?_, ?_, ?_, ?_, ?_, ?_, ?_, ?_, ?_, ?_, ?_, ?_, ?_, ?_⟩ <;> (unfold cycleClass; dsimp only [State.fresh]; split <;> rfl)

@[simp] theorem evaluateRuns_frame (k : CycleClass) (s : State) :
    ((evaluateRuns k s).2).inReset = s.inReset ∧ ((evaluateRuns k s).2).node = s.node ∧
    ((evaluateRuns k s).2).settings = s.settings ∧ ((evaluateRuns k s).2).now = s.now ∧
    ((evaluateRuns k s).2).pending = s.pending ∧ ((evaluateRuns k s).2).wsq = s.wsq ∧
    ((evaluateRuns k s).2).flash = s.flash ∧ ((evaluateRuns k s).2).pcu = s.pcu ∧ ((evaluateRuns k s).2).tru = s.tru ∧
    ((evaluateRuns k s).2).stl = s.stl ∧ ((evaluateRuns k s).2).sht = s.sht ∧ ((evaluateRuns k s).2).lkc = s.lkc ∧
    ((evaluateRuns k s).2).orq = s.orq ∧ ((evaluateRuns k s).2).wrs = s.wrs ∧
    ((evaluateRuns k s).2).cdr.drive = s.cdr.drive ∧ ((evaluateRuns k s).2).cdr.mode = s.cdr.mode := by
  refine ⟨?_, ?_, ?_, ?_, ?_, ?_, ?_, ?_, ?_, ?_, ?_, ?_, ?_, ?_, ?_, ?_⟩ <;> rfl

theorem evaluateCycle_eq (s : State) :
    evaluateCycle s =
      deliverReports s.cdr.mode (evaluateRuns (cycleClass s).1 (cycleClass s).2).1
        (evaluateRuns (cycleClass s).1 (cycleClass s).2).2 := rfl

@[simp] theorem evaluateCycle_frame (s : State) :
    (evaluateCycle s).inReset = s.inReset ∧ (evaluateCycle s).node = s.node ∧
    (evaluateCycle s).settings = s.settings ∧ (evaluateCycle s).now = s.now ∧ (evaluateCycle s).pending = s.pending ∧
    (evaluateCycle s).wsq.isolated = s.wsq.isolated ∧ (evaluateCycle s).pcu.clamp = s.pcu.clamp ∧
    (evaluateCycle s).stl.stop = s.stl.stop ∧ (evaluateCycle s).sht.clock = s.sht.clock ∧
    (evaluateCycle s).sht.ownDigest = s.sht.ownDigest ∧ (evaluateCycle s).orq.heldList = s.orq.heldList ∧
    (evaluateCycle s).orq.arrivals = s.orq.arrivals ∧ (evaluateCycle s).wrs.counter = s.wrs.counter ∧
    (evaluateCycle s).wrs.slots = s.wrs.slots := by
  refine ⟨?_, ?_, ?_, ?_, ?_, ?_, ?_, ?_, ?_, ?_, ?_, ?_, ?_, ?_⟩ <;> (rw [evaluateCycle_eq]; simp)

@[simp] theorem startAdvance_frame (s : State) :
    (startAdvance s).inReset = s.inReset ∧ (startAdvance s).node = s.node ∧ (startAdvance s).settings = s.settings ∧
    (startAdvance s).now = s.now ∧ (startAdvance s).pending = s.pending ∧ (startAdvance s).free = s.free ∧
    (startAdvance s).wsq = s.wsq ∧ (startAdvance s).cdr = s.cdr ∧ (startAdvance s).tru = s.tru ∧
    (startAdvance s).stl = s.stl ∧ (startAdvance s).sht = s.sht ∧ (startAdvance s).lkc = s.lkc ∧
    (startAdvance s).orq = s.orq ∧ (startAdvance s).wrs = s.wrs ∧ (startAdvance s).pcu.clamp = s.pcu.clamp := by
  refine ⟨?_, ?_, ?_, ?_, ?_, ?_, ?_, ?_, ?_, ?_, ?_, ?_, ?_, ?_, ?_⟩ <;>
    first | rfl | (unfold startAdvance; (repeat' split) <;> simp; done)

@[simp] theorem enterPreheat_frame (s : State) :
    (enterPreheat s).inReset = s.inReset ∧ (enterPreheat s).node = s.node ∧ (enterPreheat s).settings = s.settings ∧
    (enterPreheat s).now = s.now ∧ (enterPreheat s).pending = s.pending ∧ (enterPreheat s).free = s.free ∧
    (enterPreheat s).cdr = s.cdr ∧ (enterPreheat s).tru = s.tru ∧ (enterPreheat s).stl = s.stl ∧
    (enterPreheat s).sht = s.sht ∧ (enterPreheat s).lkc = s.lkc ∧ (enterPreheat s).orq = s.orq ∧
    (enterPreheat s).wsq.station = s.wsq.station ∧ (enterPreheat s).wsq.isolated = s.wsq.isolated ∧
    (enterPreheat s).pcu.clamp = s.pcu.clamp ∧ (enterPreheat s).wrs.counter = s.wrs.counter ∧
    (enterPreheat s).wrs.slots = s.wrs.slots := by
  refine ⟨?_, ?_, ?_, ?_, ?_, ?_, ?_, ?_, ?_, ?_, ?_, ?_, ?_, ?_, ?_, ?_, ?_⟩ <;>
    first | rfl | (unfold enterPreheat; (repeat' split) <;> simp; done)

@[simp] theorem adaptPreheat_frame (s : State) :
    (adaptPreheat s).inReset = s.inReset ∧ (adaptPreheat s).node = s.node ∧ (adaptPreheat s).settings = s.settings ∧
    (adaptPreheat s).now = s.now ∧ (adaptPreheat s).pending = s.pending ∧ (adaptPreheat s).free = s.free ∧
    (adaptPreheat s).flash = s.flash ∧ (adaptPreheat s).cdr = s.cdr ∧ (adaptPreheat s).pcu = s.pcu ∧
    (adaptPreheat s).tru = s.tru ∧ (adaptPreheat s).stl = s.stl ∧ (adaptPreheat s).sht = s.sht ∧
    (adaptPreheat s).lkc = s.lkc ∧ (adaptPreheat s).orq = s.orq ∧ (adaptPreheat s).wrs = s.wrs ∧
    (adaptPreheat s).wsq.station = s.wsq.station ∧ (adaptPreheat s).wsq.phase = s.wsq.phase ∧
    (adaptPreheat s).wsq.isolated = s.wsq.isolated := by
  refine ⟨?_, ?_, ?_, ?_, ?_, ?_, ?_, ?_, ?_, ?_, ?_, ?_, ?_, ?_, ?_, ?_, ?_, ?_⟩ <;>
    (simp only [adaptPreheat]; (repeat' split) <;> (try simp) <;> (repeat' split) <;> (try simp) <;> (repeat' split) <;> simp)

@[simp] theorem enterFirstPhase_frame (s : State) :
    (enterFirstPhase s).inReset = s.inReset ∧ (enterFirstPhase s).node = s.node ∧
    (enterFirstPhase s).settings = s.settings ∧ (enterFirstPhase s).now = s.now ∧
    (enterFirstPhase s).pending = s.pending ∧ (enterFirstPhase s).free = s.free ∧ (enterFirstPhase s).cdr = s.cdr ∧
    (enterFirstPhase s).tru = s.tru ∧ (enterFirstPhase s).stl = s.stl ∧ (enterFirstPhase s).sht = s.sht ∧
    (enterFirstPhase s).lkc = s.lkc ∧ (enterFirstPhase s).orq = s.orq ∧
    (enterFirstPhase s).wsq.station = s.wsq.station ∧ (enterFirstPhase s).wsq.isolated = s.wsq.isolated ∧
    (enterFirstPhase s).pcu.clamp = s.pcu.clamp := by
  refine ⟨?_, ?_, ?_, ?_, ?_, ?_, ?_, ?_, ?_, ?_, ?_, ?_, ?_, ?_, ?_⟩ <;>
    first | rfl | (unfold enterFirstPhase; (repeat' split) <;> simp; done)

@[simp] theorem pauseAtAdmission_frame (s : State) :
    (pauseAtAdmission s).inReset = s.inReset ∧ (pauseAtAdmission s).node = s.node ∧
    (pauseAtAdmission s).settings = s.settings ∧ (pauseAtAdmission s).now = s.now ∧
    (pauseAtAdmission s).pending = s.pending ∧ (pauseAtAdmission s).wsq.isolated = s.wsq.isolated ∧
    (pauseAtAdmission s).pcu.clamp = s.pcu.clamp ∧ (pauseAtAdmission s).stl.stop = s.stl.stop ∧
    (pauseAtAdmission s).sht.clock = s.sht.clock ∧ (pauseAtAdmission s).sht.ownDigest = s.sht.ownDigest ∧
    (pauseAtAdmission s).orq.heldList = s.orq.heldList ∧ (pauseAtAdmission s).orq.arrivals = s.orq.arrivals ∧
    (pauseAtAdmission s).wrs.counter = s.wrs.counter ∧ (pauseAtAdmission s).wrs.slots = s.wrs.slots := by
  refine ⟨?_, ?_, ?_, ?_, ?_, ?_, ?_, ?_, ?_, ?_, ?_, ?_, ?_, ?_⟩ <;>
    (simp only [pauseAtAdmission]; (repeat' split) <;> (try simp) <;> (repeat' split) <;> (try simp) <;> (repeat' split) <;> simp)

@[simp] theorem admitOwn_frame (s : State) :
    (admitOwn s).inReset = s.inReset ∧ (admitOwn s).node = s.node ∧ (admitOwn s).settings = s.settings ∧
    (admitOwn s).now = s.now ∧ (admitOwn s).pending = s.pending ∧ (admitOwn s).wsq.isolated = s.wsq.isolated ∧
    (admitOwn s).pcu.clamp = s.pcu.clamp ∧ (admitOwn s).stl.stop = s.stl.stop ∧ (admitOwn s).sht.clock = s.sht.clock ∧
    (admitOwn s).sht.ownDigest = s.sht.ownDigest ∧ (admitOwn s).orq.heldList = s.orq.heldList ∧
    (admitOwn s).orq.arrivals = s.orq.arrivals := by
  refine ⟨?_, ?_, ?_, ?_, ?_, ?_, ?_, ?_, ?_, ?_, ?_, ?_⟩ <;>
    (simp only [admitOwn]; (repeat' split) <;> (try simp) <;> (repeat' split) <;> (try simp) <;> (repeat' split) <;> simp)

@[simp] theorem evaluateAdmission_frame (s : State) :
    (evaluateAdmission s).inReset = s.inReset ∧ (evaluateAdmission s).node = s.node ∧
    (evaluateAdmission s).settings = s.settings ∧ (evaluateAdmission s).now = s.now ∧
    (evaluateAdmission s).pending = s.pending ∧ (evaluateAdmission s).wsq.isolated = s.wsq.isolated ∧
    (evaluateAdmission s).pcu.clamp = s.pcu.clamp ∧ (evaluateAdmission s).stl.stop = s.stl.stop ∧
    (evaluateAdmission s).sht.clock = s.sht.clock ∧ (evaluateAdmission s).sht.ownDigest = s.sht.ownDigest ∧
    (evaluateAdmission s).orq.heldList = s.orq.heldList ∧ (evaluateAdmission s).orq.arrivals = s.orq.arrivals := by
  refine ⟨?_, ?_, ?_, ?_, ?_, ?_, ?_, ?_, ?_, ?_, ?_, ?_⟩ <;>
    (simp only [evaluateAdmission]; (repeat' split) <;> (try simp) <;> (repeat' split) <;> (try simp) <;> (repeat' split) <;> simp)

@[simp] theorem evaluateOversubscription_frame (s : State) :
    (evaluateOversubscription s).inReset = s.inReset ∧ (evaluateOversubscription s).node = s.node ∧
    (evaluateOversubscription s).settings = s.settings ∧ (evaluateOversubscription s).now = s.now ∧
    (evaluateOversubscription s).pending = s.pending ∧ (evaluateOversubscription s).wsq.isolated = s.wsq.isolated ∧
    (evaluateOversubscription s).pcu.clamp = s.pcu.clamp ∧ (evaluateOversubscription s).stl.stop = s.stl.stop ∧
    (evaluateOversubscription s).sht.clock = s.sht.clock ∧
    (evaluateOversubscription s).sht.ownDigest = s.sht.ownDigest ∧
    (evaluateOversubscription s).orq.heldList = s.orq.heldList ∧
    (evaluateOversubscription s).orq.arrivals = s.orq.arrivals ∧
    (evaluateOversubscription s).wrs.counter = s.wrs.counter ∧ (evaluateOversubscription s).wrs.slots = s.wrs.slots := by
  refine ⟨?_, ?_, ?_, ?_, ?_, ?_, ?_, ?_, ?_, ?_, ?_, ?_, ?_, ?_⟩ <;>
    (simp only [evaluateOversubscription]; (repeat' split) <;> (try simp) <;> (repeat' split) <;> (try simp) <;> (repeat' split) <;> simp)

@[simp] theorem evaluateShare_frame (s : State) :
    (evaluateShare s).inReset = s.inReset ∧ (evaluateShare s).node = s.node ∧
    (evaluateShare s).settings = s.settings ∧ (evaluateShare s).now = s.now ∧ (evaluateShare s).pending = s.pending ∧
    (evaluateShare s).wsq.isolated = s.wsq.isolated ∧ (evaluateShare s).pcu.clamp = s.pcu.clamp ∧
    (evaluateShare s).stl.stop = s.stl.stop ∧ (evaluateShare s).sht.clock = s.sht.clock ∧
    (evaluateShare s).sht.ownDigest = s.sht.ownDigest ∧ (evaluateShare s).orq.heldList = s.orq.heldList ∧
    (evaluateShare s).orq.arrivals = s.orq.arrivals := by
  refine ⟨?_, ?_, ?_, ?_, ?_, ?_, ?_, ?_, ?_, ?_, ?_, ?_⟩ <;>
    (simp only [evaluateShare]; (repeat' split) <;> (try simp) <;> (repeat' split) <;> (try simp) <;> (repeat' split) <;> simp)

@[simp] theorem discordYield_frame (s : State) :
    (discordYield s).inReset = s.inReset ∧ (discordYield s).node = s.node ∧ (discordYield s).settings = s.settings ∧
    (discordYield s).now = s.now ∧ (discordYield s).pending = s.pending ∧ (discordYield s).tru = s.tru ∧
    (discordYield s).wsq.station = s.wsq.station ∧ (discordYield s).wsq.isolated = s.wsq.isolated ∧
    (discordYield s).pcu.clamp = s.pcu.clamp ∧ (discordYield s).stl.stop = s.stl.stop ∧
    (discordYield s).sht.clock = s.sht.clock ∧ (discordYield s).sht.ownDigest = s.sht.ownDigest ∧
    (discordYield s).orq.queue = s.orq.queue ∧ (discordYield s).orq.heldList = s.orq.heldList ∧
    (discordYield s).orq.arrivals = s.orq.arrivals ∧ (discordYield s).wrs.counter = s.wrs.counter ∧
    (discordYield s).wrs.slots = s.wrs.slots := by
  refine ⟨?_, ?_, ?_, ?_, ?_, ?_, ?_, ?_, ?_, ?_, ?_, ?_, ?_, ?_, ?_, ?_, ?_⟩ <;>
    (simp only [discordYield]; (repeat' split) <;> (try simp) <;> (repeat' split) <;> (try simp) <;> (repeat' split) <;> simp)

@[simp] theorem enterClaimWait_frame (s : State) :
    (enterClaimWait s).inReset = s.inReset ∧ (enterClaimWait s).node = s.node ∧
    (enterClaimWait s).settings = s.settings ∧ (enterClaimWait s).now = s.now ∧
    (enterClaimWait s).pending = s.pending ∧ (enterClaimWait s).wsq.isolated = s.wsq.isolated ∧
    (enterClaimWait s).pcu.clamp = s.pcu.clamp ∧ (enterClaimWait s).stl.stop = s.stl.stop ∧
    (enterClaimWait s).sht.ownDigest = s.sht.ownDigest ∧ (enterClaimWait s).orq.heldList = s.orq.heldList ∧
    (enterClaimWait s).orq.arrivals = s.orq.arrivals := by
  refine ⟨?_, ?_, ?_, ?_, ?_, ?_, ?_, ?_, ?_, ?_, ?_⟩ <;>
    (simp only [enterClaimWait]; (repeat' split) <;> (try simp) <;> (repeat' split) <;> (try simp) <;> (repeat' split) <;> simp)

@[simp] theorem budgetTests_frame (touchPos : Int) (s : State) :
    (budgetTests touchPos s).inReset = s.inReset ∧ (budgetTests touchPos s).node = s.node ∧
    (budgetTests touchPos s).settings = s.settings ∧ (budgetTests touchPos s).now = s.now ∧
    (budgetTests touchPos s).pending = s.pending ∧ (budgetTests touchPos s).wsq.isolated = s.wsq.isolated ∧
    (budgetTests touchPos s).pcu.clamp = s.pcu.clamp ∧ (budgetTests touchPos s).stl.stop = s.stl.stop ∧
    (budgetTests touchPos s).sht.ownDigest = s.sht.ownDigest ∧
    (budgetTests touchPos s).orq.heldList = s.orq.heldList ∧ (budgetTests touchPos s).orq.arrivals = s.orq.arrivals := by
  refine ⟨?_, ?_, ?_, ?_, ?_, ?_, ?_, ?_, ?_, ?_, ?_⟩ <;>
    (simp only [budgetTests]; (repeat' split) <;> (try simp) <;> (repeat' split) <;> (try simp) <;> (repeat' split) <;> simp)

@[simp] theorem completeTouch_frame (s : State) :
    (completeTouch s).inReset = s.inReset ∧ (completeTouch s).node = s.node ∧
    (completeTouch s).settings = s.settings ∧ (completeTouch s).now = s.now ∧ (completeTouch s).pending = s.pending ∧
    (completeTouch s).wsq.isolated = s.wsq.isolated ∧ (completeTouch s).pcu.clamp = s.pcu.clamp ∧
    (completeTouch s).stl.stop = s.stl.stop ∧ (completeTouch s).sht.ownDigest = s.sht.ownDigest ∧
    (completeTouch s).orq.heldList = s.orq.heldList ∧ (completeTouch s).orq.arrivals = s.orq.arrivals := by
  refine ⟨?_, ?_, ?_, ?_, ?_, ?_, ?_, ?_, ?_, ?_, ?_⟩ <;>
    (simp only [completeTouch]; (repeat' split) <;> (try simp) <;> (repeat' split) <;> (try simp) <;> (repeat' split) <;> simp)

@[simp] theorem enterTouch_frame (s : State) :
    (enterTouch s).inReset = s.inReset ∧ (enterTouch s).node = s.node ∧ (enterTouch s).settings = s.settings ∧
    (enterTouch s).now = s.now ∧ (enterTouch s).pending = s.pending ∧ (enterTouch s).free = s.free ∧
    (enterTouch s).flash = s.flash ∧ (enterTouch s).cdr = s.cdr ∧ (enterTouch s).tru = s.tru ∧
    (enterTouch s).stl = s.stl ∧ (enterTouch s).sht = s.sht ∧ (enterTouch s).lkc = s.lkc ∧
    (enterTouch s).orq = s.orq ∧ (enterTouch s).wsq.station = s.wsq.station ∧
    (enterTouch s).wsq.isolated = s.wsq.isolated ∧ (enterTouch s).pcu.clamp = s.pcu.clamp ∧
    (enterTouch s).wrs.counter = s.wrs.counter ∧ (enterTouch s).wrs.slots = s.wrs.slots := by
  refine ⟨?_, ?_, ?_, ?_, ?_, ?_, ?_, ?_, ?_, ?_, ?_, ?_, ?_, ?_, ?_, ?_, ?_, ?_⟩ <;>
    first | rfl | (unfold enterTouch; (repeat' split) <;> simp; done)

@[simp] theorem touchFail_frame (s : State) :
    (touchFail s).inReset = s.inReset ∧ (touchFail s).node = s.node ∧ (touchFail s).settings = s.settings ∧
    (touchFail s).now = s.now ∧ (touchFail s).pending = s.pending ∧ (touchFail s).free = s.free ∧
    (touchFail s).flash = s.flash ∧ (touchFail s).cdr = s.cdr ∧ (touchFail s).tru = s.tru ∧
    (touchFail s).stl = s.stl ∧ (touchFail s).sht = s.sht ∧ (touchFail s).lkc = s.lkc ∧ (touchFail s).orq = s.orq ∧
    (touchFail s).wrs = s.wrs ∧ (touchFail s).wsq.station = s.wsq.station ∧ (touchFail s).wsq.phase = s.wsq.phase ∧
    (touchFail s).wsq.isolated = s.wsq.isolated ∧ (touchFail s).pcu.clamp = s.pcu.clamp := by
  refine ⟨?_, ?_, ?_, ?_, ?_, ?_, ?_, ?_, ?_, ?_, ?_, ?_, ?_, ?_, ?_, ?_, ?_, ?_⟩ <;>
    first | rfl | (unfold touchFail; (repeat' split) <;> simp; done)

@[simp] theorem beginCheck_frame (sched : Nat) (kind : WeldKind) (neutral : Int) (railTemp : Option Int) (s : State) :
    (beginCheck sched kind neutral railTemp s).inReset = s.inReset ∧
    (beginCheck sched kind neutral railTemp s).node = s.node ∧
    (beginCheck sched kind neutral railTemp s).settings = s.settings ∧
    (beginCheck sched kind neutral railTemp s).now = s.now ∧
    (beginCheck sched kind neutral railTemp s).pending = s.pending ∧
    (beginCheck sched kind neutral railTemp s).free = s.free ∧
    (beginCheck sched kind neutral railTemp s).cdr = s.cdr ∧ (beginCheck sched kind neutral railTemp s).pcu = s.pcu ∧
    (beginCheck sched kind neutral railTemp s).stl = s.stl ∧ (beginCheck sched kind neutral railTemp s).sht = s.sht ∧
    (beginCheck sched kind neutral railTemp s).lkc = s.lkc ∧ (beginCheck sched kind neutral railTemp s).orq = s.orq ∧
    (beginCheck sched kind neutral railTemp s).wrs = s.wrs ∧
    (beginCheck sched kind neutral railTemp s).wsq.station = s.wsq.station ∧
    (beginCheck sched kind neutral railTemp s).wsq.phase = s.wsq.phase ∧
    (beginCheck sched kind neutral railTemp s).wsq.isolated = s.wsq.isolated := by
  refine ⟨?_, ?_, ?_, ?_, ?_, ?_, ?_, ?_, ?_, ?_, ?_, ?_, ?_, ?_, ?_, ?_⟩ <;>
    first | rfl | (unfold beginCheck; (repeat' split) <;> simp; done)

@[simp] theorem setPullTarget_frame (s : State) :
    (setPullTarget s).inReset = s.inReset ∧ (setPullTarget s).node = s.node ∧
    (setPullTarget s).settings = s.settings ∧ (setPullTarget s).now = s.now ∧ (setPullTarget s).pending = s.pending ∧
    (setPullTarget s).free = s.free ∧ (setPullTarget s).wsq = s.wsq ∧ (setPullTarget s).flash = s.flash ∧
    (setPullTarget s).cdr = s.cdr ∧ (setPullTarget s).tru = s.tru ∧ (setPullTarget s).stl = s.stl ∧
    (setPullTarget s).sht = s.sht ∧ (setPullTarget s).lkc = s.lkc ∧ (setPullTarget s).orq = s.orq ∧
    (setPullTarget s).wrs = s.wrs ∧ (setPullTarget s).pcu.clamp = s.pcu.clamp := by
  refine ⟨?_, ?_, ?_, ?_, ?_, ?_, ?_, ?_, ?_, ?_, ?_, ?_, ?_, ?_, ?_, ?_⟩ <;>
    first | rfl | (unfold setPullTarget; (repeat' split) <;> simp; done)

@[simp] theorem askShoes_frame (s : State) :
    (askShoes s).inReset = s.inReset ∧ (askShoes s).node = s.node ∧ (askShoes s).settings = s.settings ∧
    (askShoes s).now = s.now ∧ (askShoes s).pending = s.pending ∧ (askShoes s).free = s.free ∧
    (askShoes s).wsq = s.wsq ∧ (askShoes s).flash = s.flash ∧ (askShoes s).cdr = s.cdr ∧ (askShoes s).tru = s.tru ∧
    (askShoes s).stl = s.stl ∧ (askShoes s).sht = s.sht ∧ (askShoes s).lkc = s.lkc ∧ (askShoes s).orq = s.orq ∧
    (askShoes s).wrs = s.wrs ∧ (askShoes s).pcu.clamp = s.pcu.clamp := by
  refine ⟨?_, ?_, ?_, ?_, ?_, ?_, ?_, ?_, ?_, ?_, ?_, ?_, ?_, ?_, ?_, ?_⟩ <;>
    first | rfl | (unfold askShoes; (repeat' split) <;> simp; done)

@[simp] theorem runCheck_frame (s : State) :
    (runCheck s).inReset = s.inReset ∧ (runCheck s).node = s.node ∧ (runCheck s).settings = s.settings ∧
    (runCheck s).now = s.now ∧ (runCheck s).pending = s.pending ∧ (runCheck s).free = s.free ∧
    (runCheck s).flash = s.flash ∧ (runCheck s).cdr = s.cdr ∧ (runCheck s).tru = s.tru ∧ (runCheck s).stl = s.stl ∧
    (runCheck s).sht = s.sht ∧ (runCheck s).wsq.isolated = s.wsq.isolated ∧ (runCheck s).pcu.clamp = s.pcu.clamp ∧
    (runCheck s).orq.heldList = s.orq.heldList ∧ (runCheck s).orq.arrivals = s.orq.arrivals ∧
    (runCheck s).wrs.counter = s.wrs.counter ∧ (runCheck s).wrs.slots = s.wrs.slots := by
  refine ⟨?_, ?_, ?_, ?_, ?_, ?_, ?_, ?_, ?_, ?_, ?_, ?_, ?_, ?_, ?_, ?_, ?_⟩ <;>
    first | rfl | (unfold runCheck; (repeat' split) <;> simp; done)

@[simp] theorem takeWeld_frame (sched : Nat) (kind : WeldKind) (neutral : Int) (railTemp : Option Int) (s : State) :
    (takeWeld sched kind neutral railTemp s).inReset = s.inReset ∧
    (takeWeld sched kind neutral railTemp s).node = s.node ∧
    (takeWeld sched kind neutral railTemp s).settings = s.settings ∧
    (takeWeld sched kind neutral railTemp s).now = s.now ∧
    (takeWeld sched kind neutral railTemp s).pending = s.pending ∧
    (takeWeld sched kind neutral railTemp s).free = s.free ∧ (takeWeld sched kind neutral railTemp s).cdr = s.cdr ∧
    (takeWeld sched kind neutral railTemp s).stl = s.stl ∧ (takeWeld sched kind neutral railTemp s).sht = s.sht ∧
    (takeWeld sched kind neutral railTemp s).wsq.isolated = s.wsq.isolated ∧
    (takeWeld sched kind neutral railTemp s).pcu.clamp = s.pcu.clamp ∧
    (takeWeld sched kind neutral railTemp s).orq.heldList = s.orq.heldList ∧
    (takeWeld sched kind neutral railTemp s).orq.arrivals = s.orq.arrivals ∧
    (takeWeld sched kind neutral railTemp s).wrs.counter = s.wrs.counter ∧
    (takeWeld sched kind neutral railTemp s).wrs.slots = s.wrs.slots := by
  refine ⟨?_, ?_, ?_, ?_, ?_, ?_, ?_, ?_, ?_, ?_, ?_, ?_, ?_, ?_, ?_⟩ <;>
    first | rfl | (unfold takeWeld; (repeat' split) <;> simp; done)

@[simp] theorem movementDone_frame (s : State) :
    (movementDone s).inReset = s.inReset ∧ (movementDone s).node = s.node ∧ (movementDone s).settings = s.settings ∧
    (movementDone s).now = s.now ∧ (movementDone s).pending = s.pending ∧ (movementDone s).free = s.free ∧
    (movementDone s).cdr = s.cdr ∧ (movementDone s).tru = s.tru ∧ (movementDone s).stl = s.stl ∧
    (movementDone s).sht = s.sht ∧ (movementDone s).wsq.isolated = s.wsq.isolated ∧
    (movementDone s).pcu.clamp = s.pcu.clamp ∧ (movementDone s).orq.heldList = s.orq.heldList ∧
    (movementDone s).orq.arrivals = s.orq.arrivals ∧ (movementDone s).wrs.counter = s.wrs.counter ∧
    (movementDone s).wrs.slots = s.wrs.slots := by
  refine ⟨?_, ?_, ?_, ?_, ?_, ?_, ?_, ?_, ?_, ?_, ?_, ?_, ?_, ?_, ?_, ?_⟩ <;>
    (simp only [movementDone]; (repeat' split) <;> (try simp) <;> (repeat' split) <;> (try simp) <;> (repeat' split) <;> simp)

@[simp] theorem advanceDone_frame (s : State) :
    (advanceDone s).inReset = s.inReset ∧ (advanceDone s).node = s.node ∧ (advanceDone s).settings = s.settings ∧
    (advanceDone s).now = s.now ∧ (advanceDone s).pending = s.pending ∧ (advanceDone s).tru = s.tru ∧
    (advanceDone s).wsq.station = s.wsq.station ∧ (advanceDone s).wsq.isolated = s.wsq.isolated ∧
    (advanceDone s).pcu.clamp = s.pcu.clamp ∧ (advanceDone s).stl.stop = s.stl.stop ∧
    (advanceDone s).sht.clock = s.sht.clock ∧ (advanceDone s).sht.ownDigest = s.sht.ownDigest ∧
    (advanceDone s).orq.queue = s.orq.queue ∧ (advanceDone s).orq.heldList = s.orq.heldList ∧
    (advanceDone s).orq.arrivals = s.orq.arrivals ∧ (advanceDone s).wrs.counter = s.wrs.counter ∧
    (advanceDone s).wrs.slots = s.wrs.slots := by
  refine ⟨?_, ?_, ?_, ?_, ?_, ?_, ?_, ?_, ?_, ?_, ?_, ?_, ?_, ?_, ?_, ?_, ?_⟩ <;>
    (simp only [advanceDone]; (repeat' split) <;> (try simp) <;> (repeat' split) <;> (try simp) <;> (repeat' split) <;> simp)

@[simp] theorem openStepEnds_frame (s : State) :
    (openStepEnds s).inReset = s.inReset ∧ (openStepEnds s).node = s.node ∧ (openStepEnds s).settings = s.settings ∧
    (openStepEnds s).now = s.now ∧ (openStepEnds s).pending = s.pending ∧ (openStepEnds s).free = s.free ∧
    (openStepEnds s).cdr = s.cdr ∧ (openStepEnds s).tru = s.tru ∧ (openStepEnds s).stl = s.stl ∧
    (openStepEnds s).sht = s.sht ∧ (openStepEnds s).lkc = s.lkc ∧ (openStepEnds s).orq = s.orq ∧
    (openStepEnds s).wsq.station = s.wsq.station ∧ (openStepEnds s).wsq.isolated = s.wsq.isolated ∧
    (openStepEnds s).pcu.clamp = s.pcu.clamp ∧ (openStepEnds s).wrs.counter = s.wrs.counter ∧
    (openStepEnds s).wrs.slots = s.wrs.slots := by
  refine ⟨?_, ?_, ?_, ?_, ?_, ?_, ?_, ?_, ?_, ?_, ?_, ?_, ?_, ?_, ?_, ?_, ?_⟩ <;>
    (simp only [openStepEnds]; (repeat' split) <;> (try simp) <;> (repeat' split) <;> (try simp) <;> (repeat' split) <;> simp)

end Sys2Proof.Machine
end

