-- ==== Sys2Proof/Laws/HoldsFrame.lean ====
section
/-! SUPPORT. What each operation of Machine/Holds.lean leaves as it was. -/

namespace Sys2Proof.Machine

@[simp] theorem endClampOrder_frame (s : State) :
    (endClampOrder s).inReset = s.inReset ∧ (endClampOrder s).node = s.node ∧
    (endClampOrder s).settings = s.settings ∧ (endClampOrder s).now = s.now ∧ (endClampOrder s).pending = s.pending ∧
    (endClampOrder s).free = s.free ∧ (endClampOrder s).flash = s.flash ∧ (endClampOrder s).cdr = s.cdr ∧
    (endClampOrder s).pcu = s.pcu ∧ (endClampOrder s).tru = s.tru ∧ (endClampOrder s).stl = s.stl ∧
    (endClampOrder s).sht = s.sht ∧ (endClampOrder s).wsq.station = s.wsq.station ∧
    (endClampOrder s).wsq.phase = s.wsq.phase ∧ (endClampOrder s).wsq.isolated = s.wsq.isolated ∧
    (endClampOrder s).orq.heldList = s.orq.heldList ∧ (endClampOrder s).orq.arrivals = s.orq.arrivals ∧
    (endClampOrder s).wrs.counter = s.wrs.counter ∧ (endClampOrder s).wrs.slots = s.wrs.slots := by
  refine ⟨?_, ?_, ?_, ?_, ?_, ?_, ?_, ?_, ?_, ?_, ?_, ?_, ?_, ?_, ?_, ?_, ?_, ?_, ?_⟩ <;>
    first | rfl | (unfold endClampOrder; (repeat' split) <;> simp; done)

@[simp] theorem failClampOrder_frame (reason : Reason) (s : State) :
    (failClampOrder reason s).inReset = s.inReset ∧ (failClampOrder reason s).node = s.node ∧
    (failClampOrder reason s).settings = s.settings ∧ (failClampOrder reason s).now = s.now ∧
    (failClampOrder reason s).pending = s.pending ∧ (failClampOrder reason s).free = s.free ∧
    (failClampOrder reason s).flash = s.flash ∧ (failClampOrder reason s).cdr = s.cdr ∧
    (failClampOrder reason s).pcu = s.pcu ∧ (failClampOrder reason s).tru = s.tru ∧
    (failClampOrder reason s).stl = s.stl ∧ (failClampOrder reason s).sht = s.sht ∧
    (failClampOrder reason s).wsq.station = s.wsq.station ∧ (failClampOrder reason s).wsq.phase = s.wsq.phase ∧
    (failClampOrder reason s).wsq.isolated = s.wsq.isolated ∧
    (failClampOrder reason s).orq.heldList = s.orq.heldList ∧
    (failClampOrder reason s).orq.arrivals = s.orq.arrivals ∧ (failClampOrder reason s).wrs.counter = s.wrs.counter ∧
    (failClampOrder reason s).wrs.slots = s.wrs.slots := by
  refine ⟨?_, ?_, ?_, ?_, ?_, ?_, ?_, ?_, ?_, ?_, ?_, ?_, ?_, ?_, ?_, ?_, ?_, ?_, ?_⟩ <;>
    first | rfl | (unfold failClampOrder; (repeat' split) <;> simp; done)

@[simp] theorem clampReport_frame (st : StationState) (s : State) :
    (clampReport st s).inReset = s.inReset ∧ (clampReport st s).node = s.node ∧
    (clampReport st s).settings = s.settings ∧ (clampReport st s).now = s.now ∧
    (clampReport st s).pending = s.pending ∧ (clampReport st s).free = s.free ∧ (clampReport st s).flash = s.flash ∧
    (clampReport st s).cdr = s.cdr ∧ (clampReport st s).tru = s.tru ∧ (clampReport st s).stl = s.stl ∧
    (clampReport st s).sht = s.sht ∧ (clampReport st s).wsq.phase = s.wsq.phase ∧
    (clampReport st s).wsq.isolated = s.wsq.isolated ∧ (clampReport st s).pcu.clamp = s.pcu.clamp ∧
    (clampReport st s).orq.heldList = s.orq.heldList ∧ (clampReport st s).orq.arrivals = s.orq.arrivals ∧
    (clampReport st s).wrs.counter = s.wrs.counter ∧ (clampReport st s).wrs.slots = s.wrs.slots := by
  refine ⟨?_, ?_, ?_, ?_, ?_, ?_, ?_, ?_, ?_, ?_, ?_, ?_, ?_, ?_, ?_, ?_, ?_, ?_⟩ <;>
    first | rfl | (unfold clampReport; (repeat' split) <;> simp; done)

@[simp] theorem clampsClosed_frame (s : State) :
    (clampsClosed s).inReset = s.inReset ∧ (clampsClosed s).node = s.node ∧ (clampsClosed s).settings = s.settings ∧
    (clampsClosed s).now = s.now ∧ (clampsClosed s).pending = s.pending ∧ (clampsClosed s).free = s.free ∧
    (clampsClosed s).flash = s.flash ∧ (clampsClosed s).cdr = s.cdr ∧ (clampsClosed s).tru = s.tru ∧
    (clampsClosed s).stl = s.stl ∧ (clampsClosed s).sht = s.sht ∧ (clampsClosed s).wsq.phase = s.wsq.phase ∧
    (clampsClosed s).wsq.isolated = s.wsq.isolated ∧ (clampsClosed s).orq.heldList = s.orq.heldList ∧
    (clampsClosed s).orq.arrivals = s.orq.arrivals ∧ (clampsClosed s).wrs.counter = s.wrs.counter ∧
    (clampsClosed s).wrs.slots = s.wrs.slots := by
  refine ⟨?_, ?_, ?_, ?_, ?_, ?_, ?_, ?_, ?_, ?_, ?_, ?_, ?_, ?_, ?_, ?_, ?_⟩ <;>
    first | rfl | (unfold clampsClosed; (repeat' split) <;> simp; done)

@[simp] theorem clampsOpen_frame (s : State) :
    (clampsOpen s).inReset = s.inReset ∧ (clampsOpen s).node = s.node ∧ (clampsOpen s).settings = s.settings ∧
    (clampsOpen s).now = s.now ∧ (clampsOpen s).pending = s.pending ∧ (clampsOpen s).free = s.free ∧
    (clampsOpen s).flash = s.flash ∧ (clampsOpen s).cdr = s.cdr ∧ (clampsOpen s).tru = s.tru ∧
    (clampsOpen s).stl = s.stl ∧ (clampsOpen s).sht = s.sht ∧ (clampsOpen s).wsq.phase = s.wsq.phase ∧
    (clampsOpen s).wsq.isolated = s.wsq.isolated ∧ (clampsOpen s).orq.heldList = s.orq.heldList ∧
    (clampsOpen s).orq.arrivals = s.orq.arrivals ∧ (clampsOpen s).wrs.counter = s.wrs.counter ∧
    (clampsOpen s).wrs.slots = s.wrs.slots := by
  refine ⟨?_, ?_, ?_, ?_, ?_, ?_, ?_, ?_, ?_, ?_, ?_, ?_, ?_, ?_, ?_, ?_, ?_⟩ <;>
    first | rfl | (unfold clampsOpen; (repeat' split) <;> simp; done)

@[simp] theorem faultStation_frame (s : State) :
    (faultStation s).inReset = s.inReset ∧ (faultStation s).node = s.node ∧ (faultStation s).settings = s.settings ∧
    (faultStation s).now = s.now ∧ (faultStation s).pending = s.pending ∧ (faultStation s).free = s.free ∧
    (faultStation s).flash = s.flash ∧ (faultStation s).cdr = s.cdr ∧ (faultStation s).pcu = s.pcu ∧
    (faultStation s).tru = s.tru ∧ (faultStation s).stl = s.stl ∧ (faultStation s).sht = s.sht ∧
    (faultStation s).lkc = s.lkc ∧ (faultStation s).orq = s.orq ∧ (faultStation s).wrs = s.wrs ∧
    (faultStation s).wsq.phase = s.wsq.phase ∧ (faultStation s).wsq.isolated = s.wsq.isolated := by
  refine ⟨?_, ?_, ?_, ?_, ?_, ?_, ?_, ?_, ?_, ?_, ?_, ?_, ?_, ?_, ?_, ?_, ?_⟩ <;>
    first | rfl | (unfold faultStation; (repeat' split) <;> simp; done)

@[simp] theorem stopStep_frame (s : State) :
    (stopStep s).inReset = s.inReset ∧ (stopStep s).node = s.node ∧ (stopStep s).settings = s.settings ∧
    (stopStep s).now = s.now ∧ (stopStep s).pending = s.pending ∧ (stopStep s).free = s.free ∧
    (stopStep s).flash = s.flash ∧ (stopStep s).cdr = s.cdr ∧ (stopStep s).pcu = s.pcu ∧ (stopStep s).tru = s.tru ∧
    (stopStep s).stl = s.stl ∧ (stopStep s).sht = s.sht ∧ (stopStep s).lkc = s.lkc ∧ (stopStep s).orq = s.orq ∧
    (stopStep s).wrs = s.wrs ∧ (stopStep s).wsq.station = s.wsq.station ∧ (stopStep s).wsq.phase = s.wsq.phase ∧
    (stopStep s).wsq.isolated = s.wsq.isolated := by
  refine ⟨?_, ?_, ?_, ?_, ?_, ?_, ?_, ?_, ?_, ?_, ?_, ?_, ?_, ?_, ?_, ?_, ?_, ?_⟩ <;>
    first | rfl | (unfold stopStep; (repeat' split) <;> simp; done)

@[simp] theorem stopEnding_frame (s : State) :
    (stopEnding s).inReset = s.inReset ∧ (stopEnding s).node = s.node ∧ (stopEnding s).settings = s.settings ∧
    (stopEnding s).now = s.now ∧ (stopEnding s).pending = s.pending ∧ (stopEnding s).free = s.free ∧
    (stopEnding s).flash = s.flash ∧ (stopEnding s).cdr = s.cdr ∧ (stopEnding s).pcu = s.pcu ∧
    (stopEnding s).tru = s.tru ∧ (stopEnding s).stl = s.stl ∧ (stopEnding s).sht = s.sht ∧
    (stopEnding s).lkc = s.lkc ∧ (stopEnding s).orq = s.orq ∧ (stopEnding s).wrs = s.wrs ∧
    (stopEnding s).wsq.station = s.wsq.station ∧ (stopEnding s).wsq.phase = s.wsq.phase ∧
    (stopEnding s).wsq.isolated = s.wsq.isolated := by
  refine ⟨?_, ?_, ?_, ?_, ?_, ?_, ?_, ?_, ?_, ?_, ?_, ?_, ?_, ?_, ?_, ?_, ?_, ?_⟩ <;>
    first | rfl | (unfold stopEnding; (repeat' split) <;> simp; done)

@[simp] theorem holdWeld_frame (s : State) :
    (holdWeld s).inReset = s.inReset ∧ (holdWeld s).node = s.node ∧ (holdWeld s).settings = s.settings ∧
    (holdWeld s).now = s.now ∧ (holdWeld s).pending = s.pending ∧ (holdWeld s).free = s.free ∧
    (holdWeld s).flash = s.flash ∧ (holdWeld s).cdr = s.cdr ∧ (holdWeld s).pcu = s.pcu ∧ (holdWeld s).tru = s.tru ∧
    (holdWeld s).stl = s.stl ∧ (holdWeld s).sht = s.sht ∧ (holdWeld s).lkc = s.lkc ∧ (holdWeld s).orq = s.orq ∧
    (holdWeld s).wrs = s.wrs ∧ (holdWeld s).wsq.station = s.wsq.station ∧ (holdWeld s).wsq.phase = s.wsq.phase ∧
    (holdWeld s).wsq.isolated = s.wsq.isolated := by
  refine ⟨?_, ?_, ?_, ?_, ?_, ?_, ?_, ?_, ?_, ?_, ?_, ?_, ?_, ?_, ?_, ?_, ?_, ?_⟩ <;>
    first | rfl | (unfold holdWeld; (repeat' split) <;> simp; done)

@[simp] theorem faultHoldEntry_frame (s : State) :
    (faultHoldEntry s).inReset = s.inReset ∧ (faultHoldEntry s).node = s.node ∧
    (faultHoldEntry s).settings = s.settings ∧ (faultHoldEntry s).now = s.now ∧
    (faultHoldEntry s).pending = s.pending ∧ (faultHoldEntry s).wsq.isolated = s.wsq.isolated ∧
    (faultHoldEntry s).pcu.clamp = s.pcu.clamp ∧ (faultHoldEntry s).stl.stop = s.stl.stop ∧
    (faultHoldEntry s).sht.clock = s.sht.clock ∧ (faultHoldEntry s).sht.ownDigest = s.sht.ownDigest ∧
    (faultHoldEntry s).orq.queue = s.orq.queue ∧ (faultHoldEntry s).orq.heldList = s.orq.heldList ∧
    (faultHoldEntry s).orq.arrivals = s.orq.arrivals ∧ (faultHoldEntry s).wrs.counter = s.wrs.counter ∧
    (faultHoldEntry s).wrs.slots = s.wrs.slots := by
  refine ⟨?_, ?_, ?_, ?_, ?_, ?_, ?_, ?_, ?_, ?_, ?_, ?_, ?_, ?_, ?_⟩ <;>
    (simp only [faultHoldEntry]; (repeat' split) <;> (try simp) <;> (repeat' split) <;> (try simp) <;> (repeat' split) <;> simp)

@[simp] theorem endBegunEnding_frame (s : State) :
    (endBegunEnding s).inReset = s.inReset ∧ (endBegunEnding s).node = s.node ∧
    (endBegunEnding s).settings = s.settings ∧ (endBegunEnding s).now = s.now ∧
    (endBegunEnding s).pending = s.pending ∧ (endBegunEnding s).free = s.free ∧ (endBegunEnding s).flash = s.flash ∧
    (endBegunEnding s).cdr = s.cdr ∧ (endBegunEnding s).tru = s.tru ∧ (endBegunEnding s).stl = s.stl ∧
    (endBegunEnding s).sht = s.sht ∧ (endBegunEnding s).wsq.isolated = s.wsq.isolated ∧
    (endBegunEnding s).pcu.clamp = s.pcu.clamp ∧ (endBegunEnding s).orq.heldList = s.orq.heldList ∧
    (endBegunEnding s).orq.arrivals = s.orq.arrivals ∧ (endBegunEnding s).wrs.counter = s.wrs.counter ∧
    (endBegunEnding s).wrs.slots = s.wrs.slots := by
  refine ⟨?_, ?_, ?_, ?_, ?_, ?_, ?_, ?_, ?_, ?_, ?_, ?_, ?_, ?_, ?_, ?_, ?_⟩ <;>
    first | rfl | (unfold endBegunEnding; (repeat' split) <;> simp; done)

@[simp] theorem reportHold_frame (code : FaultCode) (s : State) :
    (reportHold code s).inReset = s.inReset ∧ (reportHold code s).node = s.node ∧
    (reportHold code s).settings = s.settings ∧ (reportHold code s).now = s.now ∧
    (reportHold code s).pending = s.pending ∧ (reportHold code s).wsq.isolated = s.wsq.isolated ∧
    (reportHold code s).pcu.clamp = s.pcu.clamp ∧ (reportHold code s).stl.stop = s.stl.stop ∧
    (reportHold code s).sht.clock = s.sht.clock ∧ (reportHold code s).sht.ownDigest = s.sht.ownDigest ∧
    (reportHold code s).orq.heldList = s.orq.heldList ∧ (reportHold code s).orq.arrivals = s.orq.arrivals ∧
    (reportHold code s).wrs.counter = s.wrs.counter ∧ (reportHold code s).wrs.slots = s.wrs.slots := by
  refine ⟨?_, ?_, ?_, ?_, ?_, ?_, ?_, ?_, ?_, ?_, ?_, ?_, ?_, ?_⟩ <;>
    (simp only [reportHold]; (repeat' split) <;> (try simp) <;> (repeat' split) <;> (try simp) <;> (repeat' split) <;> simp)

@[simp] theorem reversalTimeout_frame (s : State) :
    (reversalTimeout s).inReset = s.inReset ∧ (reversalTimeout s).node = s.node ∧
    (reversalTimeout s).settings = s.settings ∧ (reversalTimeout s).now = s.now ∧
    (reversalTimeout s).pending = s.pending ∧ (reversalTimeout s).wsq.isolated = s.wsq.isolated ∧
    (reversalTimeout s).pcu.clamp = s.pcu.clamp ∧ (reversalTimeout s).stl.stop = s.stl.stop ∧
    (reversalTimeout s).sht.clock = s.sht.clock ∧ (reversalTimeout s).sht.ownDigest = s.sht.ownDigest ∧
    (reversalTimeout s).orq.heldList = s.orq.heldList ∧ (reversalTimeout s).orq.arrivals = s.orq.arrivals ∧
    (reversalTimeout s).wrs.counter = s.wrs.counter ∧ (reversalTimeout s).wrs.slots = s.wrs.slots := by
  refine ⟨?_, ?_, ?_, ?_, ?_, ?_, ?_, ?_, ?_, ?_, ?_, ?_, ?_, ?_⟩ <;>
    (simp only [reversalTimeout]; (repeat' split) <;> (try simp) <;> (repeat' split) <;> (try simp) <;> (repeat' split) <;> simp)

@[simp] theorem powerField_frame (s : State) :
    (powerField s).inReset = s.inReset ∧ (powerField s).node = s.node ∧ (powerField s).settings = s.settings ∧
    (powerField s).now = s.now ∧ (powerField s).pending = s.pending ∧ (powerField s).free = s.free ∧
    (powerField s).wsq = s.wsq ∧ (powerField s).flash = s.flash ∧ (powerField s).cdr = s.cdr ∧
    (powerField s).tru = s.tru ∧ (powerField s).sht = s.sht ∧ (powerField s).lkc = s.lkc ∧
    (powerField s).orq = s.orq ∧ (powerField s).wrs = s.wrs ∧ (powerField s).pcu.clamp = s.pcu.clamp ∧
    (powerField s).stl.stop = s.stl.stop := by
  refine ⟨?_, ?_, ?_, ?_, ?_, ?_, ?_, ?_, ?_, ?_, ?_, ?_, ?_, ?_, ?_, ?_⟩ <;>
    first | rfl | (unfold powerField; (repeat' split) <;> simp; done)

@[simp] theorem stopStation_frame (returnSwitch : Bool) (s : State) :
    (stopStation returnSwitch s).inReset = s.inReset ∧ (stopStation returnSwitch s).node = s.node ∧
    (stopStation returnSwitch s).settings = s.settings ∧ (stopStation returnSwitch s).now = s.now ∧
    (stopStation returnSwitch s).pending = s.pending ∧ (stopStation returnSwitch s).free = s.free ∧
    (stopStation returnSwitch s).flash = s.flash ∧ (stopStation returnSwitch s).cdr = s.cdr ∧
    (stopStation returnSwitch s).sht = s.sht ∧ (stopStation returnSwitch s).lkc = s.lkc ∧
    (stopStation returnSwitch s).orq = s.orq ∧ (stopStation returnSwitch s).wrs = s.wrs ∧
    (stopStation returnSwitch s).wsq.phase = s.wsq.phase ∧
    (stopStation returnSwitch s).wsq.isolated = s.wsq.isolated ∧
    (stopStation returnSwitch s).pcu.clamp = s.pcu.clamp ∧ (stopStation returnSwitch s).stl.stop = s.stl.stop := by
  refine ⟨?_, ?_, ?_, ?_, ?_, ?_, ?_, ?_, ?_, ?_, ?_, ?_, ?_, ?_, ?_, ?_⟩ <;>
    first | rfl | (unfold stopStation; (repeat' split) <;> simp; done)

@[simp] theorem stopWeld_frame (s : State) :
    (stopWeld s).inReset = s.inReset ∧ (stopWeld s).node = s.node ∧ (stopWeld s).settings = s.settings ∧
    (stopWeld s).now = s.now ∧ (stopWeld s).pending = s.pending ∧ (stopWeld s).wsq.isolated = s.wsq.isolated ∧
    (stopWeld s).pcu.clamp = s.pcu.clamp ∧ (stopWeld s).stl.stop = s.stl.stop ∧ (stopWeld s).sht.clock = s.sht.clock ∧
    (stopWeld s).sht.ownDigest = s.sht.ownDigest ∧ (stopWeld s).orq.heldList = s.orq.heldList ∧
    (stopWeld s).orq.arrivals = s.orq.arrivals ∧ (stopWeld s).wrs.counter = s.wrs.counter ∧
    (stopWeld s).wrs.slots = s.wrs.slots := by
  refine ⟨?_, ?_, ?_, ?_, ?_, ?_, ?_, ?_, ?_, ?_, ?_, ?_, ?_, ?_⟩ <;>
    (simp only [stopWeld]; (repeat' split) <;> (try simp) <;> (repeat' split) <;> (try simp) <;> (repeat' split) <;> simp)

@[simp] theorem stopOrders_frame (left : StationState) (s : State) :
    (stopOrders left s).inReset = s.inReset ∧ (stopOrders left s).node = s.node ∧
    (stopOrders left s).settings = s.settings ∧ (stopOrders left s).now = s.now ∧
    (stopOrders left s).pending = s.pending ∧ (stopOrders left s).wsq.isolated = s.wsq.isolated ∧
    (stopOrders left s).pcu.clamp = s.pcu.clamp ∧ (stopOrders left s).stl.stop = s.stl.stop ∧
    (stopOrders left s).sht.clock = s.sht.clock ∧ (stopOrders left s).sht.ownDigest = s.sht.ownDigest ∧
    (stopOrders left s).orq.heldList = s.orq.heldList ∧ (stopOrders left s).orq.arrivals = s.orq.arrivals ∧
    (stopOrders left s).wrs.counter = s.wrs.counter ∧ (stopOrders left s).wrs.slots = s.wrs.slots := by
  refine ⟨?_, ?_, ?_, ?_, ?_, ?_, ?_, ?_, ?_, ?_, ?_, ?_, ?_, ?_⟩ <;>
    (simp only [stopOrders]; (repeat' split) <;> (try simp) <;> (repeat' split) <;> (try simp) <;> (repeat' split) <;> simp)

@[simp] theorem enterActive_frame (returnSwitch : Bool) (s : State) :
    (enterActive returnSwitch s).inReset = s.inReset ∧ (enterActive returnSwitch s).node = s.node ∧
    (enterActive returnSwitch s).settings = s.settings ∧ (enterActive returnSwitch s).now = s.now ∧
    (enterActive returnSwitch s).pending = s.pending ∧ (enterActive returnSwitch s).wsq.isolated = s.wsq.isolated ∧
    (enterActive returnSwitch s).pcu.clamp = s.pcu.clamp ∧ (enterActive returnSwitch s).sht.clock = s.sht.clock ∧
    (enterActive returnSwitch s).sht.ownDigest = s.sht.ownDigest ∧
    (enterActive returnSwitch s).orq.heldList = s.orq.heldList ∧
    (enterActive returnSwitch s).orq.arrivals = s.orq.arrivals ∧
    (enterActive returnSwitch s).wrs.counter = s.wrs.counter ∧ (enterActive returnSwitch s).wrs.slots = s.wrs.slots := by
  refine ⟨?_, ?_, ?_, ?_, ?_, ?_, ?_, ?_, ?_, ?_, ?_, ?_, ?_⟩ <;>
    (simp only [enterActive]; (repeat' split) <;> (try simp) <;> (repeat' split) <;> (try simp) <;> (repeat' split) <;> simp)

@[simp] theorem resumeEnding_frame (e : Ending) (s : State) :
    (resumeEnding e s).inReset = s.inReset ∧ (resumeEnding e s).node = s.node ∧
    (resumeEnding e s).settings = s.settings ∧ (resumeEnding e s).now = s.now ∧
    (resumeEnding e s).pending = s.pending ∧ (resumeEnding e s).free = s.free ∧ (resumeEnding e s).flash = s.flash ∧
    (resumeEnding e s).cdr = s.cdr ∧ (resumeEnding e s).tru = s.tru ∧ (resumeEnding e s).stl = s.stl ∧
    (resumeEnding e s).sht = s.sht ∧ (resumeEnding e s).wsq.isolated = s.wsq.isolated ∧
    (resumeEnding e s).pcu.clamp = s.pcu.clamp ∧ (resumeEnding e s).orq.heldList = s.orq.heldList ∧
    (resumeEnding e s).orq.arrivals = s.orq.arrivals ∧ (resumeEnding e s).wrs.counter = s.wrs.counter ∧
    (resumeEnding e s).wrs.slots = s.wrs.slots := by
  refine ⟨?_, ?_, ?_, ?_, ?_, ?_, ?_, ?_, ?_, ?_, ?_, ?_, ?_, ?_, ?_, ?_, ?_⟩ <;>
    first | rfl | (unfold resumeEnding; (repeat' split) <;> simp; done)

@[simp] theorem resumeUpset_frame (s : State) :
    (resumeUpset s).inReset = s.inReset ∧ (resumeUpset s).node = s.node ∧ (resumeUpset s).settings = s.settings ∧
    (resumeUpset s).now = s.now ∧ (resumeUpset s).pending = s.pending ∧
    (resumeUpset s).wsq.isolated = s.wsq.isolated ∧ (resumeUpset s).pcu.clamp = s.pcu.clamp ∧
    (resumeUpset s).stl.stop = s.stl.stop ∧ (resumeUpset s).sht.clock = s.sht.clock ∧
    (resumeUpset s).sht.ownDigest = s.sht.ownDigest ∧ (resumeUpset s).orq.heldList = s.orq.heldList ∧
    (resumeUpset s).orq.arrivals = s.orq.arrivals ∧ (resumeUpset s).wrs.counter = s.wrs.counter ∧
    (resumeUpset s).wrs.slots = s.wrs.slots := by
  refine ⟨?_, ?_, ?_, ?_, ?_, ?_, ?_, ?_, ?_, ?_, ?_, ?_, ?_, ?_⟩ <;>
    (simp only [resumeUpset]; (repeat' split) <;> (try simp) <;> (repeat' split) <;> (try simp) <;> (repeat' split) <;> simp)

@[simp] theorem resumePhase_frame (s : State) :
    (resumePhase s).inReset = s.inReset ∧ (resumePhase s).node = s.node ∧ (resumePhase s).settings = s.settings ∧
    (resumePhase s).now = s.now ∧ (resumePhase s).pending = s.pending ∧
    (resumePhase s).wsq.isolated = s.wsq.isolated ∧ (resumePhase s).pcu.clamp = s.pcu.clamp ∧
    (resumePhase s).stl.stop = s.stl.stop ∧ (resumePhase s).sht.clock = s.sht.clock ∧
    (resumePhase s).sht.ownDigest = s.sht.ownDigest ∧ (resumePhase s).orq.heldList = s.orq.heldList ∧
    (resumePhase s).orq.arrivals = s.orq.arrivals ∧ (resumePhase s).wrs.counter = s.wrs.counter ∧
    (resumePhase s).wrs.slots = s.wrs.slots := by
  refine ⟨?_, ?_, ?_, ?_, ?_, ?_, ?_, ?_, ?_, ?_, ?_, ?_, ?_, ?_⟩ <;>
    (simp only [resumePhase]; (repeat' split) <;> (try simp) <;> (repeat' split) <;> (try simp) <;> (repeat' split) <;> simp)

@[simp] theorem resumeAbort_frame (a : Abort) (s : State) :
    (resumeAbort a s).inReset = s.inReset ∧ (resumeAbort a s).node = s.node ∧
    (resumeAbort a s).settings = s.settings ∧ (resumeAbort a s).now = s.now ∧ (resumeAbort a s).pending = s.pending ∧
    (resumeAbort a s).wsq.isolated = s.wsq.isolated ∧ (resumeAbort a s).pcu.clamp = s.pcu.clamp ∧
    (resumeAbort a s).stl.stop = s.stl.stop ∧ (resumeAbort a s).sht.clock = s.sht.clock ∧
    (resumeAbort a s).sht.ownDigest = s.sht.ownDigest ∧ (resumeAbort a s).orq.heldList = s.orq.heldList ∧
    (resumeAbort a s).orq.arrivals = s.orq.arrivals ∧ (resumeAbort a s).wrs.counter = s.wrs.counter ∧
    (resumeAbort a s).wrs.slots = s.wrs.slots := by
  refine ⟨?_, ?_, ?_, ?_, ?_, ?_, ?_, ?_, ?_, ?_, ?_, ?_, ?_, ?_⟩ <;>
    (simp only [resumeAbort]; (repeat' split) <;> (try simp) <;> (repeat' split) <;> (try simp) <;> (repeat' split) <;> simp)

@[simp] theorem resumeWeld_frame (s : State) :
    (resumeWeld s).inReset = s.inReset ∧ (resumeWeld s).node = s.node ∧ (resumeWeld s).settings = s.settings ∧
    (resumeWeld s).now = s.now ∧ (resumeWeld s).pending = s.pending ∧ (resumeWeld s).wsq.isolated = s.wsq.isolated ∧
    (resumeWeld s).pcu.clamp = s.pcu.clamp ∧ (resumeWeld s).stl.stop = s.stl.stop ∧
    (resumeWeld s).sht.clock = s.sht.clock ∧ (resumeWeld s).sht.ownDigest = s.sht.ownDigest ∧
    (resumeWeld s).orq.heldList = s.orq.heldList ∧ (resumeWeld s).orq.arrivals = s.orq.arrivals ∧
    (resumeWeld s).wrs.counter = s.wrs.counter ∧ (resumeWeld s).wrs.slots = s.wrs.slots := by
  refine ⟨?_, ?_, ?_, ?_, ?_, ?_, ?_, ?_, ?_, ?_, ?_, ?_, ?_, ?_⟩ <;>
    (simp only [resumeWeld]; (repeat' split) <;> (try simp) <;> (repeat' split) <;> (try simp) <;> (repeat' split) <;> simp)

@[simp] theorem returnByClamp_returnSettled_frame (s : State) :
    (returnByClamp.returnSettled s).inReset = s.inReset ∧ (returnByClamp.returnSettled s).node = s.node ∧
    (returnByClamp.returnSettled s).settings = s.settings ∧ (returnByClamp.returnSettled s).now = s.now ∧
    (returnByClamp.returnSettled s).pending = s.pending ∧ (returnByClamp.returnSettled s).free = s.free ∧
    (returnByClamp.returnSettled s).flash = s.flash ∧ (returnByClamp.returnSettled s).cdr = s.cdr ∧
    (returnByClamp.returnSettled s).tru = s.tru ∧ (returnByClamp.returnSettled s).stl = s.stl ∧
    (returnByClamp.returnSettled s).sht = s.sht ∧ (returnByClamp.returnSettled s).lkc = s.lkc ∧
    (returnByClamp.returnSettled s).orq = s.orq ∧ (returnByClamp.returnSettled s).wrs = s.wrs ∧
    (returnByClamp.returnSettled s).wsq.phase = s.wsq.phase ∧
    (returnByClamp.returnSettled s).wsq.isolated = s.wsq.isolated ∧
    (returnByClamp.returnSettled s).pcu.clamp = s.pcu.clamp := by
  refine ⟨?_, ?_, ?_, ?_, ?_, ?_, ?_, ?_, ?_, ?_, ?_, ?_, ?_, ?_, ?_, ?_, ?_⟩ <;>
    (simp only [returnByClamp.returnSettled]; (repeat' split) <;> (try simp) <;> (repeat' split) <;> (try simp) <;> (repeat' split) <;> simp)

@[simp] theorem returnByClamp_frame (s : State) :
    (returnByClamp s).inReset = s.inReset ∧ (returnByClamp s).node = s.node ∧
    (returnByClamp s).settings = s.settings ∧ (returnByClamp s).now = s.now ∧ (returnByClamp s).pending = s.pending ∧
    (returnByClamp s).free = s.free ∧ (returnByClamp s).flash = s.flash ∧ (returnByClamp s).cdr = s.cdr ∧
    (returnByClamp s).tru = s.tru ∧ (returnByClamp s).stl = s.stl ∧ (returnByClamp s).sht = s.sht ∧
    (returnByClamp s).lkc = s.lkc ∧ (returnByClamp s).orq = s.orq ∧ (returnByClamp s).wrs = s.wrs ∧
    (returnByClamp s).wsq.phase = s.wsq.phase ∧ (returnByClamp s).wsq.isolated = s.wsq.isolated := by
  refine ⟨?_, ?_, ?_, ?_, ?_, ?_, ?_, ?_, ?_, ?_, ?_, ?_, ?_, ?_, ?_, ?_⟩ <;>
    (simp only [returnByClamp]; (repeat' split) <;> (try simp) <;> (repeat' split) <;> (try simp) <;> (repeat' split) <;> simp)

@[simp] theorem returnFromHold_frame (s : State) :
    (returnFromHold s).inReset = s.inReset ∧ (returnFromHold s).node = s.node ∧
    (returnFromHold s).settings = s.settings ∧ (returnFromHold s).now = s.now ∧
    (returnFromHold s).pending = s.pending ∧ (returnFromHold s).wsq.isolated = s.wsq.isolated ∧
    (returnFromHold s).stl.stop = s.stl.stop ∧ (returnFromHold s).sht.clock = s.sht.clock ∧
    (returnFromHold s).sht.ownDigest = s.sht.ownDigest ∧ (returnFromHold s).orq.heldList = s.orq.heldList ∧
    (returnFromHold s).orq.arrivals = s.orq.arrivals ∧ (returnFromHold s).wrs.counter = s.wrs.counter ∧
    (returnFromHold s).wrs.slots = s.wrs.slots := by
  refine ⟨?_, ?_, ?_, ?_, ?_, ?_, ?_, ?_, ?_, ?_, ?_, ?_, ?_⟩ <;>
    (simp only [returnFromHold]; (repeat' split) <;> (try simp) <;> (repeat' split) <;> (try simp) <;> (repeat' split) <;> simp)

end Sys2Proof.Machine
end

