-- ==== Sys2Proof/Laws/OrdersFrame.lean ====
section
/-! SUPPORT. What each operation of Machine/Orders.lean leaves as it was. -/

namespace Sys2Proof.Machine

@[simp] theorem enterDormant_frame (s : State) :
    (enterDormant s).inReset = s.inReset ∧ (enterDormant s).node = s.node ∧ (enterDormant s).settings = s.settings ∧
    (enterDormant s).now = s.now ∧ (enterDormant s).pending = s.pending ∧ (enterDormant s).flash = s.flash ∧
    (enterDormant s).sht = s.sht ∧ (enterDormant s).lkc = s.lkc ∧ (enterDormant s).orq = s.orq ∧
    (enterDormant s).wrs = s.wrs ∧ (enterDormant s).wsq.phase = s.wsq.phase ∧
    (enterDormant s).wsq.isolated = s.wsq.isolated ∧ (enterDormant s).pcu.clamp = s.pcu.clamp ∧
    (enterDormant s).stl.stop = s.stl.stop := by
  refine ⟨?_, ?_, ?_, ?_, ?_, ?_, ?_, ?_, ?_, ?_, ?_, ?_, ?_, ?_⟩ <;>
    (simp only [enterDormant]; (repeat' split) <;> (try simp) <;> (repeat' split) <;> (try simp) <;> (repeat' split) <;> simp)

@[simp] theorem startWake_frame (s : State) :
    (startWake s).inReset = s.inReset ∧ (startWake s).node = s.node ∧ (startWake s).settings = s.settings ∧
    (startWake s).now = s.now ∧ (startWake s).pending = s.pending ∧ (startWake s).free = s.free ∧
    (startWake s).flash = s.flash ∧ (startWake s).cdr = s.cdr ∧ (startWake s).tru = s.tru ∧
    (startWake s).sht = s.sht ∧ (startWake s).lkc = s.lkc ∧ (startWake s).orq = s.orq ∧ (startWake s).wrs = s.wrs ∧
    (startWake s).wsq.phase = s.wsq.phase ∧ (startWake s).wsq.isolated = s.wsq.isolated ∧
    (startWake s).pcu.clamp = s.pcu.clamp ∧ (startWake s).stl.stop = s.stl.stop := by
  refine ⟨?_, ?_, ?_, ?_, ?_, ?_, ?_, ?_, ?_, ?_, ?_, ?_, ?_, ?_, ?_, ?_, ?_⟩ <;>
    first | rfl | (unfold startWake; (repeat' split) <;> simp; done)

@[simp] theorem handleQueued_frame (src tag : Nat) (kind : QueuedKind) (s : State) :
    (handleQueued src tag kind s).inReset = s.inReset ∧ (handleQueued src tag kind s).node = s.node ∧
    (handleQueued src tag kind s).settings = s.settings ∧ (handleQueued src tag kind s).now = s.now ∧
    (handleQueued src tag kind s).pending = s.pending ∧ (handleQueued src tag kind s).free = s.free ∧
    (handleQueued src tag kind s).wsq = s.wsq ∧ (handleQueued src tag kind s).flash = s.flash ∧
    (handleQueued src tag kind s).cdr = s.cdr ∧ (handleQueued src tag kind s).pcu = s.pcu ∧
    (handleQueued src tag kind s).tru = s.tru ∧ (handleQueued src tag kind s).stl = s.stl ∧
    (handleQueued src tag kind s).sht = s.sht ∧ (handleQueued src tag kind s).orq.heldList = s.orq.heldList ∧
    (handleQueued src tag kind s).orq.arrivals = s.orq.arrivals ∧
    (handleQueued src tag kind s).wrs.counter = s.wrs.counter ∧
    (handleQueued src tag kind s).wrs.slots = s.wrs.slots := by
  refine ⟨?_, ?_, ?_, ?_, ?_, ?_, ?_, ?_, ?_, ?_, ?_, ?_, ?_, ?_, ?_, ?_, ?_⟩ <;>
    first | rfl | (unfold handleQueued; (repeat' split) <;> simp; done)

@[simp] theorem fileAbortOrder_frame (s : State) :
    (fileAbortOrder s).inReset = s.inReset ∧ (fileAbortOrder s).node = s.node ∧
    (fileAbortOrder s).settings = s.settings ∧ (fileAbortOrder s).now = s.now ∧
    (fileAbortOrder s).pending = s.pending ∧ (fileAbortOrder s).free = s.free ∧ (fileAbortOrder s).flash = s.flash ∧
    (fileAbortOrder s).cdr = s.cdr ∧ (fileAbortOrder s).pcu = s.pcu ∧ (fileAbortOrder s).tru = s.tru ∧
    (fileAbortOrder s).stl = s.stl ∧ (fileAbortOrder s).sht = s.sht ∧ (fileAbortOrder s).lkc = s.lkc ∧
    (fileAbortOrder s).orq = s.orq ∧ (fileAbortOrder s).wsq.station = s.wsq.station ∧
    (fileAbortOrder s).wsq.phase = s.wsq.phase ∧ (fileAbortOrder s).wsq.isolated = s.wsq.isolated ∧
    (fileAbortOrder s).wrs.counter = s.wrs.counter ∧ (fileAbortOrder s).wrs.slots = s.wrs.slots := by
  refine ⟨?_, ?_, ?_, ?_, ?_, ?_, ?_, ?_, ?_, ?_, ?_, ?_, ?_, ?_, ?_, ?_, ?_, ?_, ?_⟩ <;>
    first | rfl | (unfold fileAbortOrder; (repeat' split) <;> simp; done)

@[simp] theorem abortClamp_frame (s : State) :
    (abortClamp s).inReset = s.inReset ∧ (abortClamp s).node = s.node ∧ (abortClamp s).settings = s.settings ∧
    (abortClamp s).now = s.now ∧ (abortClamp s).pending = s.pending ∧ (abortClamp s).tru = s.tru ∧
    (abortClamp s).wsq.station = s.wsq.station ∧ (abortClamp s).wsq.isolated = s.wsq.isolated ∧
    (abortClamp s).stl.stop = s.stl.stop ∧ (abortClamp s).sht.clock = s.sht.clock ∧
    (abortClamp s).sht.ownDigest = s.sht.ownDigest ∧ (abortClamp s).orq.heldList = s.orq.heldList ∧
    (abortClamp s).orq.arrivals = s.orq.arrivals ∧ (abortClamp s).wrs.counter = s.wrs.counter ∧
    (abortClamp s).wrs.slots = s.wrs.slots := by
  refine ⟨?_, ?_, ?_, ?_, ?_, ?_, ?_, ?_, ?_, ?_, ?_, ?_, ?_, ?_, ?_⟩ <;>
    (simp only [abortClamp]; (repeat' split) <;> (try simp) <;> (repeat' split) <;> (try simp) <;> (repeat' split) <;> simp)

@[simp] theorem passAbort_frame (target : Nat) (s : State) :
    (passAbort target s).inReset = s.inReset ∧ (passAbort target s).node = s.node ∧
    (passAbort target s).settings = s.settings ∧ (passAbort target s).now = s.now ∧
    (passAbort target s).pending = s.pending ∧ (passAbort target s).wsq.isolated = s.wsq.isolated ∧
    (passAbort target s).stl.stop = s.stl.stop ∧ (passAbort target s).sht.clock = s.sht.clock ∧
    (passAbort target s).sht.ownDigest = s.sht.ownDigest ∧ (passAbort target s).orq.heldList = s.orq.heldList ∧
    (passAbort target s).orq.arrivals = s.orq.arrivals ∧ (passAbort target s).wrs.counter = s.wrs.counter ∧
    (passAbort target s).wrs.slots = s.wrs.slots := by
  refine ⟨?_, ?_, ?_, ?_, ?_, ?_, ?_, ?_, ?_, ?_, ?_, ?_, ?_⟩ <;>
    (simp only [passAbort]; (repeat' split) <;> (try simp) <;> (repeat' split) <;> (try simp) <;> (repeat' split) <;> simp)

@[simp] theorem sendCancelled_frame (removed : List QueuedOrder) (s : State) :
    (sendCancelled removed s).inReset = s.inReset ∧ (sendCancelled removed s).node = s.node ∧
    (sendCancelled removed s).settings = s.settings ∧ (sendCancelled removed s).now = s.now ∧
    (sendCancelled removed s).pending = s.pending ∧ (sendCancelled removed s).free = s.free ∧
    (sendCancelled removed s).wsq = s.wsq ∧ (sendCancelled removed s).flash = s.flash ∧
    (sendCancelled removed s).cdr = s.cdr ∧ (sendCancelled removed s).pcu = s.pcu ∧
    (sendCancelled removed s).tru = s.tru ∧ (sendCancelled removed s).stl = s.stl ∧
    (sendCancelled removed s).sht = s.sht ∧ (sendCancelled removed s).orq.heldList = s.orq.heldList ∧
    (sendCancelled removed s).orq.arrivals = s.orq.arrivals ∧ (sendCancelled removed s).wrs.counter = s.wrs.counter ∧
    (sendCancelled removed s).wrs.slots = s.wrs.slots := by
  refine ⟨?_, ?_, ?_, ?_, ?_, ?_, ?_, ?_, ?_, ?_, ?_, ?_, ?_, ?_, ?_, ?_, ?_⟩ <;>
    (unfold sendCancelled; induction removed generalizing s with | nil => rfl | cons o l ih => rw [List.foldl_cons, ih]; simp)

@[simp] theorem endAborted_frame (outcome : Option OrderOutcome) (s : State) :
    (endAborted outcome s).inReset = s.inReset ∧ (endAborted outcome s).node = s.node ∧
    (endAborted outcome s).settings = s.settings ∧ (endAborted outcome s).now = s.now ∧
    (endAborted outcome s).pending = s.pending ∧ (endAborted outcome s).free = s.free ∧
    (endAborted outcome s).wsq = s.wsq ∧ (endAborted outcome s).flash = s.flash ∧
    (endAborted outcome s).cdr = s.cdr ∧ (endAborted outcome s).pcu = s.pcu ∧ (endAborted outcome s).tru = s.tru ∧
    (endAborted outcome s).stl = s.stl ∧ (endAborted outcome s).sht = s.sht ∧
    (endAborted outcome s).orq.heldList = s.orq.heldList ∧ (endAborted outcome s).orq.arrivals = s.orq.arrivals ∧
    (endAborted outcome s).wrs.counter = s.wrs.counter ∧ (endAborted outcome s).wrs.slots = s.wrs.slots := by
  refine ⟨?_, ?_, ?_, ?_, ?_, ?_, ?_, ?_, ?_, ?_, ?_, ?_, ?_, ?_, ?_, ?_, ?_⟩ <;>
    (unfold endAborted; split <;> simp)

@[simp] theorem handleAbort_frame (src tag target : Nat) (s : State) :
    (handleAbort src tag target s).inReset = s.inReset ∧ (handleAbort src tag target s).node = s.node ∧
    (handleAbort src tag target s).settings = s.settings ∧ (handleAbort src tag target s).now = s.now ∧
    (handleAbort src tag target s).pending = s.pending ∧
    (handleAbort src tag target s).wsq.isolated = s.wsq.isolated ∧
    (handleAbort src tag target s).stl.stop = s.stl.stop ∧ (handleAbort src tag target s).sht.clock = s.sht.clock ∧
    (handleAbort src tag target s).sht.ownDigest = s.sht.ownDigest ∧
    (handleAbort src tag target s).orq.heldList = s.orq.heldList ∧
    (handleAbort src tag target s).orq.arrivals = s.orq.arrivals ∧
    (handleAbort src tag target s).wrs.counter = s.wrs.counter ∧
    (handleAbort src tag target s).wrs.slots = s.wrs.slots := by
  refine ⟨?_, ?_, ?_, ?_, ?_, ?_, ?_, ?_, ?_, ?_, ?_, ?_, ?_⟩ <;>
    (simp only [handleAbort]; (repeat' split) <;> (try simp) <;> (repeat' split) <;> (try simp) <;> (repeat' split) <;> simp)

@[simp] theorem wsqClear_frame (s : State) :
    (wsqClear s).inReset = s.inReset ∧ (wsqClear s).node = s.node ∧ (wsqClear s).settings = s.settings ∧
    (wsqClear s).now = s.now ∧ (wsqClear s).pending = s.pending ∧ (wsqClear s).wsq.isolated = s.wsq.isolated ∧
    (wsqClear s).stl.stop = s.stl.stop ∧ (wsqClear s).sht.clock = s.sht.clock ∧
    (wsqClear s).sht.ownDigest = s.sht.ownDigest ∧ (wsqClear s).orq.heldList = s.orq.heldList ∧
    (wsqClear s).orq.arrivals = s.orq.arrivals ∧ (wsqClear s).wrs.counter = s.wrs.counter ∧
    (wsqClear s).wrs.slots = s.wrs.slots := by
  refine ⟨?_, ?_, ?_, ?_, ?_, ?_, ?_, ?_, ?_, ?_, ?_, ?_, ?_⟩ <;>
    (simp only [wsqClear]; (repeat' split) <;> (try simp) <;> (repeat' split) <;> (try simp) <;> (repeat' split) <;> simp)

@[simp] theorem actClear_frame (s : State) :
    (actClear s).inReset = s.inReset ∧ (actClear s).node = s.node ∧ (actClear s).settings = s.settings ∧
    (actClear s).now = s.now ∧ (actClear s).pending = s.pending ∧ (actClear s).wsq.isolated = s.wsq.isolated ∧
    (actClear s).sht.clock = s.sht.clock ∧ (actClear s).sht.ownDigest = s.sht.ownDigest ∧
    (actClear s).orq.heldList = s.orq.heldList ∧ (actClear s).orq.arrivals = s.orq.arrivals ∧
    (actClear s).wrs.counter = s.wrs.counter ∧ (actClear s).wrs.slots = s.wrs.slots := by
  refine ⟨?_, ?_, ?_, ?_, ?_, ?_, ?_, ?_, ?_, ?_, ?_, ?_⟩ <;>
    (simp only [actClear]; (repeat' split) <;> (try simp) <;> (repeat' split) <;> (try simp) <;> (repeat' split) <;> simp)

@[simp] theorem handleClear_frame (src tag : Nat) (s : State) :
    (handleClear src tag s).inReset = s.inReset ∧ (handleClear src tag s).node = s.node ∧
    (handleClear src tag s).settings = s.settings ∧ (handleClear src tag s).now = s.now ∧
    (handleClear src tag s).pending = s.pending ∧ (handleClear src tag s).wsq.isolated = s.wsq.isolated ∧
    (handleClear src tag s).sht.clock = s.sht.clock ∧ (handleClear src tag s).sht.ownDigest = s.sht.ownDigest ∧
    (handleClear src tag s).orq.heldList = s.orq.heldList ∧ (handleClear src tag s).orq.arrivals = s.orq.arrivals ∧
    (handleClear src tag s).wrs.counter = s.wrs.counter ∧ (handleClear src tag s).wrs.slots = s.wrs.slots := by
  refine ⟨?_, ?_, ?_, ?_, ?_, ?_, ?_, ?_, ?_, ?_, ?_, ?_⟩ <;>
    (simp only [handleClear]; (repeat' split) <;> (try simp) <;> (repeat' split) <;> (try simp) <;> (repeat' split) <;> simp)

@[simp] theorem handleStatus_frame (src tag selector part : Nat) (s : State) :
    (handleStatus src tag selector part s).inReset = s.inReset ∧
    (handleStatus src tag selector part s).node = s.node ∧
    (handleStatus src tag selector part s).settings = s.settings ∧
    (handleStatus src tag selector part s).now = s.now ∧ (handleStatus src tag selector part s).pending = s.pending ∧
    (handleStatus src tag selector part s).free = s.free ∧ (handleStatus src tag selector part s).wsq = s.wsq ∧
    (handleStatus src tag selector part s).flash = s.flash ∧ (handleStatus src tag selector part s).cdr = s.cdr ∧
    (handleStatus src tag selector part s).pcu = s.pcu ∧ (handleStatus src tag selector part s).tru = s.tru ∧
    (handleStatus src tag selector part s).stl = s.stl ∧ (handleStatus src tag selector part s).sht = s.sht ∧
    (handleStatus src tag selector part s).orq.heldList = s.orq.heldList ∧
    (handleStatus src tag selector part s).orq.arrivals = s.orq.arrivals ∧
    (handleStatus src tag selector part s).wrs.counter = s.wrs.counter ∧
    (handleStatus src tag selector part s).wrs.slots = s.wrs.slots := by
  refine ⟨?_, ?_, ?_, ?_, ?_, ?_, ?_, ?_, ?_, ?_, ?_, ?_, ?_, ?_, ?_, ?_, ?_⟩ <;>
    first | rfl | (unfold handleStatus; (repeat' split) <;> simp; done)

@[simp] theorem handleAdjust_frame (src tag : Nat) (trip speed force : Int) (s : State) :
    (handleAdjust src tag trip speed force s).inReset = s.inReset ∧
    (handleAdjust src tag trip speed force s).node = s.node ∧
    (handleAdjust src tag trip speed force s).settings = s.settings ∧
    (handleAdjust src tag trip speed force s).now = s.now ∧
    (handleAdjust src tag trip speed force s).pending = s.pending ∧
    (handleAdjust src tag trip speed force s).free = s.free ∧
    (handleAdjust src tag trip speed force s).flash = s.flash ∧
    (handleAdjust src tag trip speed force s).cdr = s.cdr ∧ (handleAdjust src tag trip speed force s).pcu = s.pcu ∧
    (handleAdjust src tag trip speed force s).tru = s.tru ∧ (handleAdjust src tag trip speed force s).stl = s.stl ∧
    (handleAdjust src tag trip speed force s).sht = s.sht ∧
    (handleAdjust src tag trip speed force s).wsq.station = s.wsq.station ∧
    (handleAdjust src tag trip speed force s).wsq.phase = s.wsq.phase ∧
    (handleAdjust src tag trip speed force s).wsq.isolated = s.wsq.isolated ∧
    (handleAdjust src tag trip speed force s).orq.heldList = s.orq.heldList ∧
    (handleAdjust src tag trip speed force s).orq.arrivals = s.orq.arrivals ∧
    (handleAdjust src tag trip speed force s).wrs.counter = s.wrs.counter ∧
    (handleAdjust src tag trip speed force s).wrs.slots = s.wrs.slots := by
  refine ⟨?_, ?_, ?_, ?_, ?_, ?_, ?_, ?_, ?_, ?_, ?_, ?_, ?_, ?_, ?_, ?_, ?_, ?_, ?_⟩ <;>
    first | rfl | (unfold handleAdjust; (repeat' split) <;> simp; done)

@[simp] theorem handleRead_frame (src tag weldNo : Nat) (s : State) :
    (handleRead src tag weldNo s).inReset = s.inReset ∧ (handleRead src tag weldNo s).node = s.node ∧
    (handleRead src tag weldNo s).settings = s.settings ∧ (handleRead src tag weldNo s).now = s.now ∧
    (handleRead src tag weldNo s).pending = s.pending ∧ (handleRead src tag weldNo s).free = s.free ∧
    (handleRead src tag weldNo s).wsq = s.wsq ∧ (handleRead src tag weldNo s).flash = s.flash ∧
    (handleRead src tag weldNo s).cdr = s.cdr ∧ (handleRead src tag weldNo s).pcu = s.pcu ∧
    (handleRead src tag weldNo s).tru = s.tru ∧ (handleRead src tag weldNo s).stl = s.stl ∧
    (handleRead src tag weldNo s).sht = s.sht ∧ (handleRead src tag weldNo s).orq.heldList = s.orq.heldList ∧
    (handleRead src tag weldNo s).orq.arrivals = s.orq.arrivals ∧
    (handleRead src tag weldNo s).wrs.counter = s.wrs.counter ∧
    (handleRead src tag weldNo s).wrs.slots = s.wrs.slots := by
  refine ⟨?_, ?_, ?_, ?_, ?_, ?_, ?_, ?_, ?_, ?_, ?_, ?_, ?_, ?_, ?_, ?_, ?_⟩ <;>
    first | rfl | (unfold handleRead; (repeat' split) <;> simp; done)

@[simp] theorem handleRelease_frame (src tag weldNo : Nat) (s : State) :
    (handleRelease src tag weldNo s).inReset = s.inReset ∧ (handleRelease src tag weldNo s).node = s.node ∧
    (handleRelease src tag weldNo s).settings = s.settings ∧ (handleRelease src tag weldNo s).now = s.now ∧
    (handleRelease src tag weldNo s).pending = s.pending ∧ (handleRelease src tag weldNo s).free = s.free ∧
    (handleRelease src tag weldNo s).wsq = s.wsq ∧ (handleRelease src tag weldNo s).flash = s.flash ∧
    (handleRelease src tag weldNo s).cdr = s.cdr ∧ (handleRelease src tag weldNo s).pcu = s.pcu ∧
    (handleRelease src tag weldNo s).tru = s.tru ∧ (handleRelease src tag weldNo s).stl = s.stl ∧
    (handleRelease src tag weldNo s).sht = s.sht ∧ (handleRelease src tag weldNo s).orq.heldList = s.orq.heldList ∧
    (handleRelease src tag weldNo s).orq.arrivals = s.orq.arrivals ∧
    (handleRelease src tag weldNo s).wrs.counter = s.wrs.counter := by
  refine ⟨?_, ?_, ?_, ?_, ?_, ?_, ?_, ?_, ?_, ?_, ?_, ?_, ?_, ?_, ?_, ?_⟩ <;>
    first | rfl | (unfold handleRelease; (repeat' split) <;> simp; done)

@[simp] theorem handleRest_frame (src tag : Nat) (s : State) :
    (handleRest src tag s).inReset = s.inReset ∧ (handleRest src tag s).node = s.node ∧
    (handleRest src tag s).settings = s.settings ∧ (handleRest src tag s).now = s.now ∧
    (handleRest src tag s).pending = s.pending ∧ (handleRest src tag s).flash = s.flash ∧
    (handleRest src tag s).sht = s.sht ∧ (handleRest src tag s).wsq.phase = s.wsq.phase ∧
    (handleRest src tag s).wsq.isolated = s.wsq.isolated ∧ (handleRest src tag s).pcu.clamp = s.pcu.clamp ∧
    (handleRest src tag s).stl.stop = s.stl.stop ∧ (handleRest src tag s).orq.heldList = s.orq.heldList ∧
    (handleRest src tag s).orq.arrivals = s.orq.arrivals ∧ (handleRest src tag s).wrs.counter = s.wrs.counter ∧
    (handleRest src tag s).wrs.slots = s.wrs.slots := by
  refine ⟨?_, ?_, ?_, ?_, ?_, ?_, ?_, ?_, ?_, ?_, ?_, ?_, ?_, ?_, ?_⟩ <;>
    (simp only [handleRest]; (repeat' split) <;> (try simp) <;> (repeat' split) <;> (try simp) <;> (repeat' split) <;> simp)

@[simp] theorem handleRestart_frame (src tag : Nat) (s : State) :
    (handleRestart src tag s).inReset = s.inReset ∧ (handleRestart src tag s).node = s.node ∧
    (handleRestart src tag s).settings = s.settings ∧ (handleRestart src tag s).now = s.now ∧
    (handleRestart src tag s).pending = s.pending ∧ (handleRestart src tag s).free = s.free ∧
    (handleRestart src tag s).wsq = s.wsq ∧ (handleRestart src tag s).flash = s.flash ∧
    (handleRestart src tag s).cdr = s.cdr ∧ (handleRestart src tag s).pcu = s.pcu ∧
    (handleRestart src tag s).tru = s.tru ∧ (handleRestart src tag s).stl = s.stl ∧
    (handleRestart src tag s).sht = s.sht ∧ (handleRestart src tag s).orq.heldList = s.orq.heldList ∧
    (handleRestart src tag s).orq.arrivals = s.orq.arrivals ∧ (handleRestart src tag s).wrs.counter = s.wrs.counter ∧
    (handleRestart src tag s).wrs.slots = s.wrs.slots := by
  refine ⟨?_, ?_, ?_, ?_, ?_, ?_, ?_, ?_, ?_, ?_, ?_, ?_, ?_, ?_, ?_, ?_, ?_⟩ <;>
    first | rfl | (unfold handleRestart; (repeat' split) <;> simp; done)

@[simp] theorem refuseBody_frame (d : Delivered) (reason : Reason) (s : State) :
    (refuseBody d reason s).inReset = s.inReset ∧ (refuseBody d reason s).node = s.node ∧
    (refuseBody d reason s).settings = s.settings ∧ (refuseBody d reason s).now = s.now ∧
    (refuseBody d reason s).pending = s.pending ∧ (refuseBody d reason s).wsq = s.wsq ∧
    (refuseBody d reason s).flash = s.flash ∧ (refuseBody d reason s).cdr = s.cdr ∧
    (refuseBody d reason s).pcu = s.pcu ∧ (refuseBody d reason s).tru = s.tru ∧ (refuseBody d reason s).stl = s.stl ∧
    (refuseBody d reason s).sht = s.sht ∧ (refuseBody d reason s).orq.heldList = s.orq.heldList ∧
    (refuseBody d reason s).orq.arrivals = s.orq.arrivals ∧ (refuseBody d reason s).wrs.counter = s.wrs.counter ∧
    (refuseBody d reason s).wrs.slots = s.wrs.slots := by
  refine ⟨?_, ?_, ?_, ?_, ?_, ?_, ?_, ?_, ?_, ?_, ?_, ?_, ?_, ?_, ?_, ?_⟩ <;>
    (simp only [refuseBody, State.fresh]; (repeat' split) <;> (try simp) <;> (repeat' split) <;> (try simp) <;> (repeat' split) <;> simp)

@[simp] theorem restartIdle_frame (b : OrderBody) (s : State) :
    (restartIdle b s).inReset = s.inReset ∧ (restartIdle b s).node = s.node ∧
    (restartIdle b s).settings = s.settings ∧ (restartIdle b s).now = s.now ∧ (restartIdle b s).pending = s.pending ∧
    (restartIdle b s).free = s.free ∧ (restartIdle b s).flash = s.flash ∧ (restartIdle b s).cdr = s.cdr ∧
    (restartIdle b s).pcu = s.pcu ∧ (restartIdle b s).tru = s.tru ∧ (restartIdle b s).stl = s.stl ∧
    (restartIdle b s).sht = s.sht ∧ (restartIdle b s).lkc = s.lkc ∧ (restartIdle b s).orq = s.orq ∧
    (restartIdle b s).wrs = s.wrs ∧ (restartIdle b s).wsq.station = s.wsq.station ∧
    (restartIdle b s).wsq.phase = s.wsq.phase ∧ (restartIdle b s).wsq.isolated = s.wsq.isolated := by
  refine ⟨?_, ?_, ?_, ?_, ?_, ?_, ?_, ?_, ?_, ?_, ?_, ?_, ?_, ?_, ?_, ?_, ?_, ?_⟩ <;>
    first | rfl | (unfold restartIdle; (repeat' split) <;> simp; done)

@[simp] theorem dispatchOrder_frame (src : Nat) (b : OrderBody) (s : State) :
    (dispatchOrder src b s).inReset = s.inReset ∧ (dispatchOrder src b s).node = s.node ∧
    (dispatchOrder src b s).settings = s.settings ∧ (dispatchOrder src b s).now = s.now ∧
    (dispatchOrder src b s).pending = s.pending ∧ (dispatchOrder src b s).wsq.isolated = s.wsq.isolated ∧
    (dispatchOrder src b s).sht.clock = s.sht.clock ∧ (dispatchOrder src b s).sht.ownDigest = s.sht.ownDigest ∧
    (dispatchOrder src b s).orq.heldList = s.orq.heldList ∧ (dispatchOrder src b s).orq.arrivals = s.orq.arrivals ∧
    (dispatchOrder src b s).wrs.counter = s.wrs.counter := by
  refine ⟨?_, ?_, ?_, ?_, ?_, ?_, ?_, ?_, ?_, ?_, ?_⟩ <;>
    (simp only [dispatchOrder]; (repeat' split) <;> (try simp) <;> (repeat' split) <;> (try simp) <;> (repeat' split) <;> simp)

@[simp] theorem handleOrder_frame (d : Delivered) (s : State) :
    (handleOrder d s).inReset = s.inReset ∧ (handleOrder d s).node = s.node ∧
    (handleOrder d s).settings = s.settings ∧ (handleOrder d s).now = s.now ∧ (handleOrder d s).pending = s.pending ∧
    (handleOrder d s).wsq.isolated = s.wsq.isolated ∧ (handleOrder d s).sht.clock = s.sht.clock ∧
    (handleOrder d s).sht.ownDigest = s.sht.ownDigest ∧ (handleOrder d s).orq.heldList = s.orq.heldList ∧
    (handleOrder d s).orq.arrivals = s.orq.arrivals ∧ (handleOrder d s).wrs.counter = s.wrs.counter := by
  refine ⟨?_, ?_, ?_, ?_, ?_, ?_, ?_, ?_, ?_, ?_, ?_⟩ <;>
    (simp only [handleOrder]; (repeat' split) <;> (try simp) <;> (repeat' split) <;> (try simp) <;> (repeat' split) <;> simp)

@[simp] theorem wakeUp_frame (s : State) :
    (wakeUp s).inReset = s.inReset ∧ (wakeUp s).node = s.node ∧ (wakeUp s).settings = s.settings ∧
    (wakeUp s).now = s.now ∧ (wakeUp s).pending = s.pending ∧ (wakeUp s).free = s.free ∧
    (wakeUp s).flash = s.flash ∧ (wakeUp s).cdr = s.cdr ∧ (wakeUp s).tru = s.tru ∧
    (wakeUp s).sht = s.sht ∧ (wakeUp s).lkc = s.lkc ∧ (wakeUp s).orq = s.orq ∧ (wakeUp s).wrs = s.wrs ∧
    (wakeUp s).wsq.phase = s.wsq.phase ∧ (wakeUp s).wsq.isolated = s.wsq.isolated ∧
    (wakeUp s).pcu.clamp = s.pcu.clamp ∧ (wakeUp s).stl.stop = s.stl.stop := by
  unfold wakeUp; split <;> simp

@[simp] theorem holdOrder_frame (d : Delivered) (s : State) :
    (holdOrder d s).inReset = s.inReset ∧ (holdOrder d s).node = s.node ∧ (holdOrder d s).settings = s.settings ∧
    (holdOrder d s).now = s.now ∧ (holdOrder d s).pending = s.pending ∧ (holdOrder d s).free = s.free ∧
    (holdOrder d s).flash = s.flash ∧ (holdOrder d s).cdr = s.cdr ∧ (holdOrder d s).tru = s.tru ∧
    (holdOrder d s).sht = s.sht ∧ (holdOrder d s).lkc = s.lkc ∧ (holdOrder d s).wrs = s.wrs ∧
    (holdOrder d s).wsq.phase = s.wsq.phase ∧ (holdOrder d s).wsq.isolated = s.wsq.isolated ∧
    (holdOrder d s).pcu.clamp = s.pcu.clamp ∧ (holdOrder d s).stl.stop = s.stl.stop ∧
    (holdOrder d s).orq.queue = s.orq.queue ∧ (holdOrder d s).orq.arrivals = s.orq.arrivals := by
  refine ⟨?_, ?_, ?_, ?_, ?_, ?_, ?_, ?_, ?_, ?_, ?_, ?_, ?_, ?_, ?_, ?_, ?_, ?_⟩ <;>
    first | rfl | (unfold holdOrder; (repeat' split) <;> simp; done)

@[simp] theorem takeOrder_frame (d : Delivered) (s : State) :
    (takeOrder d s).inReset = s.inReset ∧ (takeOrder d s).node = s.node ∧ (takeOrder d s).settings = s.settings ∧
    (takeOrder d s).now = s.now ∧ (takeOrder d s).pending = s.pending ∧
    (takeOrder d s).wsq.isolated = s.wsq.isolated ∧ (takeOrder d s).sht.clock = s.sht.clock ∧
    (takeOrder d s).sht.ownDigest = s.sht.ownDigest ∧ (takeOrder d s).orq.arrivals = s.orq.arrivals ∧
    (takeOrder d s).wrs.counter = s.wrs.counter := by
  refine ⟨?_, ?_, ?_, ?_, ?_, ?_, ?_, ?_, ?_, ?_⟩ <;>
    (simp only [takeOrder]; (repeat' split) <;> (try simp) <;> (repeat' split) <;> (try simp) <;> (repeat' split) <;> simp)

@[simp] theorem deliverOrder_frame (d : Delivered) (s : State) :
    (deliverOrder d s).inReset = s.inReset ∧ (deliverOrder d s).node = s.node ∧
    (deliverOrder d s).settings = s.settings ∧ (deliverOrder d s).now = s.now ∧
    (deliverOrder d s).pending = s.pending ∧ (deliverOrder d s).wsq.isolated = s.wsq.isolated ∧
    (deliverOrder d s).sht.clock = s.sht.clock ∧ (deliverOrder d s).sht.ownDigest = s.sht.ownDigest ∧
    (deliverOrder d s).wrs.counter = s.wrs.counter := by
  refine ⟨?_, ?_, ?_, ?_, ?_, ?_, ?_, ?_, ?_⟩ <;>
    (simp only [deliverOrder]; (repeat' split) <;> (try simp) <;> (repeat' split) <;> (try simp) <;> (repeat' split) <;> simp)

@[simp] theorem takeEach_frame (l : List Delivered) (s : State) :
    (l.foldl (fun t d => deliverOrder d t) s).inReset = s.inReset ∧
    (l.foldl (fun t d => deliverOrder d t) s).node = s.node ∧
    (l.foldl (fun t d => deliverOrder d t) s).settings = s.settings ∧
    (l.foldl (fun t d => deliverOrder d t) s).now = s.now ∧
    (l.foldl (fun t d => deliverOrder d t) s).pending = s.pending ∧
    (l.foldl (fun t d => deliverOrder d t) s).wsq.isolated = s.wsq.isolated ∧
    (l.foldl (fun t d => deliverOrder d t) s).sht.clock = s.sht.clock ∧
    (l.foldl (fun t d => deliverOrder d t) s).sht.ownDigest = s.sht.ownDigest ∧
    (l.foldl (fun t d => deliverOrder d t) s).wrs.counter = s.wrs.counter := by
  refine ⟨?_, ?_, ?_, ?_, ?_, ?_, ?_, ?_, ?_⟩ <;>
    (induction l generalizing s with | nil => rfl | cons d l ih => rw [List.foldl_cons, ih]; simp)

@[simp] theorem takeHeldOrders_frame (s : State) :
    (takeHeldOrders s).inReset = s.inReset ∧ (takeHeldOrders s).node = s.node ∧
    (takeHeldOrders s).settings = s.settings ∧ (takeHeldOrders s).now = s.now ∧
    (takeHeldOrders s).pending = s.pending ∧ (takeHeldOrders s).wsq.isolated = s.wsq.isolated ∧
    (takeHeldOrders s).sht.clock = s.sht.clock ∧ (takeHeldOrders s).sht.ownDigest = s.sht.ownDigest ∧
    (takeHeldOrders s).wrs.counter = s.wrs.counter := by
  refine ⟨?_, ?_, ?_, ?_, ?_, ?_, ?_, ?_, ?_⟩ <;>
    (unfold takeHeldOrders; split <;> simp)

@[simp] theorem handleArrivals_frame (l : List Delivered) (s : State) :
    (handleArrivals l s).inReset = s.inReset ∧ (handleArrivals l s).node = s.node ∧
    (handleArrivals l s).settings = s.settings ∧ (handleArrivals l s).now = s.now ∧
    (handleArrivals l s).pending = s.pending ∧ (handleArrivals l s).wsq.isolated = s.wsq.isolated ∧
    (handleArrivals l s).sht.clock = s.sht.clock ∧ (handleArrivals l s).sht.ownDigest = s.sht.ownDigest ∧
    (handleArrivals l s).wrs.counter = s.wrs.counter := by
  refine ⟨?_, ?_, ?_, ?_, ?_, ?_, ?_, ?_, ?_⟩ <;>
    (induction l generalizing s with | nil => rfl | cons d l ih => (unfold handleArrivals; split <;> simp [ih]))

@[simp] theorem receiveOrder_frame (src : Nat) (b : OrderBody) (s : State) :
    (receiveOrder src b s).inReset = s.inReset ∧ (receiveOrder src b s).node = s.node ∧
    (receiveOrder src b s).settings = s.settings ∧ (receiveOrder src b s).now = s.now ∧
    (receiveOrder src b s).pending = s.pending ∧ (receiveOrder src b s).wsq.isolated = s.wsq.isolated ∧
    (receiveOrder src b s).sht.clock = s.sht.clock ∧ (receiveOrder src b s).sht.ownDigest = s.sht.ownDigest ∧
    (receiveOrder src b s).wrs.counter = s.wrs.counter := by
  refine ⟨?_, ?_, ?_, ?_, ?_, ?_, ?_, ?_, ?_⟩ <;>
    (simp only [receiveOrder]; (repeat' split) <;> (try simp) <;> (repeat' split) <;> (try simp) <;> (repeat' split) <;> simp)

end Sys2Proof.Machine
end

