-- ==== Sys2Proof/Laws/ReceiveFrame.lean ====
section
/-! SUPPORT. What each operation of Machine/Receive.lean leaves as it was. -/

namespace Sys2Proof.Machine

@[simp] theorem countDiscard_frame (fate : RxFate) (s : State) :
    (countDiscard fate s).inReset = s.inReset ∧ (countDiscard fate s).node = s.node ∧
    (countDiscard fate s).settings = s.settings ∧ (countDiscard fate s).now = s.now ∧
    (countDiscard fate s).pending = s.pending ∧ (countDiscard fate s).free = s.free ∧
    (countDiscard fate s).wsq = s.wsq ∧ (countDiscard fate s).flash = s.flash ∧ (countDiscard fate s).cdr = s.cdr ∧
    (countDiscard fate s).pcu = s.pcu ∧ (countDiscard fate s).tru = s.tru ∧ (countDiscard fate s).stl = s.stl ∧
    (countDiscard fate s).sht = s.sht ∧ (countDiscard fate s).orq = s.orq ∧ (countDiscard fate s).wrs = s.wrs := by
  refine ⟨?_, ?_, ?_, ?_, ?_, ?_, ?_, ?_, ?_, ?_, ?_, ?_, ?_, ?_, ?_⟩ <;>
    first | rfl | (unfold countDiscard; (repeat' split) <;> simp; done)

@[simp] theorem setIsolated_frame (s : State) :
    (setIsolated s).inReset = s.inReset ∧ (setIsolated s).node = s.node ∧ (setIsolated s).settings = s.settings ∧
    (setIsolated s).now = s.now ∧ (setIsolated s).pending = s.pending ∧ (setIsolated s).free = s.free ∧
    (setIsolated s).flash = s.flash ∧ (setIsolated s).cdr = s.cdr ∧ (setIsolated s).pcu = s.pcu ∧
    (setIsolated s).tru = s.tru ∧ (setIsolated s).stl = s.stl ∧ (setIsolated s).sht = s.sht ∧
    (setIsolated s).lkc = s.lkc ∧ (setIsolated s).orq = s.orq ∧ (setIsolated s).wrs = s.wrs ∧
    (setIsolated s).wsq.station = s.wsq.station ∧ (setIsolated s).wsq.phase = s.wsq.phase := by
  refine ⟨?_, ?_, ?_, ?_, ?_, ?_, ?_, ?_, ?_, ?_, ?_, ?_, ?_, ?_, ?_, ?_, ?_⟩ <;>
    first | rfl | (unfold setIsolated; (repeat' split) <;> simp; done)

@[simp] theorem seenClaim_frame (src number : Nat) (s : State) :
    (seenClaim src number s).inReset = s.inReset ∧ (seenClaim src number s).node = s.node ∧
    (seenClaim src number s).settings = s.settings ∧ (seenClaim src number s).now = s.now ∧
    (seenClaim src number s).pending = s.pending ∧ (seenClaim src number s).free = s.free ∧
    (seenClaim src number s).wsq = s.wsq ∧ (seenClaim src number s).flash = s.flash ∧
    (seenClaim src number s).cdr = s.cdr ∧ (seenClaim src number s).pcu = s.pcu ∧
    (seenClaim src number s).tru = s.tru ∧ (seenClaim src number s).stl = s.stl ∧
    (seenClaim src number s).lkc = s.lkc ∧ (seenClaim src number s).orq = s.orq ∧
    (seenClaim src number s).wrs = s.wrs ∧ (seenClaim src number s).sht.clock = s.sht.clock ∧
    (seenClaim src number s).sht.claims = s.sht.claims ∧ (seenClaim src number s).sht.ownDigest = s.sht.ownDigest := by
  refine ⟨?_, ?_, ?_, ?_, ?_, ?_, ?_, ?_, ?_, ?_, ?_, ?_, ?_, ?_, ?_, ?_, ?_, ?_⟩ <;>
    first | rfl | (unfold seenClaim; (repeat' split) <;> simp; done)

@[simp] theorem shareClaim_frame (src number demand : Nat) (s : State) :
    (shareClaim src number demand s).inReset = s.inReset ∧ (shareClaim src number demand s).node = s.node ∧
    (shareClaim src number demand s).settings = s.settings ∧ (shareClaim src number demand s).now = s.now ∧
    (shareClaim src number demand s).pending = s.pending ∧ (shareClaim src number demand s).pcu.clamp = s.pcu.clamp ∧
    (shareClaim src number demand s).stl.stop = s.stl.stop ∧
    (shareClaim src number demand s).sht.ownDigest = s.sht.ownDigest ∧
    (shareClaim src number demand s).orq.heldList = s.orq.heldList ∧
    (shareClaim src number demand s).orq.arrivals = s.orq.arrivals := by
  refine ⟨?_, ?_, ?_, ?_, ?_, ?_, ?_, ?_, ?_, ?_⟩ <;>
    (simp only [shareClaim]; (repeat' split) <;> (try simp) <;> (repeat' split) <;> (try simp) <;> (repeat' split) <;> simp)

@[simp] theorem shareYield_frame (src number : Nat) (s : State) :
    (shareYield src number s).inReset = s.inReset ∧ (shareYield src number s).node = s.node ∧
    (shareYield src number s).settings = s.settings ∧ (shareYield src number s).now = s.now ∧
    (shareYield src number s).pending = s.pending ∧ (shareYield src number s).pcu.clamp = s.pcu.clamp ∧
    (shareYield src number s).stl.stop = s.stl.stop ∧ (shareYield src number s).sht.ownDigest = s.sht.ownDigest ∧
    (shareYield src number s).orq.heldList = s.orq.heldList ∧
    (shareYield src number s).orq.arrivals = s.orq.arrivals := by
  refine ⟨?_, ?_, ?_, ?_, ?_, ?_, ?_, ?_, ?_, ?_⟩ <;>
    (simp only [shareYield]; (repeat' split) <;> (try simp) <;> (repeat' split) <;> (try simp) <;> (repeat' split) <;> simp)

@[simp] theorem shareBeacon_frame (src : Nat) (b : BeaconBody) (s : State) :
    (shareBeacon src b s).inReset = s.inReset ∧ (shareBeacon src b s).node = s.node ∧
    (shareBeacon src b s).settings = s.settings ∧ (shareBeacon src b s).now = s.now ∧
    (shareBeacon src b s).pending = s.pending ∧ (shareBeacon src b s).pcu.clamp = s.pcu.clamp ∧
    (shareBeacon src b s).stl.stop = s.stl.stop ∧ (shareBeacon src b s).sht.ownDigest = s.sht.ownDigest ∧
    (shareBeacon src b s).orq.heldList = s.orq.heldList ∧ (shareBeacon src b s).orq.arrivals = s.orq.arrivals := by
  refine ⟨?_, ?_, ?_, ?_, ?_, ?_, ?_, ?_, ?_, ?_⟩ <;>
    (simp only [shareBeacon]; (repeat' split) <;> (try simp) <;> (repeat' split) <;> (try simp) <;> (repeat' split) <;> simp)

end Sys2Proof.Machine
end

