-- ==== Sys2Proof/Laws/StartupFrame.lean ====
section
/-! SUPPORT. What each operation of Machine/Startup.lean leaves as it was. -/

namespace Sys2Proof.Machine

@[simp] theorem powerOnState_frame (s : State) :
    (powerOnState s).pending = s.pending ∧ (powerOnState s).free = s.free ∧
    (powerOnState s).wrs.counter = s.wrs.counter ∧ (powerOnState s).wrs.slots = s.wrs.slots := by
  refine ⟨?_, ?_, ?_, ?_⟩ <;>
    first | rfl | (unfold powerOnState; (repeat' split) <;> simp; done)

@[simp] theorem hardResetState_frame (s : State) :
    (hardResetState s).pending = s.pending ∧ (hardResetState s).free = s.free ∧
    (hardResetState s).wrs.counter = s.wrs.counter ∧ (hardResetState s).wrs.slots = s.wrs.slots ∧
    (hardResetState s).now = s.now ∧ (hardResetState s).sht.clock = s.sht.clock := by
  refine ⟨?_, ?_, ?_, ?_, ?_, ?_⟩ <;>
    first | rfl | (unfold hardResetState; (repeat' split) <;> simp; done)

@[simp] theorem firstSample_frame (f : FieldSample) (s : State) :
    (firstSample f s).inReset = s.inReset ∧ (firstSample f s).node = s.node ∧
    (firstSample f s).settings = s.settings ∧ (firstSample f s).now = s.now ∧ (firstSample f s).pending = s.pending ∧
    (firstSample f s).free = s.free ∧ (firstSample f s).wsq = s.wsq ∧ (firstSample f s).flash = s.flash ∧
    (firstSample f s).cdr = s.cdr ∧ (firstSample f s).tru = s.tru ∧ (firstSample f s).stl = s.stl ∧
    (firstSample f s).sht = s.sht ∧ (firstSample f s).lkc = s.lkc ∧ (firstSample f s).orq = s.orq ∧
    (firstSample f s).wrs = s.wrs ∧ (firstSample f s).pcu.clamp = s.pcu.clamp := by
  refine ⟨?_, ?_, ?_, ?_, ?_, ?_, ?_, ?_, ?_, ?_, ?_, ?_, ?_, ?_, ?_, ?_⟩ <;>
    first | rfl | (unfold firstSample; (repeat' split) <;> simp; done)

@[simp] theorem releaseReset_frame (straps : Nat) (first : FieldSample) (returnSwitch : Bool) (s : State) :
    (releaseReset straps first returnSwitch s).settings = s.settings ∧
    (releaseReset straps first returnSwitch s).now = s.now ∧
    (releaseReset straps first returnSwitch s).pending = s.pending ∧
    (releaseReset straps first returnSwitch s).free = s.free ∧
    (releaseReset straps first returnSwitch s).flash = s.flash ∧
    (releaseReset straps first returnSwitch s).cdr = s.cdr ∧ (releaseReset straps first returnSwitch s).sht = s.sht ∧
    (releaseReset straps first returnSwitch s).lkc = s.lkc ∧ (releaseReset straps first returnSwitch s).orq = s.orq ∧
    (releaseReset straps first returnSwitch s).wrs = s.wrs ∧
    (releaseReset straps first returnSwitch s).wsq.station = s.wsq.station ∧
    (releaseReset straps first returnSwitch s).wsq.phase = s.wsq.phase ∧
    (releaseReset straps first returnSwitch s).wsq.isolated = s.wsq.isolated ∧
    (releaseReset straps first returnSwitch s).pcu.clamp = s.pcu.clamp := by
  refine ⟨?_, ?_, ?_, ?_, ?_, ?_, ?_, ?_, ?_, ?_, ?_, ?_, ?_, ?_⟩ <;>
    first | rfl | (unfold releaseReset; (repeat' split) <;> simp; done)

@[simp] theorem acceptImage_frame (image : List Byte) (s : State) :
    (acceptImage image s).inReset = s.inReset ∧ (acceptImage image s).node = s.node ∧
    (acceptImage image s).now = s.now ∧ (acceptImage image s).pending = s.pending ∧
    (acceptImage image s).free = s.free ∧ (acceptImage image s).flash = s.flash ∧ (acceptImage image s).cdr = s.cdr ∧
    (acceptImage image s).tru = s.tru ∧ (acceptImage image s).stl = s.stl ∧
    (acceptImage image s).sht.clock = s.sht.clock ∧ (acceptImage image s).sht.claims = s.sht.claims ∧
    (acceptImage image s).wrs.counter = s.wrs.counter ∧ (acceptImage image s).wrs.slots = s.wrs.slots := by
  refine ⟨?_, ?_, ?_, ?_, ?_, ?_, ?_, ?_, ?_, ?_, ?_, ?_, ?_⟩ <;>
    first | rfl | (unfold acceptImage; (repeat' split) <;> simp; done)

@[simp] theorem unconfigured_frame (s : State) :
    (unconfigured s).inReset = s.inReset ∧ (unconfigured s).node = s.node ∧ (unconfigured s).settings = s.settings ∧
    (unconfigured s).now = s.now ∧ (unconfigured s).pending = s.pending ∧ (unconfigured s).free = s.free ∧
    (unconfigured s).flash = s.flash ∧ (unconfigured s).cdr = s.cdr ∧ (unconfigured s).pcu = s.pcu ∧
    (unconfigured s).tru = s.tru ∧ (unconfigured s).stl = s.stl ∧ (unconfigured s).sht = s.sht ∧
    (unconfigured s).orq = s.orq ∧ (unconfigured s).wrs = s.wrs ∧ (unconfigured s).wsq.phase = s.wsq.phase ∧
    (unconfigured s).wsq.isolated = s.wsq.isolated := by
  refine ⟨?_, ?_, ?_, ?_, ?_, ?_, ?_, ?_, ?_, ?_, ?_, ?_, ?_, ?_, ?_, ?_⟩ <;>
    first | rfl | (unfold unconfigured; (repeat' split) <;> simp; done)

@[simp] theorem rejectImage_frame (image : List Byte) (s : State) :
    (rejectImage image s).inReset = s.inReset ∧ (rejectImage image s).node = s.node ∧
    (rejectImage image s).settings = s.settings ∧ (rejectImage image s).now = s.now ∧
    (rejectImage image s).pending = s.pending ∧ (rejectImage image s).free = s.free ∧
    (rejectImage image s).flash = s.flash ∧ (rejectImage image s).cdr = s.cdr ∧ (rejectImage image s).pcu = s.pcu ∧
    (rejectImage image s).tru = s.tru ∧ (rejectImage image s).stl = s.stl ∧ (rejectImage image s).orq = s.orq ∧
    (rejectImage image s).wrs = s.wrs ∧ (rejectImage image s).wsq.phase = s.wsq.phase ∧
    (rejectImage image s).wsq.isolated = s.wsq.isolated ∧ (rejectImage image s).sht.clock = s.sht.clock ∧
    (rejectImage image s).sht.claims = s.sht.claims := by
  refine ⟨?_, ?_, ?_, ?_, ?_, ?_, ?_, ?_, ?_, ?_, ?_, ?_, ?_, ?_, ?_, ?_, ?_⟩ <;>
    first | rfl | (unfold rejectImage; (repeat' split) <;> simp; done)

@[simp] theorem settingsRead_frame (image : Option (List Byte)) (s : State) :
    (settingsRead image s).inReset = s.inReset ∧ (settingsRead image s).node = s.node ∧
    (settingsRead image s).now = s.now ∧ (settingsRead image s).pending = s.pending ∧
    (settingsRead image s).free = s.free ∧ (settingsRead image s).flash = s.flash ∧
    (settingsRead image s).cdr = s.cdr ∧ (settingsRead image s).tru = s.tru ∧ (settingsRead image s).stl = s.stl ∧
    (settingsRead image s).sht.clock = s.sht.clock ∧ (settingsRead image s).sht.claims = s.sht.claims ∧
    (settingsRead image s).wrs.counter = s.wrs.counter ∧ (settingsRead image s).wrs.slots = s.wrs.slots := by
  refine ⟨?_, ?_, ?_, ?_, ?_, ?_, ?_, ?_, ?_, ?_, ?_, ?_, ?_⟩ <;>
    first | rfl | (unfold settingsRead; (repeat' split) <;> simp; done)

@[simp] theorem foundClosed_frame (s : State) :
    (foundClosed s).inReset = s.inReset ∧ (foundClosed s).node = s.node ∧ (foundClosed s).settings = s.settings ∧
    (foundClosed s).now = s.now ∧ (foundClosed s).pending = s.pending ∧ (foundClosed s).free = s.free ∧
    (foundClosed s).flash = s.flash ∧ (foundClosed s).cdr = s.cdr ∧ (foundClosed s).tru = s.tru ∧
    (foundClosed s).stl = s.stl ∧ (foundClosed s).sht = s.sht ∧ (foundClosed s).lkc = s.lkc ∧
    (foundClosed s).orq = s.orq ∧ (foundClosed s).wrs = s.wrs ∧ (foundClosed s).wsq.station = s.wsq.station ∧
    (foundClosed s).wsq.phase = s.wsq.phase ∧ (foundClosed s).wsq.isolated = s.wsq.isolated ∧
    (foundClosed s).pcu.clamp = s.pcu.clamp := by
  refine ⟨?_, ?_, ?_, ?_, ?_, ?_, ?_, ?_, ?_, ?_, ?_, ?_, ?_, ?_, ?_, ?_, ?_, ?_⟩ <;>
    first | rfl | (unfold foundClosed; (repeat' split) <;> simp; done)

@[simp] theorem joinClosed_frame (s : State) :
    (joinClosed s).inReset = s.inReset ∧ (joinClosed s).node = s.node ∧ (joinClosed s).settings = s.settings ∧
    (joinClosed s).now = s.now ∧ (joinClosed s).pending = s.pending ∧ (joinClosed s).wsq.isolated = s.wsq.isolated ∧
    (joinClosed s).pcu.clamp = s.pcu.clamp ∧ (joinClosed s).stl.stop = s.stl.stop ∧
    (joinClosed s).sht.clock = s.sht.clock ∧ (joinClosed s).sht.ownDigest = s.sht.ownDigest ∧
    (joinClosed s).orq.queue = s.orq.queue ∧ (joinClosed s).orq.heldList = s.orq.heldList ∧
    (joinClosed s).orq.arrivals = s.orq.arrivals ∧ (joinClosed s).wrs.counter = s.wrs.counter ∧
    (joinClosed s).wrs.slots = s.wrs.slots := by
  refine ⟨?_, ?_, ?_, ?_, ?_, ?_, ?_, ?_, ?_, ?_, ?_, ?_, ?_, ?_, ?_⟩ <;>
    (simp only [joinClosed]; (repeat' split) <;> (try simp) <;> (repeat' split) <;> (try simp) <;> (repeat' split) <;> simp)

@[simp] theorem joinOpen_frame (s : State) :
    (joinOpen s).inReset = s.inReset ∧ (joinOpen s).node = s.node ∧ (joinOpen s).settings = s.settings ∧
    (joinOpen s).now = s.now ∧ (joinOpen s).pending = s.pending ∧ (joinOpen s).free = s.free ∧
    (joinOpen s).flash = s.flash ∧ (joinOpen s).cdr = s.cdr ∧ (joinOpen s).tru = s.tru ∧ (joinOpen s).stl = s.stl ∧
    (joinOpen s).sht = s.sht ∧ (joinOpen s).lkc = s.lkc ∧ (joinOpen s).orq = s.orq ∧ (joinOpen s).wrs = s.wrs ∧
    (joinOpen s).wsq.phase = s.wsq.phase ∧ (joinOpen s).wsq.isolated = s.wsq.isolated ∧
    (joinOpen s).pcu.clamp = s.pcu.clamp := by
  refine ⟨?_, ?_, ?_, ?_, ?_, ?_, ?_, ?_, ?_, ?_, ?_, ?_, ?_, ?_, ?_, ?_, ?_⟩ <;>
    first | rfl | (unfold joinOpen; (repeat' split) <;> simp; done)

@[simp] theorem listeningEnds_frame (s : State) :
    (listeningEnds s).inReset = s.inReset ∧ (listeningEnds s).node = s.node ∧
    (listeningEnds s).settings = s.settings ∧ (listeningEnds s).now = s.now ∧ (listeningEnds s).pending = s.pending ∧
    (listeningEnds s).wsq.isolated = s.wsq.isolated ∧ (listeningEnds s).pcu.clamp = s.pcu.clamp ∧
    (listeningEnds s).stl.stop = s.stl.stop ∧ (listeningEnds s).sht.clock = s.sht.clock ∧
    (listeningEnds s).sht.ownDigest = s.sht.ownDigest ∧ (listeningEnds s).orq.queue = s.orq.queue ∧
    (listeningEnds s).orq.heldList = s.orq.heldList ∧ (listeningEnds s).orq.arrivals = s.orq.arrivals ∧
    (listeningEnds s).wrs.counter = s.wrs.counter ∧ (listeningEnds s).wrs.slots = s.wrs.slots := by
  refine ⟨?_, ?_, ?_, ?_, ?_, ?_, ?_, ?_, ?_, ?_, ?_, ?_, ?_, ?_, ?_⟩ <;>
    (simp only [listeningEnds]; (repeat' split) <;> (try simp) <;> (repeat' split) <;> (try simp) <;> (repeat' split) <;> simp)

@[simp] theorem recoveryEnds_frame (s : State) :
    (recoveryEnds s).inReset = s.inReset ∧ (recoveryEnds s).node = s.node ∧ (recoveryEnds s).settings = s.settings ∧
    (recoveryEnds s).now = s.now ∧ (recoveryEnds s).pending = s.pending ∧ (recoveryEnds s).free = s.free ∧
    (recoveryEnds s).flash = s.flash ∧ (recoveryEnds s).cdr = s.cdr ∧ (recoveryEnds s).tru = s.tru ∧
    (recoveryEnds s).stl = s.stl ∧ (recoveryEnds s).sht = s.sht ∧ (recoveryEnds s).lkc = s.lkc ∧
    (recoveryEnds s).orq = s.orq ∧ (recoveryEnds s).wrs = s.wrs ∧ (recoveryEnds s).wsq.phase = s.wsq.phase ∧
    (recoveryEnds s).wsq.isolated = s.wsq.isolated ∧ (recoveryEnds s).pcu.clamp = s.pcu.clamp := by
  refine ⟨?_, ?_, ?_, ?_, ?_, ?_, ?_, ?_, ?_, ?_, ?_, ?_, ?_, ?_, ?_, ?_, ?_⟩ <;>
    first | rfl | (unfold recoveryEnds; (repeat' split) <;> simp; done)

@[simp] theorem idleExpires_frame (s : State) :
    (idleExpires s).inReset = s.inReset ∧ (idleExpires s).node = s.node ∧ (idleExpires s).settings = s.settings ∧
    (idleExpires s).now = s.now ∧ (idleExpires s).pending = s.pending ∧ (idleExpires s).flash = s.flash ∧
    (idleExpires s).sht = s.sht ∧ (idleExpires s).lkc = s.lkc ∧ (idleExpires s).orq = s.orq ∧
    (idleExpires s).wrs = s.wrs ∧ (idleExpires s).wsq.phase = s.wsq.phase ∧
    (idleExpires s).wsq.isolated = s.wsq.isolated ∧ (idleExpires s).pcu.clamp = s.pcu.clamp ∧
    (idleExpires s).stl.stop = s.stl.stop := by
  refine ⟨?_, ?_, ?_, ?_, ?_, ?_, ?_, ?_, ?_, ?_, ?_, ?_, ?_, ?_⟩ <;>
    (simp only [idleExpires]; (repeat' split) <;> (try simp) <;> (repeat' split) <;> (try simp) <;> (repeat' split) <;> simp)

@[simp] theorem wakeEnds_frame (returnSwitch : Bool) (s : State) :
    (wakeEnds returnSwitch s).inReset = s.inReset ∧ (wakeEnds returnSwitch s).node = s.node ∧
    (wakeEnds returnSwitch s).settings = s.settings ∧ (wakeEnds returnSwitch s).now = s.now ∧
    (wakeEnds returnSwitch s).pending = s.pending ∧ (wakeEnds returnSwitch s).wsq.isolated = s.wsq.isolated ∧
    (wakeEnds returnSwitch s).sht.clock = s.sht.clock ∧ (wakeEnds returnSwitch s).sht.ownDigest = s.sht.ownDigest ∧
    (wakeEnds returnSwitch s).wrs.counter = s.wrs.counter := by
  refine ⟨?_, ?_, ?_, ?_, ?_, ?_, ?_, ?_, ?_⟩ <;>
    (simp only [wakeEnds]; (repeat' split) <;> (try simp) <;> (repeat' split) <;> (try simp) <;> (repeat' split) <;> simp)

@[simp] theorem startClamp_frame (sched : Nat) (s : State) :
    (startClamp sched s).inReset = s.inReset ∧ (startClamp sched s).node = s.node ∧
    (startClamp sched s).settings = s.settings ∧ (startClamp sched s).now = s.now ∧
    (startClamp sched s).pending = s.pending ∧ (startClamp sched s).free = s.free ∧
    (startClamp sched s).flash = s.flash ∧ (startClamp sched s).cdr = s.cdr ∧ (startClamp sched s).tru = s.tru ∧
    (startClamp sched s).stl = s.stl ∧ (startClamp sched s).sht = s.sht ∧ (startClamp sched s).lkc = s.lkc ∧
    (startClamp sched s).orq = s.orq ∧ (startClamp sched s).wrs = s.wrs ∧
    (startClamp sched s).wsq.phase = s.wsq.phase ∧ (startClamp sched s).wsq.isolated = s.wsq.isolated := by
  refine ⟨?_, ?_, ?_, ?_, ?_, ?_, ?_, ?_, ?_, ?_, ?_, ?_, ?_, ?_, ?_, ?_⟩ <;>
    first | rfl | (unfold startClamp; (repeat' split) <;> simp; done)

@[simp] theorem startUnclamp_frame (s : State) :
    (startUnclamp s).inReset = s.inReset ∧ (startUnclamp s).node = s.node ∧ (startUnclamp s).settings = s.settings ∧
    (startUnclamp s).now = s.now ∧ (startUnclamp s).pending = s.pending ∧ (startUnclamp s).tru = s.tru ∧
    (startUnclamp s).wsq.isolated = s.wsq.isolated ∧ (startUnclamp s).stl.stop = s.stl.stop ∧
    (startUnclamp s).sht.clock = s.sht.clock ∧ (startUnclamp s).sht.ownDigest = s.sht.ownDigest ∧
    (startUnclamp s).orq.queue = s.orq.queue ∧ (startUnclamp s).orq.heldList = s.orq.heldList ∧
    (startUnclamp s).orq.arrivals = s.orq.arrivals ∧ (startUnclamp s).wrs.counter = s.wrs.counter ∧
    (startUnclamp s).wrs.slots = s.wrs.slots := by
  refine ⟨?_, ?_, ?_, ?_, ?_, ?_, ?_, ?_, ?_, ?_, ?_, ?_, ?_, ?_, ?_⟩ <;>
    (simp only [startUnclamp]; (repeat' split) <;> (try simp) <;> (repeat' split) <;> (try simp) <;> (repeat' split) <;> simp)

@[simp] theorem beginOrder_frame (s : State) :
    (beginOrder s).inReset = s.inReset ∧ (beginOrder s).node = s.node ∧ (beginOrder s).settings = s.settings ∧
    (beginOrder s).now = s.now ∧ (beginOrder s).pending = s.pending ∧ (beginOrder s).free = s.free ∧
    (beginOrder s).flash = s.flash ∧ (beginOrder s).cdr = s.cdr ∧ (beginOrder s).pcu = s.pcu ∧
    (beginOrder s).tru = s.tru ∧ (beginOrder s).stl = s.stl ∧ (beginOrder s).sht = s.sht ∧
    (beginOrder s).lkc = s.lkc ∧ (beginOrder s).wrs = s.wrs ∧ (beginOrder s).wsq.station = s.wsq.station ∧
    (beginOrder s).wsq.phase = s.wsq.phase ∧ (beginOrder s).wsq.isolated = s.wsq.isolated ∧
    (beginOrder s).orq.heldList = s.orq.heldList ∧ (beginOrder s).orq.arrivals = s.orq.arrivals := by
  refine ⟨?_, ?_, ?_, ?_, ?_, ?_, ?_, ?_, ?_, ?_, ?_, ?_, ?_, ?_, ?_, ?_, ?_, ?_, ?_⟩ <;>
    first | rfl | (unfold beginOrder; (repeat' split) <;> simp; done)

@[simp] theorem startOrder_frame (o : QueuedOrder) (railTemp : Option Int) (s : State) :
    (startOrder o railTemp s).inReset = s.inReset ∧ (startOrder o railTemp s).node = s.node ∧
    (startOrder o railTemp s).settings = s.settings ∧ (startOrder o railTemp s).now = s.now ∧
    (startOrder o railTemp s).pending = s.pending ∧ (startOrder o railTemp s).wsq.isolated = s.wsq.isolated ∧
    (startOrder o railTemp s).stl.stop = s.stl.stop ∧ (startOrder o railTemp s).sht.clock = s.sht.clock ∧
    (startOrder o railTemp s).sht.ownDigest = s.sht.ownDigest ∧
    (startOrder o railTemp s).orq.heldList = s.orq.heldList ∧
    (startOrder o railTemp s).orq.arrivals = s.orq.arrivals ∧ (startOrder o railTemp s).wrs.counter = s.wrs.counter ∧
    (startOrder o railTemp s).wrs.slots = s.wrs.slots := by
  refine ⟨?_, ?_, ?_, ?_, ?_, ?_, ?_, ?_, ?_, ?_, ?_, ?_, ?_⟩ <;>
    (simp only [startOrder]; (repeat' split) <;> (try simp) <;> (repeat' split) <;> (try simp) <;> (repeat' split) <;> simp)

@[simp] theorem takeHead_frame (railTemp : Option Int) (s : State) :
    (takeHead railTemp s).inReset = s.inReset ∧ (takeHead railTemp s).node = s.node ∧
    (takeHead railTemp s).settings = s.settings ∧ (takeHead railTemp s).now = s.now ∧
    (takeHead railTemp s).pending = s.pending ∧ (takeHead railTemp s).wsq.isolated = s.wsq.isolated ∧
    (takeHead railTemp s).stl.stop = s.stl.stop ∧ (takeHead railTemp s).sht.clock = s.sht.clock ∧
    (takeHead railTemp s).sht.ownDigest = s.sht.ownDigest ∧ (takeHead railTemp s).orq.heldList = s.orq.heldList ∧
    (takeHead railTemp s).orq.arrivals = s.orq.arrivals ∧ (takeHead railTemp s).wrs.counter = s.wrs.counter ∧
    (takeHead railTemp s).wrs.slots = s.wrs.slots := by
  refine ⟨?_, ?_, ?_, ?_, ?_, ?_, ?_, ?_, ?_, ?_, ?_, ?_, ?_⟩ <;>
    (simp only [takeHead]; (repeat' split) <;> (try simp) <;> (repeat' split) <;> (try simp) <;> (repeat' split) <;> simp)

end Sys2Proof.Machine
end

