-- ==== Sys2Proof/Laws/OrderEventsFrame.lean ====
section
/-! SUPPORT. What each operation of Machine/OrderEvents.lean leaves as it was. -/

namespace Sys2Proof.Machine

@[simp] theorem workArrivals_frame (s : State) :
    (workArrivals s).inReset = s.inReset ∧ (workArrivals s).node = s.node ∧ (workArrivals s).settings = s.settings ∧
    (workArrivals s).now = s.now ∧ (workArrivals s).pending = s.pending ∧
    (workArrivals s).wsq.isolated = s.wsq.isolated ∧ (workArrivals s).sht.clock = s.sht.clock ∧
    (workArrivals s).sht.ownDigest = s.sht.ownDigest ∧ (workArrivals s).wrs.counter = s.wrs.counter := by
  refine ⟨?_, ?_, ?_, ?_, ?_, ?_, ?_, ?_, ?_⟩ <;>
    (simp only [workArrivals]; (repeat' split) <;> (try simp) <;> (repeat' split) <;> (try simp) <;> (repeat' split) <;> simp)

@[simp] theorem queueWaiter_frame (s : State) :
    (queueWaiter s).inReset = s.inReset ∧ (queueWaiter s).node = s.node ∧ (queueWaiter s).settings = s.settings ∧
    (queueWaiter s).now = s.now ∧ (queueWaiter s).pending = s.pending ∧ (queueWaiter s).free = s.free ∧
    (queueWaiter s).wsq = s.wsq ∧ (queueWaiter s).flash = s.flash ∧ (queueWaiter s).cdr = s.cdr ∧
    (queueWaiter s).pcu = s.pcu ∧ (queueWaiter s).tru = s.tru ∧ (queueWaiter s).stl = s.stl ∧
    (queueWaiter s).sht = s.sht ∧ (queueWaiter s).orq.heldList = s.orq.heldList ∧
    (queueWaiter s).orq.arrivals = s.orq.arrivals ∧ (queueWaiter s).wrs.counter = s.wrs.counter ∧
    (queueWaiter s).wrs.slots = s.wrs.slots := by
  refine ⟨?_, ?_, ?_, ?_, ?_, ?_, ?_, ?_, ?_, ?_, ?_, ?_, ?_, ?_, ?_, ?_, ?_⟩ <;>
    first | rfl | (unfold queueWaiter; (repeat' split) <;> simp; done)

@[simp] theorem queueRecordPart_frame (s : State) :
    (queueRecordPart s).inReset = s.inReset ∧ (queueRecordPart s).node = s.node ∧
    (queueRecordPart s).settings = s.settings ∧ (queueRecordPart s).now = s.now ∧
    (queueRecordPart s).pending = s.pending ∧ (queueRecordPart s).free = s.free ∧ (queueRecordPart s).wsq = s.wsq ∧
    (queueRecordPart s).flash = s.flash ∧ (queueRecordPart s).cdr = s.cdr ∧ (queueRecordPart s).pcu = s.pcu ∧
    (queueRecordPart s).tru = s.tru ∧ (queueRecordPart s).stl = s.stl ∧ (queueRecordPart s).sht = s.sht ∧
    (queueRecordPart s).orq.heldList = s.orq.heldList ∧ (queueRecordPart s).orq.arrivals = s.orq.arrivals ∧
    (queueRecordPart s).wrs.counter = s.wrs.counter ∧ (queueRecordPart s).wrs.slots = s.wrs.slots := by
  refine ⟨?_, ?_, ?_, ?_, ?_, ?_, ?_, ?_, ?_, ?_, ?_, ?_, ?_, ?_, ?_, ?_, ?_⟩ <;>
    first | rfl | (unfold queueRecordPart; (repeat' split) <;> simp; done)

@[simp] theorem writeEnds_frame (s : State) :
    (writeEnds s).inReset = s.inReset ∧ (writeEnds s).node = s.node ∧ (writeEnds s).settings = s.settings ∧
    (writeEnds s).now = s.now ∧ (writeEnds s).pending = s.pending ∧ (writeEnds s).free = s.free ∧
    (writeEnds s).flash = s.flash ∧ (writeEnds s).cdr = s.cdr ∧ (writeEnds s).tru = s.tru ∧
    (writeEnds s).stl = s.stl ∧ (writeEnds s).sht = s.sht ∧ (writeEnds s).wsq.isolated = s.wsq.isolated ∧
    (writeEnds s).pcu.clamp = s.pcu.clamp ∧ (writeEnds s).orq.heldList = s.orq.heldList ∧
    (writeEnds s).orq.arrivals = s.orq.arrivals ∧ (writeEnds s).wrs.counter = s.wrs.counter := by
  refine ⟨?_, ?_, ?_, ?_, ?_, ?_, ?_, ?_, ?_, ?_, ?_, ?_, ?_, ?_, ?_, ?_⟩ <;>
    first | rfl | (unfold writeEnds; (repeat' split) <;> simp; done)

end Sys2Proof.Machine
end

