-- ==== Sys2Proof/Laws/LinkEventsFrame.lean ====
section
/-! SUPPORT. What each operation of Machine/LinkEvents.lean leaves as it was. -/

namespace Sys2Proof.Machine

@[simp] theorem discardFrame_frame (frame : List Byte) (s : State) :
    (discardFrame frame s).inReset = s.inReset ∧ (discardFrame frame s).node = s.node ∧
    (discardFrame frame s).settings = s.settings ∧ (discardFrame frame s).now = s.now ∧
    (discardFrame frame s).pending = s.pending ∧ (discardFrame frame s).free = s.free ∧
    (discardFrame frame s).wsq = s.wsq ∧ (discardFrame frame s).flash = s.flash ∧ (discardFrame frame s).cdr = s.cdr ∧
    (discardFrame frame s).pcu = s.pcu ∧ (discardFrame frame s).tru = s.tru ∧ (discardFrame frame s).stl = s.stl ∧
    (discardFrame frame s).sht = s.sht ∧ (discardFrame frame s).orq = s.orq ∧ (discardFrame frame s).wrs = s.wrs := by
  refine ⟨?_, ?_, ?_, ?_, ?_, ?_, ?_, ?_, ?_, ?_, ?_, ?_, ?_, ?_, ?_⟩ <;>
    first | rfl | (unfold discardFrame; (repeat' split) <;> simp; done)

@[simp] theorem lineTaken_frame (s : State) :
    (lineTaken s).inReset = s.inReset ∧ (lineTaken s).node = s.node ∧ (lineTaken s).settings = s.settings ∧
    (lineTaken s).now = s.now ∧ (lineTaken s).pending = s.pending ∧ (lineTaken s).free = s.free ∧
    (lineTaken s).wsq = s.wsq ∧ (lineTaken s).flash = s.flash ∧ (lineTaken s).cdr = s.cdr ∧
    (lineTaken s).pcu = s.pcu ∧ (lineTaken s).tru = s.tru ∧ (lineTaken s).stl = s.stl ∧ (lineTaken s).sht = s.sht ∧
    (lineTaken s).orq = s.orq ∧ (lineTaken s).wrs = s.wrs := by
  refine ⟨?_, ?_, ?_, ?_, ?_, ?_, ?_, ?_, ?_, ?_, ?_, ?_, ?_, ?_, ?_⟩ <;>
    first | rfl | (unfold lineTaken; (repeat' split) <;> simp; done)

@[simp] theorem fillSlot_frame (s : State) :
    (fillSlot s).inReset = s.inReset ∧ (fillSlot s).node = s.node ∧ (fillSlot s).settings = s.settings ∧
    (fillSlot s).now = s.now ∧ (fillSlot s).pending = s.pending ∧ (fillSlot s).free = s.free ∧
    (fillSlot s).wsq = s.wsq ∧ (fillSlot s).flash = s.flash ∧ (fillSlot s).cdr = s.cdr ∧ (fillSlot s).pcu = s.pcu ∧
    (fillSlot s).tru = s.tru ∧ (fillSlot s).stl = s.stl ∧ (fillSlot s).sht = s.sht ∧ (fillSlot s).orq = s.orq ∧
    (fillSlot s).wrs = s.wrs := by
  refine ⟨?_, ?_, ?_, ?_, ?_, ?_, ?_, ?_, ?_, ?_, ?_, ?_, ?_, ?_, ?_⟩ <;>
    first | rfl | (unfold fillSlot; (repeat' split) <;> simp; done)

@[simp] theorem startSending_frame (s : State) :
    (startSending s).inReset = s.inReset ∧ (startSending s).node = s.node ∧ (startSending s).settings = s.settings ∧
    (startSending s).now = s.now ∧ (startSending s).pending = s.pending ∧ (startSending s).free = s.free ∧
    (startSending s).wsq = s.wsq ∧ (startSending s).flash = s.flash ∧ (startSending s).cdr = s.cdr ∧
    (startSending s).pcu = s.pcu ∧ (startSending s).tru = s.tru ∧ (startSending s).stl = s.stl ∧
    (startSending s).sht = s.sht ∧ (startSending s).orq = s.orq ∧ (startSending s).wrs = s.wrs := by
  refine ⟨?_, ?_, ?_, ?_, ?_, ?_, ?_, ?_, ?_, ?_, ?_, ?_, ?_, ?_, ?_⟩ <;>
    first | rfl | (unfold startSending; (repeat' split) <;> simp; done)

@[simp] theorem emptySlot_frame (s : State) :
    (emptySlot s).inReset = s.inReset ∧ (emptySlot s).node = s.node ∧ (emptySlot s).settings = s.settings ∧
    (emptySlot s).now = s.now ∧ (emptySlot s).pending = s.pending ∧ (emptySlot s).free = s.free ∧
    (emptySlot s).wsq = s.wsq ∧ (emptySlot s).flash = s.flash ∧ (emptySlot s).cdr = s.cdr ∧
    (emptySlot s).pcu = s.pcu ∧ (emptySlot s).tru = s.tru ∧ (emptySlot s).stl = s.stl ∧ (emptySlot s).sht = s.sht ∧
    (emptySlot s).orq = s.orq ∧ (emptySlot s).wrs = s.wrs := by
  refine ⟨?_, ?_, ?_, ?_, ?_, ?_, ?_, ?_, ?_, ?_, ?_, ?_, ?_, ?_, ?_⟩ <;>
    first | rfl | (unfold emptySlot; (repeat' split) <;> simp; done)

@[simp] theorem frameSent_frame (s : State) :
    (frameSent s).inReset = s.inReset ∧ (frameSent s).node = s.node ∧ (frameSent s).settings = s.settings ∧
    (frameSent s).now = s.now ∧ (frameSent s).pending = s.pending ∧ (frameSent s).free = s.free ∧
    (frameSent s).wsq = s.wsq ∧ (frameSent s).flash = s.flash ∧ (frameSent s).cdr = s.cdr ∧
    (frameSent s).pcu = s.pcu ∧ (frameSent s).tru = s.tru ∧ (frameSent s).stl = s.stl ∧
    (frameSent s).sht.clock = s.sht.clock ∧ (frameSent s).sht.claims = s.sht.claims ∧
    (frameSent s).sht.ownDigest = s.sht.ownDigest ∧ (frameSent s).orq.queue = s.orq.queue ∧
    (frameSent s).orq.heldList = s.orq.heldList ∧ (frameSent s).orq.arrivals = s.orq.arrivals ∧
    (frameSent s).wrs.counter = s.wrs.counter ∧ (frameSent s).wrs.slots = s.wrs.slots := by
  refine ⟨?_, ?_, ?_, ?_, ?_, ?_, ?_, ?_, ?_, ?_, ?_, ?_, ?_, ?_, ?_, ?_, ?_, ?_, ?_, ?_⟩ <;>
    first | rfl | (unfold frameSent; (repeat' split) <;> simp; done)

@[simp] theorem collided_frame (s : State) :
    (collided s).inReset = s.inReset ∧ (collided s).node = s.node ∧ (collided s).settings = s.settings ∧
    (collided s).now = s.now ∧ (collided s).pending = s.pending ∧ (collided s).free = s.free ∧
    (collided s).wsq = s.wsq ∧ (collided s).flash = s.flash ∧ (collided s).cdr = s.cdr ∧ (collided s).pcu = s.pcu ∧
    (collided s).tru = s.tru ∧ (collided s).stl = s.stl ∧ (collided s).sht = s.sht ∧ (collided s).orq = s.orq ∧
    (collided s).wrs = s.wrs := by
  refine ⟨?_, ?_, ?_, ?_, ?_, ?_, ?_, ?_, ?_, ?_, ?_, ?_, ?_, ?_, ?_⟩ <;>
    first | rfl | (unfold collided; (repeat' split) <;> simp; done)

@[simp] theorem dropJammed_frame (s : State) :
    (dropJammed s).inReset = s.inReset ∧ (dropJammed s).node = s.node ∧ (dropJammed s).settings = s.settings ∧
    (dropJammed s).now = s.now ∧ (dropJammed s).pending = s.pending ∧ (dropJammed s).free = s.free ∧
    (dropJammed s).wsq = s.wsq ∧ (dropJammed s).flash = s.flash ∧ (dropJammed s).cdr = s.cdr ∧
    (dropJammed s).pcu = s.pcu ∧ (dropJammed s).tru = s.tru ∧ (dropJammed s).stl = s.stl ∧
    (dropJammed s).sht.clock = s.sht.clock ∧ (dropJammed s).sht.claims = s.sht.claims ∧
    (dropJammed s).sht.ownDigest = s.sht.ownDigest ∧ (dropJammed s).orq.queue = s.orq.queue ∧
    (dropJammed s).orq.heldList = s.orq.heldList ∧ (dropJammed s).orq.arrivals = s.orq.arrivals ∧
    (dropJammed s).wrs.counter = s.wrs.counter ∧ (dropJammed s).wrs.slots = s.wrs.slots := by
  refine ⟨?_, ?_, ?_, ?_, ?_, ?_, ?_, ?_, ?_, ?_, ?_, ?_, ?_, ?_, ?_, ?_, ?_, ?_, ?_, ?_⟩ <;>
    first | rfl | (unfold dropJammed; (repeat' split) <;> simp; done)

@[simp] theorem sendingCollides_frame (s : State) :
    (sendingCollides s).inReset = s.inReset ∧ (sendingCollides s).node = s.node ∧
    (sendingCollides s).settings = s.settings ∧ (sendingCollides s).now = s.now ∧
    (sendingCollides s).pending = s.pending ∧ (sendingCollides s).free = s.free ∧ (sendingCollides s).wsq = s.wsq ∧
    (sendingCollides s).flash = s.flash ∧ (sendingCollides s).cdr = s.cdr ∧ (sendingCollides s).pcu = s.pcu ∧
    (sendingCollides s).tru = s.tru ∧ (sendingCollides s).stl = s.stl ∧ (sendingCollides s).sht.clock = s.sht.clock ∧
    (sendingCollides s).sht.claims = s.sht.claims ∧ (sendingCollides s).sht.ownDigest = s.sht.ownDigest ∧
    (sendingCollides s).orq.queue = s.orq.queue ∧ (sendingCollides s).orq.heldList = s.orq.heldList ∧
    (sendingCollides s).orq.arrivals = s.orq.arrivals ∧ (sendingCollides s).wrs.counter = s.wrs.counter ∧
    (sendingCollides s).wrs.slots = s.wrs.slots := by
  refine ⟨?_, ?_, ?_, ?_, ?_, ?_, ?_, ?_, ?_, ?_, ?_, ?_, ?_, ?_, ?_, ?_, ?_, ?_, ?_, ?_⟩ <;>
    first | rfl | (unfold sendingCollides; (repeat' split) <;> simp; done)

@[simp] theorem beaconDue_frame (s : State) :
    (beaconDue s).inReset = s.inReset ∧ (beaconDue s).node = s.node ∧ (beaconDue s).settings = s.settings ∧
    (beaconDue s).now = s.now ∧ (beaconDue s).pending = s.pending ∧ (beaconDue s).free = s.free ∧
    (beaconDue s).wsq = s.wsq ∧ (beaconDue s).flash = s.flash ∧ (beaconDue s).cdr = s.cdr ∧
    (beaconDue s).pcu = s.pcu ∧ (beaconDue s).tru = s.tru ∧ (beaconDue s).stl = s.stl ∧
    (beaconDue s).sht.clock = s.sht.clock ∧ (beaconDue s).sht.claims = s.sht.claims ∧
    (beaconDue s).sht.ownDigest = s.sht.ownDigest ∧ (beaconDue s).orq.queue = s.orq.queue ∧
    (beaconDue s).orq.heldList = s.orq.heldList ∧ (beaconDue s).orq.arrivals = s.orq.arrivals ∧
    (beaconDue s).wrs.counter = s.wrs.counter ∧ (beaconDue s).wrs.slots = s.wrs.slots := by
  refine ⟨?_, ?_, ?_, ?_, ?_, ?_, ?_, ?_, ?_, ?_, ?_, ?_, ?_, ?_, ?_, ?_, ?_, ?_, ?_, ?_⟩ <;>
    first | rfl | (unfold beaconDue; (repeat' split) <;> simp; done)

@[simp] theorem settleEnds_frame (s : State) :
    (settleEnds s).inReset = s.inReset ∧ (settleEnds s).node = s.node ∧ (settleEnds s).settings = s.settings ∧
    (settleEnds s).now = s.now ∧ (settleEnds s).pending = s.pending ∧ (settleEnds s).wsq.isolated = s.wsq.isolated ∧
    (settleEnds s).pcu.clamp = s.pcu.clamp ∧ (settleEnds s).stl.stop = s.stl.stop ∧
    (settleEnds s).sht.clock = s.sht.clock ∧ (settleEnds s).sht.ownDigest = s.sht.ownDigest ∧
    (settleEnds s).orq.heldList = s.orq.heldList ∧ (settleEnds s).orq.arrivals = s.orq.arrivals := by
  refine ⟨?_, ?_, ?_, ?_, ?_, ?_, ?_, ?_, ?_, ?_, ?_, ?_⟩ <;>
    (simp only [settleEnds]; (repeat' split) <;> (try simp) <;> (repeat' split) <;> (try simp) <;> (repeat' split) <;> simp)

@[simp] theorem claimWaitEnds_frame (s : State) :
    (claimWaitEnds s).inReset = s.inReset ∧ (claimWaitEnds s).node = s.node ∧
    (claimWaitEnds s).settings = s.settings ∧ (claimWaitEnds s).now = s.now ∧ (claimWaitEnds s).pending = s.pending ∧
    (claimWaitEnds s).tru = s.tru ∧ (claimWaitEnds s).wsq.station = s.wsq.station ∧
    (claimWaitEnds s).wsq.isolated = s.wsq.isolated ∧ (claimWaitEnds s).pcu.clamp = s.pcu.clamp ∧
    (claimWaitEnds s).stl.stop = s.stl.stop ∧ (claimWaitEnds s).sht.clock = s.sht.clock ∧
    (claimWaitEnds s).sht.ownDigest = s.sht.ownDigest ∧ (claimWaitEnds s).orq.queue = s.orq.queue ∧
    (claimWaitEnds s).orq.heldList = s.orq.heldList ∧ (claimWaitEnds s).orq.arrivals = s.orq.arrivals ∧
    (claimWaitEnds s).wrs.counter = s.wrs.counter ∧ (claimWaitEnds s).wrs.slots = s.wrs.slots := by
  refine ⟨?_, ?_, ?_, ?_, ?_, ?_, ?_, ?_, ?_, ?_, ?_, ?_, ?_, ?_, ?_, ?_, ?_⟩ <;>
    (simp only [claimWaitEnds]; (repeat' split) <;> (try simp) <;> (repeat' split) <;> (try simp) <;> (repeat' split) <;> simp)

@[simp] theorem peerMissed_frame (peer : Nat) (s : State) :
    (peerMissed peer s).inReset = s.inReset ∧ (peerMissed peer s).node = s.node ∧
    (peerMissed peer s).settings = s.settings ∧ (peerMissed peer s).now = s.now ∧
    (peerMissed peer s).pending = s.pending ∧ (peerMissed peer s).wsq.isolated = s.wsq.isolated ∧
    (peerMissed peer s).pcu.clamp = s.pcu.clamp ∧ (peerMissed peer s).stl.stop = s.stl.stop ∧
    (peerMissed peer s).sht.clock = s.sht.clock ∧ (peerMissed peer s).sht.ownDigest = s.sht.ownDigest ∧
    (peerMissed peer s).orq.heldList = s.orq.heldList ∧ (peerMissed peer s).orq.arrivals = s.orq.arrivals := by
  refine ⟨?_, ?_, ?_, ?_, ?_, ?_, ?_, ?_, ?_, ?_, ?_, ?_⟩ <;>
    (simp only [peerMissed]; (repeat' split) <;> (try simp) <;> (repeat' split) <;> (try simp) <;> (repeat' split) <;> simp)

@[simp] theorem drainEnds_frame (station : Nat) (s : State) :
    (drainEnds station s).inReset = s.inReset ∧ (drainEnds station s).node = s.node ∧
    (drainEnds station s).settings = s.settings ∧ (drainEnds station s).now = s.now ∧
    (drainEnds station s).pending = s.pending ∧ (drainEnds station s).wsq.isolated = s.wsq.isolated ∧
    (drainEnds station s).pcu.clamp = s.pcu.clamp ∧ (drainEnds station s).stl.stop = s.stl.stop ∧
    (drainEnds station s).sht.clock = s.sht.clock ∧ (drainEnds station s).sht.ownDigest = s.sht.ownDigest ∧
    (drainEnds station s).orq.heldList = s.orq.heldList ∧ (drainEnds station s).orq.arrivals = s.orq.arrivals := by
  refine ⟨?_, ?_, ?_, ?_, ?_, ?_, ?_, ?_, ?_, ?_, ?_, ?_⟩ <;>
    (simp only [drainEnds]; (repeat' split) <;> (try simp) <;> (repeat' split) <;> (try simp) <;> (repeat' split) <;> simp)

end Sys2Proof.Machine
end

