-- ==== Sys2Proof/Laws/PlatenEventsFrame.lean ====
section
/-! SUPPORT. What each operation of Machine/PlatenEvents.lean leaves as it was. -/

namespace Sys2Proof.Machine

@[simp] theorem clampForceHit_frame (s : State) :
    (clampForceHit s).inReset = s.inReset ∧ (clampForceHit s).node = s.node ∧
    (clampForceHit s).settings = s.settings ∧ (clampForceHit s).now = s.now ∧ (clampForceHit s).pending = s.pending ∧
    (clampForceHit s).free = s.free ∧ (clampForceHit s).flash = s.flash ∧ (clampForceHit s).cdr = s.cdr ∧
    (clampForceHit s).tru = s.tru ∧ (clampForceHit s).stl = s.stl ∧ (clampForceHit s).sht = s.sht ∧
    (clampForceHit s).wsq.phase = s.wsq.phase ∧ (clampForceHit s).wsq.isolated = s.wsq.isolated ∧
    (clampForceHit s).orq.heldList = s.orq.heldList ∧ (clampForceHit s).orq.arrivals = s.orq.arrivals ∧
    (clampForceHit s).wrs.counter = s.wrs.counter ∧ (clampForceHit s).wrs.slots = s.wrs.slots := by
  refine ⟨?_, ?_, ?_, ?_, ?_, ?_, ?_, ?_, ?_, ?_, ?_, ?_, ?_, ?_, ?_, ?_, ?_⟩ <;>
    first | rfl | (unfold clampForceHit; (repeat' split) <;> simp; done)

@[simp] theorem noteTimeout_frame (s : State) :
    (noteTimeout s).inReset = s.inReset ∧ (noteTimeout s).node = s.node ∧ (noteTimeout s).settings = s.settings ∧
    (noteTimeout s).now = s.now ∧ (noteTimeout s).pending = s.pending ∧ (noteTimeout s).free = s.free ∧
    (noteTimeout s).flash = s.flash ∧ (noteTimeout s).cdr = s.cdr ∧ (noteTimeout s).pcu = s.pcu ∧
    (noteTimeout s).tru = s.tru ∧ (noteTimeout s).stl = s.stl ∧ (noteTimeout s).sht = s.sht ∧
    (noteTimeout s).lkc = s.lkc ∧ (noteTimeout s).orq = s.orq ∧ (noteTimeout s).wrs = s.wrs ∧
    (noteTimeout s).wsq.station = s.wsq.station ∧ (noteTimeout s).wsq.phase = s.wsq.phase ∧
    (noteTimeout s).wsq.isolated = s.wsq.isolated := by
  refine ⟨?_, ?_, ?_, ?_, ?_, ?_, ?_, ?_, ?_, ?_, ?_, ?_, ?_, ?_, ?_, ?_, ?_, ?_⟩ <;>
    first | rfl | (unfold noteTimeout; (repeat' split) <;> simp; done)

@[simp] theorem movementTimesOut_frame (s : State) :
    (movementTimesOut s).inReset = s.inReset ∧ (movementTimesOut s).node = s.node ∧
    (movementTimesOut s).settings = s.settings ∧ (movementTimesOut s).now = s.now ∧
    (movementTimesOut s).pending = s.pending ∧ (movementTimesOut s).wsq.isolated = s.wsq.isolated ∧
    (movementTimesOut s).stl.stop = s.stl.stop ∧ (movementTimesOut s).sht.clock = s.sht.clock ∧
    (movementTimesOut s).sht.ownDigest = s.sht.ownDigest ∧ (movementTimesOut s).orq.heldList = s.orq.heldList ∧
    (movementTimesOut s).orq.arrivals = s.orq.arrivals ∧ (movementTimesOut s).wrs.counter = s.wrs.counter ∧
    (movementTimesOut s).wrs.slots = s.wrs.slots := by
  refine ⟨?_, ?_, ?_, ?_, ?_, ?_, ?_, ?_, ?_, ?_, ?_, ?_, ?_⟩ <;>
    (simp only [movementTimesOut]; (repeat' split) <;> (try simp) <;> (repeat' split) <;> (try simp) <;> (repeat' split) <;> simp)

@[simp] theorem clampTimesOut_frame (s : State) :
    (clampTimesOut s).inReset = s.inReset ∧ (clampTimesOut s).node = s.node ∧
    (clampTimesOut s).settings = s.settings ∧ (clampTimesOut s).now = s.now ∧ (clampTimesOut s).pending = s.pending ∧
    (clampTimesOut s).wsq.isolated = s.wsq.isolated ∧ (clampTimesOut s).stl.stop = s.stl.stop ∧
    (clampTimesOut s).sht.clock = s.sht.clock ∧ (clampTimesOut s).sht.ownDigest = s.sht.ownDigest ∧
    (clampTimesOut s).orq.heldList = s.orq.heldList ∧ (clampTimesOut s).orq.arrivals = s.orq.arrivals ∧
    (clampTimesOut s).wrs.counter = s.wrs.counter ∧ (clampTimesOut s).wrs.slots = s.wrs.slots := by
  refine ⟨?_, ?_, ?_, ?_, ?_, ?_, ?_, ?_, ?_, ?_, ?_, ?_, ?_⟩ <;>
    (simp only [clampTimesOut]; (repeat' split) <;> (try simp) <;> (repeat' split) <;> (try simp) <;> (repeat' split) <;> simp)

@[simp] theorem slips_frame (s : State) :
    (slips s).inReset = s.inReset ∧ (slips s).node = s.node ∧ (slips s).settings = s.settings ∧
    (slips s).now = s.now ∧ (slips s).pending = s.pending ∧ (slips s).wsq.isolated = s.wsq.isolated ∧
    (slips s).pcu.clamp = s.pcu.clamp ∧ (slips s).stl.stop = s.stl.stop ∧ (slips s).sht.clock = s.sht.clock ∧
    (slips s).sht.ownDigest = s.sht.ownDigest ∧ (slips s).orq.heldList = s.orq.heldList ∧
    (slips s).orq.arrivals = s.orq.arrivals ∧ (slips s).wrs.counter = s.wrs.counter ∧
    (slips s).wrs.slots = s.wrs.slots := by
  refine ⟨?_, ?_, ?_, ?_, ?_, ?_, ?_, ?_, ?_, ?_, ?_, ?_, ?_, ?_⟩ <;>
    (simp only [slips]; (repeat' split) <;> (try simp) <;> (repeat' split) <;> (try simp) <;> (repeat' split) <;> simp)

@[simp] theorem implausible_frame (s : State) :
    (implausible s).inReset = s.inReset ∧ (implausible s).node = s.node ∧ (implausible s).settings = s.settings ∧
    (implausible s).now = s.now ∧ (implausible s).pending = s.pending ∧
    (implausible s).wsq.isolated = s.wsq.isolated ∧ (implausible s).pcu.clamp = s.pcu.clamp ∧
    (implausible s).stl.stop = s.stl.stop ∧ (implausible s).sht.clock = s.sht.clock ∧
    (implausible s).sht.ownDigest = s.sht.ownDigest ∧ (implausible s).orq.heldList = s.orq.heldList ∧
    (implausible s).orq.arrivals = s.orq.arrivals ∧ (implausible s).wrs.counter = s.wrs.counter ∧
    (implausible s).wrs.slots = s.wrs.slots := by
  refine ⟨?_, ?_, ?_, ?_, ?_, ?_, ?_, ?_, ?_, ?_, ?_, ?_, ?_, ?_⟩ <;>
    (simp only [implausible]; (repeat' split) <;> (try simp) <;> (repeat' split) <;> (try simp) <;> (repeat' split) <;> simp)

@[simp] theorem movementEnds_frame (s : State) :
    (movementEnds s).inReset = s.inReset ∧ (movementEnds s).node = s.node ∧ (movementEnds s).settings = s.settings ∧
    (movementEnds s).now = s.now ∧ (movementEnds s).pending = s.pending ∧ (movementEnds s).free = s.free ∧
    (movementEnds s).cdr = s.cdr ∧ (movementEnds s).tru = s.tru ∧ (movementEnds s).stl = s.stl ∧
    (movementEnds s).sht = s.sht ∧ (movementEnds s).wsq.isolated = s.wsq.isolated ∧
    (movementEnds s).pcu.clamp = s.pcu.clamp ∧ (movementEnds s).orq.heldList = s.orq.heldList ∧
    (movementEnds s).orq.arrivals = s.orq.arrivals ∧ (movementEnds s).wrs.counter = s.wrs.counter ∧
    (movementEnds s).wrs.slots = s.wrs.slots := by
  refine ⟨?_, ?_, ?_, ?_, ?_, ?_, ?_, ?_, ?_, ?_, ?_, ?_, ?_, ?_, ?_, ?_⟩ <;>
    (simp only [movementEnds]; (repeat' split) <;> (try simp) <;> (repeat' split) <;> (try simp) <;> (repeat' split) <;> simp)

@[simp] theorem forceReport_frame (s : State) :
    (forceReport s).inReset = s.inReset ∧ (forceReport s).node = s.node ∧ (forceReport s).settings = s.settings ∧
    (forceReport s).now = s.now ∧ (forceReport s).pending = s.pending ∧
    (forceReport s).wsq.isolated = s.wsq.isolated ∧ (forceReport s).pcu.clamp = s.pcu.clamp ∧
    (forceReport s).stl.stop = s.stl.stop ∧ (forceReport s).sht.clock = s.sht.clock ∧
    (forceReport s).sht.ownDigest = s.sht.ownDigest ∧ (forceReport s).orq.heldList = s.orq.heldList ∧
    (forceReport s).orq.arrivals = s.orq.arrivals ∧ (forceReport s).wrs.counter = s.wrs.counter ∧
    (forceReport s).wrs.slots = s.wrs.slots := by
  refine ⟨?_, ?_, ?_, ?_, ?_, ?_, ?_, ?_, ?_, ?_, ?_, ?_, ?_, ?_⟩ <;>
    (simp only [forceReport]; (repeat' split) <;> (try simp) <;> (repeat' split) <;> (try simp) <;> (repeat' split) <;> simp)

@[simp] theorem checkEnds_frame (s : State) :
    (checkEnds s).inReset = s.inReset ∧ (checkEnds s).node = s.node ∧ (checkEnds s).settings = s.settings ∧
    (checkEnds s).now = s.now ∧ (checkEnds s).pending = s.pending ∧ (checkEnds s).free = s.free ∧
    (checkEnds s).flash = s.flash ∧ (checkEnds s).cdr = s.cdr ∧ (checkEnds s).tru = s.tru ∧
    (checkEnds s).stl = s.stl ∧ (checkEnds s).sht = s.sht ∧ (checkEnds s).wsq.isolated = s.wsq.isolated ∧
    (checkEnds s).pcu.clamp = s.pcu.clamp ∧ (checkEnds s).orq.heldList = s.orq.heldList ∧
    (checkEnds s).orq.arrivals = s.orq.arrivals ∧ (checkEnds s).wrs.counter = s.wrs.counter ∧
    (checkEnds s).wrs.slots = s.wrs.slots := by
  refine ⟨?_, ?_, ?_, ?_, ?_, ?_, ?_, ?_, ?_, ?_, ?_, ?_, ?_, ?_, ?_, ?_, ?_⟩ <;>
    first | rfl | (unfold checkEnds; (repeat' split) <;> simp; done)

@[simp] theorem shoeMeasured_frame (microohm : Nat) (s : State) :
    (shoeMeasured microohm s).inReset = s.inReset ∧ (shoeMeasured microohm s).node = s.node ∧
    (shoeMeasured microohm s).settings = s.settings ∧ (shoeMeasured microohm s).now = s.now ∧
    (shoeMeasured microohm s).pending = s.pending ∧ (shoeMeasured microohm s).free = s.free ∧
    (shoeMeasured microohm s).flash = s.flash ∧ (shoeMeasured microohm s).cdr = s.cdr ∧
    (shoeMeasured microohm s).tru = s.tru ∧ (shoeMeasured microohm s).stl = s.stl ∧
    (shoeMeasured microohm s).sht = s.sht ∧ (shoeMeasured microohm s).wsq.isolated = s.wsq.isolated ∧
    (shoeMeasured microohm s).pcu.clamp = s.pcu.clamp ∧ (shoeMeasured microohm s).orq.heldList = s.orq.heldList ∧
    (shoeMeasured microohm s).orq.arrivals = s.orq.arrivals ∧ (shoeMeasured microohm s).wrs.counter = s.wrs.counter ∧
    (shoeMeasured microohm s).wrs.slots = s.wrs.slots := by
  refine ⟨?_, ?_, ?_, ?_, ?_, ?_, ?_, ?_, ?_, ?_, ?_, ?_, ?_, ?_, ?_, ?_, ?_⟩ <;>
    first | rfl | (unfold shoeMeasured; (repeat' split) <;> simp; done)

@[simp] theorem pullDrifts_frame (s : State) :
    (pullDrifts s).inReset = s.inReset ∧ (pullDrifts s).node = s.node ∧ (pullDrifts s).settings = s.settings ∧
    (pullDrifts s).now = s.now ∧ (pullDrifts s).pending = s.pending ∧ (pullDrifts s).wsq.isolated = s.wsq.isolated ∧
    (pullDrifts s).pcu.clamp = s.pcu.clamp ∧ (pullDrifts s).stl.stop = s.stl.stop ∧
    (pullDrifts s).sht.clock = s.sht.clock ∧ (pullDrifts s).sht.ownDigest = s.sht.ownDigest ∧
    (pullDrifts s).orq.heldList = s.orq.heldList ∧ (pullDrifts s).orq.arrivals = s.orq.arrivals ∧
    (pullDrifts s).wrs.counter = s.wrs.counter ∧ (pullDrifts s).wrs.slots = s.wrs.slots := by
  refine ⟨?_, ?_, ?_, ?_, ?_, ?_, ?_, ?_, ?_, ?_, ?_, ?_, ?_, ?_⟩ <;>
    (simp only [pullDrifts]; (repeat' split) <;> (try simp) <;> (repeat' split) <;> (try simp) <;> (repeat' split) <;> simp)

@[simp] theorem advanceFails_frame (s : State) :
    (advanceFails s).inReset = s.inReset ∧ (advanceFails s).node = s.node ∧ (advanceFails s).settings = s.settings ∧
    (advanceFails s).now = s.now ∧ (advanceFails s).pending = s.pending ∧
    (advanceFails s).wsq.isolated = s.wsq.isolated ∧ (advanceFails s).pcu.clamp = s.pcu.clamp ∧
    (advanceFails s).stl.stop = s.stl.stop ∧ (advanceFails s).sht.clock = s.sht.clock ∧
    (advanceFails s).sht.ownDigest = s.sht.ownDigest ∧ (advanceFails s).orq.heldList = s.orq.heldList ∧
    (advanceFails s).orq.arrivals = s.orq.arrivals ∧ (advanceFails s).wrs.counter = s.wrs.counter ∧
    (advanceFails s).wrs.slots = s.wrs.slots := by
  refine ⟨?_, ?_, ?_, ?_, ?_, ?_, ?_, ?_, ?_, ?_, ?_, ?_, ?_, ?_⟩ <;>
    (simp only [advanceFails]; (repeat' split) <;> (try simp) <;> (repeat' split) <;> (try simp) <;> (repeat' split) <;> simp)

@[simp] theorem compareWake_frame (pressure : Nat) (s : State) :
    (compareWake pressure s).inReset = s.inReset ∧ (compareWake pressure s).node = s.node ∧
    (compareWake pressure s).settings = s.settings ∧ (compareWake pressure s).now = s.now ∧
    (compareWake pressure s).pending = s.pending ∧ (compareWake pressure s).wsq.isolated = s.wsq.isolated ∧
    (compareWake pressure s).pcu.clamp = s.pcu.clamp ∧ (compareWake pressure s).stl.stop = s.stl.stop ∧
    (compareWake pressure s).sht.clock = s.sht.clock ∧ (compareWake pressure s).sht.ownDigest = s.sht.ownDigest ∧
    (compareWake pressure s).orq.heldList = s.orq.heldList ∧ (compareWake pressure s).orq.arrivals = s.orq.arrivals ∧
    (compareWake pressure s).wrs.counter = s.wrs.counter ∧ (compareWake pressure s).wrs.slots = s.wrs.slots := by
  refine ⟨?_, ?_, ?_, ?_, ?_, ?_, ?_, ?_, ?_, ?_, ?_, ?_, ?_, ?_⟩ <;>
    (simp only [compareWake]; (repeat' split) <;> (try simp) <;> (repeat' split) <;> (try simp) <;> (repeat' split) <;> simp)

@[simp] theorem sampleTaken_frame (f : FieldSample) (s : State) :
    (sampleTaken f s).inReset = s.inReset ∧ (sampleTaken f s).node = s.node ∧
    (sampleTaken f s).settings = s.settings ∧ (sampleTaken f s).now = s.now ∧ (sampleTaken f s).pending = s.pending ∧
    (sampleTaken f s).wsq.isolated = s.wsq.isolated ∧ (sampleTaken f s).pcu.clamp = s.pcu.clamp ∧
    (sampleTaken f s).stl.stop = s.stl.stop ∧ (sampleTaken f s).sht.clock = s.sht.clock ∧
    (sampleTaken f s).sht.ownDigest = s.sht.ownDigest ∧ (sampleTaken f s).orq.heldList = s.orq.heldList ∧
    (sampleTaken f s).orq.arrivals = s.orq.arrivals ∧ (sampleTaken f s).wrs.counter = s.wrs.counter ∧
    (sampleTaken f s).wrs.slots = s.wrs.slots := by
  refine ⟨?_, ?_, ?_, ?_, ?_, ?_, ?_, ?_, ?_, ?_, ?_, ?_, ?_, ?_⟩ <;>
    (simp only [sampleTaken]; (repeat' split) <;> (try simp) <;> (repeat' split) <;> (try simp) <;> (repeat' split) <;> simp)

end Sys2Proof.Machine
end

