-- ==== Sys2Proof/Laws/WeldEventsFrame.lean ====
section
/-! SUPPORT. What each operation of Machine/WeldEvents.lean leaves as it was. -/

namespace Sys2Proof.Machine

@[simp] theorem contactEnds_frame (s : State) :
    (contactEnds s).inReset = s.inReset ∧ (contactEnds s).node = s.node ∧ (contactEnds s).settings = s.settings ∧
    (contactEnds s).now = s.now ∧ (contactEnds s).pending = s.pending ∧ (contactEnds s).tru = s.tru ∧
    (contactEnds s).wsq.station = s.wsq.station ∧ (contactEnds s).wsq.isolated = s.wsq.isolated ∧
    (contactEnds s).pcu.clamp = s.pcu.clamp ∧ (contactEnds s).stl.stop = s.stl.stop ∧
    (contactEnds s).sht.clock = s.sht.clock ∧ (contactEnds s).sht.ownDigest = s.sht.ownDigest ∧
    (contactEnds s).orq.queue = s.orq.queue ∧ (contactEnds s).orq.heldList = s.orq.heldList ∧
    (contactEnds s).orq.arrivals = s.orq.arrivals ∧ (contactEnds s).wrs.counter = s.wrs.counter ∧
    (contactEnds s).wrs.slots = s.wrs.slots := by
  refine ⟨?_, ?_, ?_, ?_, ?_, ?_, ?_, ?_, ?_, ?_, ?_, ?_, ?_, ?_, ?_, ?_, ?_⟩ <;>
    (simp only [contactEnds]; (repeat' split) <;> (try simp) <;> (repeat' split) <;> (try simp) <;> (repeat' split) <;> simp)

@[simp] theorem streakEnds_frame (s : State) :
    (streakEnds s).inReset = s.inReset ∧ (streakEnds s).node = s.node ∧ (streakEnds s).settings = s.settings ∧
    (streakEnds s).now = s.now ∧ (streakEnds s).pending = s.pending ∧ (streakEnds s).free = s.free ∧
    (streakEnds s).wsq = s.wsq ∧ (streakEnds s).cdr = s.cdr ∧ (streakEnds s).pcu = s.pcu ∧
    (streakEnds s).tru = s.tru ∧ (streakEnds s).stl = s.stl ∧ (streakEnds s).sht = s.sht ∧
    (streakEnds s).lkc = s.lkc ∧ (streakEnds s).orq = s.orq ∧ (streakEnds s).wrs = s.wrs := by
  refine ⟨?_, ?_, ?_, ?_, ?_, ?_, ?_, ?_, ?_, ?_, ?_, ?_, ?_, ?_, ?_⟩ <;>
    first | rfl | (unfold streakEnds; (repeat' split) <;> simp; done)

@[simp] theorem flashLoses_frame (s : State) :
    (flashLoses s).inReset = s.inReset ∧ (flashLoses s).node = s.node ∧ (flashLoses s).settings = s.settings ∧
    (flashLoses s).now = s.now ∧ (flashLoses s).pending = s.pending ∧ (flashLoses s).wsq.isolated = s.wsq.isolated ∧
    (flashLoses s).pcu.clamp = s.pcu.clamp ∧ (flashLoses s).stl.stop = s.stl.stop ∧
    (flashLoses s).sht.clock = s.sht.clock ∧ (flashLoses s).sht.ownDigest = s.sht.ownDigest ∧
    (flashLoses s).orq.heldList = s.orq.heldList ∧ (flashLoses s).orq.arrivals = s.orq.arrivals ∧
    (flashLoses s).wrs.counter = s.wrs.counter ∧ (flashLoses s).wrs.slots = s.wrs.slots := by
  refine ⟨?_, ?_, ?_, ?_, ?_, ?_, ?_, ?_, ?_, ?_, ?_, ?_, ?_, ?_⟩ <;>
    (simp only [flashLoses]; (repeat' split) <;> (try simp) <;> (repeat' split) <;> (try simp) <;> (repeat' split) <;> simp)

@[simp] theorem flashTimesOut_frame (s : State) :
    (flashTimesOut s).inReset = s.inReset ∧ (flashTimesOut s).node = s.node ∧
    (flashTimesOut s).settings = s.settings ∧ (flashTimesOut s).now = s.now ∧ (flashTimesOut s).pending = s.pending ∧
    (flashTimesOut s).wsq.isolated = s.wsq.isolated ∧ (flashTimesOut s).pcu.clamp = s.pcu.clamp ∧
    (flashTimesOut s).stl.stop = s.stl.stop ∧ (flashTimesOut s).sht.clock = s.sht.clock ∧
    (flashTimesOut s).sht.ownDigest = s.sht.ownDigest ∧ (flashTimesOut s).orq.heldList = s.orq.heldList ∧
    (flashTimesOut s).orq.arrivals = s.orq.arrivals ∧ (flashTimesOut s).wrs.counter = s.wrs.counter ∧
    (flashTimesOut s).wrs.slots = s.wrs.slots := by
  refine ⟨?_, ?_, ?_, ?_, ?_, ?_, ?_, ?_, ?_, ?_, ?_, ?_, ?_, ?_⟩ <;>
    (simp only [flashTimesOut]; (repeat' split) <;> (try simp) <;> (repeat' split) <;> (try simp) <;> (repeat' split) <;> simp)

@[simp] theorem upsetTimesOut_frame (s : State) :
    (upsetTimesOut s).inReset = s.inReset ∧ (upsetTimesOut s).node = s.node ∧
    (upsetTimesOut s).settings = s.settings ∧ (upsetTimesOut s).now = s.now ∧ (upsetTimesOut s).pending = s.pending ∧
    (upsetTimesOut s).wsq.isolated = s.wsq.isolated ∧ (upsetTimesOut s).pcu.clamp = s.pcu.clamp ∧
    (upsetTimesOut s).stl.stop = s.stl.stop ∧ (upsetTimesOut s).sht.clock = s.sht.clock ∧
    (upsetTimesOut s).sht.ownDigest = s.sht.ownDigest ∧ (upsetTimesOut s).orq.heldList = s.orq.heldList ∧
    (upsetTimesOut s).orq.arrivals = s.orq.arrivals ∧ (upsetTimesOut s).wrs.counter = s.wrs.counter ∧
    (upsetTimesOut s).wrs.slots = s.wrs.slots := by
  refine ⟨?_, ?_, ?_, ?_, ?_, ?_, ?_, ?_, ?_, ?_, ?_, ?_, ?_, ?_⟩ <;>
    (simp only [upsetTimesOut]; (repeat' split) <;> (try simp) <;> (repeat' split) <;> (try simp) <;> (repeat' split) <;> simp)

@[simp] theorem settlePull_frame (s : State) :
    (settlePull s).inReset = s.inReset ∧ (settlePull s).node = s.node ∧ (settlePull s).settings = s.settings ∧
    (settlePull s).now = s.now ∧ (settlePull s).pending = s.pending ∧ (settlePull s).free = s.free ∧
    (settlePull s).flash = s.flash ∧ (settlePull s).cdr = s.cdr ∧ (settlePull s).tru = s.tru ∧
    (settlePull s).stl = s.stl ∧ (settlePull s).sht = s.sht ∧ (settlePull s).lkc = s.lkc ∧
    (settlePull s).orq = s.orq ∧ (settlePull s).wrs = s.wrs ∧ (settlePull s).wsq.station = s.wsq.station ∧
    (settlePull s).wsq.phase = s.wsq.phase ∧ (settlePull s).wsq.isolated = s.wsq.isolated ∧
    (settlePull s).pcu.clamp = s.pcu.clamp := by
  refine ⟨?_, ?_, ?_, ?_, ?_, ?_, ?_, ?_, ?_, ?_, ?_, ?_, ?_, ?_, ?_, ?_, ?_, ?_⟩ <;>
    first | rfl | (unfold settlePull; (repeat' split) <;> simp; done)

@[simp] theorem holdTimeEnds_frame (s : State) :
    (holdTimeEnds s).inReset = s.inReset ∧ (holdTimeEnds s).node = s.node ∧ (holdTimeEnds s).settings = s.settings ∧
    (holdTimeEnds s).now = s.now ∧ (holdTimeEnds s).pending = s.pending ∧
    (holdTimeEnds s).wsq.isolated = s.wsq.isolated ∧ (holdTimeEnds s).pcu.clamp = s.pcu.clamp ∧
    (holdTimeEnds s).stl.stop = s.stl.stop ∧ (holdTimeEnds s).sht.clock = s.sht.clock ∧
    (holdTimeEnds s).sht.ownDigest = s.sht.ownDigest ∧ (holdTimeEnds s).orq.heldList = s.orq.heldList ∧
    (holdTimeEnds s).orq.arrivals = s.orq.arrivals ∧ (holdTimeEnds s).wrs.counter = s.wrs.counter ∧
    (holdTimeEnds s).wrs.slots = s.wrs.slots := by
  refine ⟨?_, ?_, ?_, ?_, ?_, ?_, ?_, ?_, ?_, ?_, ?_, ?_, ?_, ?_⟩ <;>
    (simp only [holdTimeEnds]; (repeat' split) <;> (try simp) <;> (repeat' split) <;> (try simp) <;> (repeat' split) <;> simp)

@[simp] theorem windowEnds_frame (s : State) :
    (windowEnds s).inReset = s.inReset ∧ (windowEnds s).node = s.node ∧ (windowEnds s).settings = s.settings ∧
    (windowEnds s).now = s.now ∧ (windowEnds s).pending = s.pending ∧ (windowEnds s).wsq.isolated = s.wsq.isolated ∧
    (windowEnds s).pcu.clamp = s.pcu.clamp ∧ (windowEnds s).stl.stop = s.stl.stop ∧
    (windowEnds s).sht.clock = s.sht.clock ∧ (windowEnds s).sht.ownDigest = s.sht.ownDigest ∧
    (windowEnds s).orq.heldList = s.orq.heldList ∧ (windowEnds s).orq.arrivals = s.orq.arrivals ∧
    (windowEnds s).wrs.counter = s.wrs.counter ∧ (windowEnds s).wrs.slots = s.wrs.slots := by
  refine ⟨?_, ?_, ?_, ?_, ?_, ?_, ?_, ?_, ?_, ?_, ?_, ?_, ?_, ?_⟩ <;>
    (simp only [windowEnds]; (repeat' split) <;> (try simp) <;> (repeat' split) <;> (try simp) <;> (repeat' split) <;> simp)

@[simp] theorem strokeBack_frame (s : State) :
    (strokeBack s).inReset = s.inReset ∧ (strokeBack s).node = s.node ∧ (strokeBack s).settings = s.settings ∧
    (strokeBack s).now = s.now ∧ (strokeBack s).pending = s.pending ∧ (strokeBack s).free = s.free ∧
    (strokeBack s).flash = s.flash ∧ (strokeBack s).cdr = s.cdr ∧ (strokeBack s).stl = s.stl ∧
    (strokeBack s).sht = s.sht ∧ (strokeBack s).lkc = s.lkc ∧ (strokeBack s).orq = s.orq ∧
    (strokeBack s).wsq.station = s.wsq.station ∧ (strokeBack s).wsq.isolated = s.wsq.isolated ∧
    (strokeBack s).pcu.clamp = s.pcu.clamp ∧ (strokeBack s).wrs.counter = s.wrs.counter ∧
    (strokeBack s).wrs.slots = s.wrs.slots := by
  refine ⟨?_, ?_, ?_, ?_, ?_, ?_, ?_, ?_, ?_, ?_, ?_, ?_, ?_, ?_, ?_, ?_, ?_⟩ <;>
    (simp only [strokeBack]; (repeat' split) <;> (try simp) <;> (repeat' split) <;> (try simp) <;> (repeat' split) <;> simp)

@[simp] theorem faultBack_frame (s : State) :
    (faultBack s).inReset = s.inReset ∧ (faultBack s).node = s.node ∧ (faultBack s).settings = s.settings ∧
    (faultBack s).now = s.now ∧ (faultBack s).pending = s.pending ∧ (faultBack s).free = s.free ∧
    (faultBack s).wsq = s.wsq ∧ (faultBack s).flash = s.flash ∧ (faultBack s).cdr = s.cdr ∧
    (faultBack s).pcu = s.pcu ∧ (faultBack s).stl = s.stl ∧ (faultBack s).sht = s.sht ∧ (faultBack s).lkc = s.lkc ∧
    (faultBack s).orq = s.orq ∧ (faultBack s).wrs = s.wrs := by
  refine ⟨?_, ?_, ?_, ?_, ?_, ?_, ?_, ?_, ?_, ?_, ?_, ?_, ?_, ?_, ?_⟩ <;>
    first | rfl | (unfold faultBack; (repeat' split) <;> simp; done)

@[simp] theorem returned_frame (s : State) :
    (returned s).inReset = s.inReset ∧ (returned s).node = s.node ∧ (returned s).settings = s.settings ∧
    (returned s).now = s.now ∧ (returned s).pending = s.pending ∧ (returned s).free = s.free ∧
    (returned s).flash = s.flash ∧ (returned s).cdr = s.cdr ∧ (returned s).stl = s.stl ∧ (returned s).sht = s.sht ∧
    (returned s).lkc = s.lkc ∧ (returned s).orq = s.orq ∧ (returned s).wsq.station = s.wsq.station ∧
    (returned s).wsq.isolated = s.wsq.isolated ∧ (returned s).pcu.clamp = s.pcu.clamp ∧
    (returned s).wrs.counter = s.wrs.counter ∧ (returned s).wrs.slots = s.wrs.slots := by
  refine ⟨?_, ?_, ?_, ?_, ?_, ?_, ?_, ?_, ?_, ?_, ?_, ?_, ?_, ?_, ?_, ?_, ?_⟩ <;>
    (simp only [returned]; (repeat' split) <;> (try simp) <;> (repeat' split) <;> (try simp) <;> (repeat' split) <;> simp)

@[simp] theorem fileTrimFail_frame (s : State) :
    (fileTrimFail s).inReset = s.inReset ∧ (fileTrimFail s).node = s.node ∧ (fileTrimFail s).settings = s.settings ∧
    (fileTrimFail s).now = s.now ∧ (fileTrimFail s).pending = s.pending ∧
    (fileTrimFail s).wsq.isolated = s.wsq.isolated ∧ (fileTrimFail s).pcu.clamp = s.pcu.clamp ∧
    (fileTrimFail s).stl.stop = s.stl.stop ∧ (fileTrimFail s).sht.clock = s.sht.clock ∧
    (fileTrimFail s).sht.ownDigest = s.sht.ownDigest ∧ (fileTrimFail s).orq.heldList = s.orq.heldList ∧
    (fileTrimFail s).orq.arrivals = s.orq.arrivals ∧ (fileTrimFail s).wrs.counter = s.wrs.counter ∧
    (fileTrimFail s).wrs.slots = s.wrs.slots := by
  refine ⟨?_, ?_, ?_, ?_, ?_, ?_, ?_, ?_, ?_, ?_, ?_, ?_, ?_, ?_⟩ <;>
    (simp only [fileTrimFail]; (repeat' split) <;> (try simp) <;> (repeat' split) <;> (try simp) <;> (repeat' split) <;> simp)

@[simp] theorem strokeTimesOut_frame (s : State) :
    (strokeTimesOut s).inReset = s.inReset ∧ (strokeTimesOut s).node = s.node ∧
    (strokeTimesOut s).settings = s.settings ∧ (strokeTimesOut s).now = s.now ∧
    (strokeTimesOut s).pending = s.pending ∧ (strokeTimesOut s).wsq.isolated = s.wsq.isolated ∧
    (strokeTimesOut s).pcu.clamp = s.pcu.clamp ∧ (strokeTimesOut s).stl.stop = s.stl.stop ∧
    (strokeTimesOut s).sht.clock = s.sht.clock ∧ (strokeTimesOut s).sht.ownDigest = s.sht.ownDigest ∧
    (strokeTimesOut s).orq.heldList = s.orq.heldList ∧ (strokeTimesOut s).orq.arrivals = s.orq.arrivals ∧
    (strokeTimesOut s).wrs.counter = s.wrs.counter ∧ (strokeTimesOut s).wrs.slots = s.wrs.slots := by
  refine ⟨?_, ?_, ?_, ?_, ?_, ?_, ?_, ?_, ?_, ?_, ?_, ?_, ?_, ?_⟩ <;>
    (simp only [strokeTimesOut]; (repeat' split) <;> (try simp) <;> (repeat' split) <;> (try simp) <;> (repeat' split) <;> simp)

@[simp] theorem coolTimeEnds_frame (s : State) :
    (coolTimeEnds s).inReset = s.inReset ∧ (coolTimeEnds s).node = s.node ∧ (coolTimeEnds s).settings = s.settings ∧
    (coolTimeEnds s).now = s.now ∧ (coolTimeEnds s).pending = s.pending ∧ (coolTimeEnds s).free = s.free ∧
    (coolTimeEnds s).flash = s.flash ∧ (coolTimeEnds s).cdr = s.cdr ∧ (coolTimeEnds s).tru = s.tru ∧
    (coolTimeEnds s).stl = s.stl ∧ (coolTimeEnds s).sht = s.sht ∧ (coolTimeEnds s).lkc = s.lkc ∧
    (coolTimeEnds s).orq = s.orq ∧ (coolTimeEnds s).wsq.station = s.wsq.station ∧
    (coolTimeEnds s).wsq.isolated = s.wsq.isolated ∧ (coolTimeEnds s).pcu.clamp = s.pcu.clamp ∧
    (coolTimeEnds s).wrs.counter = s.wrs.counter ∧ (coolTimeEnds s).wrs.slots = s.wrs.slots := by
  refine ⟨?_, ?_, ?_, ?_, ?_, ?_, ?_, ?_, ?_, ?_, ?_, ?_, ?_, ?_, ?_, ?_, ?_, ?_⟩ <;>
    (simp only [coolTimeEnds]; (repeat' split) <;> (try simp) <;> (repeat' split) <;> (try simp) <;> (repeat' split) <;> simp)

end Sys2Proof.Machine
end

