-- ==== Sys2Proof/Laws/DriveEventsFrame.lean ====
section
/-! SUPPORT. What each operation of Machine/DriveEvents.lean leaves as it was. -/

namespace Sys2Proof.Machine

@[simp] theorem cycleEnds_frame (s : State) :
    (cycleEnds s).inReset = s.inReset ∧ (cycleEnds s).node = s.node ∧ (cycleEnds s).settings = s.settings ∧
    (cycleEnds s).now = s.now ∧ (cycleEnds s).pending = s.pending ∧ (cycleEnds s).wsq.isolated = s.wsq.isolated ∧
    (cycleEnds s).pcu.clamp = s.pcu.clamp ∧ (cycleEnds s).stl.stop = s.stl.stop ∧
    (cycleEnds s).sht.clock = s.sht.clock ∧ (cycleEnds s).sht.ownDigest = s.sht.ownDigest ∧
    (cycleEnds s).orq.heldList = s.orq.heldList ∧ (cycleEnds s).orq.arrivals = s.orq.arrivals ∧
    (cycleEnds s).wrs.counter = s.wrs.counter ∧ (cycleEnds s).wrs.slots = s.wrs.slots := by
  refine ⟨?_, ?_, ?_, ?_, ?_, ?_, ?_, ?_, ?_, ?_, ?_, ?_, ?_, ?_⟩ <;>
    (simp only [cycleEnds]; (repeat' split) <;> (try simp) <;> (repeat' split) <;> (try simp) <;> (repeat' split) <;> simp)

@[simp] theorem nextCycle_frame (s : State) :
    (nextCycle s).inReset = s.inReset ∧ (nextCycle s).node = s.node ∧ (nextCycle s).settings = s.settings ∧
    (nextCycle s).now = s.now ∧ (nextCycle s).pending = s.pending ∧ (nextCycle s).free = s.free ∧
    (nextCycle s).wsq = s.wsq ∧ (nextCycle s).tru = s.tru ∧ (nextCycle s).sht = s.sht ∧ (nextCycle s).lkc = s.lkc ∧
    (nextCycle s).orq = s.orq ∧ (nextCycle s).wrs = s.wrs ∧ (nextCycle s).cdr.mode = s.cdr.mode ∧
    (nextCycle s).pcu.clamp = s.pcu.clamp ∧ (nextCycle s).stl.stop = s.stl.stop := by
  refine ⟨?_, ?_, ?_, ?_, ?_, ?_, ?_, ?_, ?_, ?_, ?_, ?_, ?_, ?_, ?_⟩ <;>
    (simp only [nextCycle]; (repeat' split) <;> (try simp) <;> (repeat' split) <;> (try simp) <;> (repeat' split) <;> simp)

@[simp] theorem cycleBoundary_frame (s : State) :
    (cycleBoundary s).inReset = s.inReset ∧ (cycleBoundary s).node = s.node ∧
    (cycleBoundary s).settings = s.settings ∧ (cycleBoundary s).now = s.now ∧ (cycleBoundary s).pending = s.pending ∧
    (cycleBoundary s).wsq.isolated = s.wsq.isolated ∧ (cycleBoundary s).pcu.clamp = s.pcu.clamp ∧
    (cycleBoundary s).stl.stop = s.stl.stop ∧ (cycleBoundary s).sht.clock = s.sht.clock ∧
    (cycleBoundary s).sht.ownDigest = s.sht.ownDigest ∧ (cycleBoundary s).orq.heldList = s.orq.heldList ∧
    (cycleBoundary s).orq.arrivals = s.orq.arrivals ∧ (cycleBoundary s).wrs.counter = s.wrs.counter ∧
    (cycleBoundary s).wrs.slots = s.wrs.slots := by
  refine ⟨?_, ?_, ?_, ?_, ?_, ?_, ?_, ?_, ?_, ?_, ?_, ?_, ?_, ?_⟩ <;>
    (simp only [cycleBoundary]; (repeat' split) <;> (try simp) <;> (repeat' split) <;> (try simp) <;> (repeat' split) <;> simp)

@[simp] theorem positiveEnds_frame (s : State) :
    (positiveEnds s).inReset = s.inReset ∧ (positiveEnds s).node = s.node ∧ (positiveEnds s).settings = s.settings ∧
    (positiveEnds s).now = s.now ∧ (positiveEnds s).pending = s.pending ∧ (positiveEnds s).tru = s.tru ∧
    (positiveEnds s).wsq.station = s.wsq.station ∧ (positiveEnds s).wsq.isolated = s.wsq.isolated ∧
    (positiveEnds s).pcu.clamp = s.pcu.clamp ∧ (positiveEnds s).stl.stop = s.stl.stop ∧
    (positiveEnds s).sht.clock = s.sht.clock ∧ (positiveEnds s).sht.ownDigest = s.sht.ownDigest ∧
    (positiveEnds s).orq.queue = s.orq.queue ∧ (positiveEnds s).orq.heldList = s.orq.heldList ∧
    (positiveEnds s).orq.arrivals = s.orq.arrivals ∧ (positiveEnds s).wrs.counter = s.wrs.counter ∧
    (positiveEnds s).wrs.slots = s.wrs.slots := by
  refine ⟨?_, ?_, ?_, ?_, ?_, ?_, ?_, ?_, ?_, ?_, ?_, ?_, ?_, ?_, ?_, ?_, ?_⟩ <;>
    (simp only [positiveEnds]; (repeat' split) <;> (try simp) <;> (repeat' split) <;> (try simp) <;> (repeat' split) <;> simp)

@[simp] theorem negativeEnds_frame (s : State) :
    (negativeEnds s).inReset = s.inReset ∧ (negativeEnds s).node = s.node ∧ (negativeEnds s).settings = s.settings ∧
    (negativeEnds s).now = s.now ∧ (negativeEnds s).pending = s.pending ∧
    (negativeEnds s).wsq.isolated = s.wsq.isolated ∧ (negativeEnds s).pcu.clamp = s.pcu.clamp ∧
    (negativeEnds s).stl.stop = s.stl.stop ∧ (negativeEnds s).sht.clock = s.sht.clock ∧
    (negativeEnds s).sht.ownDigest = s.sht.ownDigest ∧ (negativeEnds s).orq.heldList = s.orq.heldList ∧
    (negativeEnds s).orq.arrivals = s.orq.arrivals ∧ (negativeEnds s).wrs.counter = s.wrs.counter ∧
    (negativeEnds s).wrs.slots = s.wrs.slots := by
  refine ⟨?_, ?_, ?_, ?_, ?_, ?_, ?_, ?_, ?_, ?_, ?_, ?_, ?_, ?_⟩ <;>
    (simp only [negativeEnds]; (repeat' split) <;> (try simp) <;> (repeat' split) <;> (try simp) <;> (repeat' split) <;> simp)

@[simp] theorem halfEnds_frame (samples : List DriveSample) (integral : Nat) (s : State) :
    (halfEnds samples integral s).inReset = s.inReset ∧ (halfEnds samples integral s).node = s.node ∧
    (halfEnds samples integral s).settings = s.settings ∧ (halfEnds samples integral s).now = s.now ∧
    (halfEnds samples integral s).pending = s.pending ∧ (halfEnds samples integral s).wsq.isolated = s.wsq.isolated ∧
    (halfEnds samples integral s).pcu.clamp = s.pcu.clamp ∧ (halfEnds samples integral s).stl.stop = s.stl.stop ∧
    (halfEnds samples integral s).sht.clock = s.sht.clock ∧
    (halfEnds samples integral s).sht.ownDigest = s.sht.ownDigest ∧
    (halfEnds samples integral s).orq.heldList = s.orq.heldList ∧
    (halfEnds samples integral s).orq.arrivals = s.orq.arrivals ∧
    (halfEnds samples integral s).wrs.counter = s.wrs.counter ∧
    (halfEnds samples integral s).wrs.slots = s.wrs.slots := by
  refine ⟨?_, ?_, ?_, ?_, ?_, ?_, ?_, ?_, ?_, ?_, ?_, ?_, ?_, ?_⟩ <;>
    (simp only [halfEnds]; (repeat' split) <;> (try simp) <;> (repeat' split) <;> (try simp) <;> (repeat' split) <;> simp)

@[simp] theorem blankingEnds_frame (current : Nat) (s : State) :
    (blankingEnds current s).inReset = s.inReset ∧ (blankingEnds current s).node = s.node ∧
    (blankingEnds current s).settings = s.settings ∧ (blankingEnds current s).now = s.now ∧
    (blankingEnds current s).pending = s.pending ∧ (blankingEnds current s).free = s.free ∧
    (blankingEnds current s).wsq = s.wsq ∧ (blankingEnds current s).flash = s.flash ∧
    (blankingEnds current s).pcu = s.pcu ∧ (blankingEnds current s).tru = s.tru ∧
    (blankingEnds current s).stl = s.stl ∧ (blankingEnds current s).sht = s.sht ∧
    (blankingEnds current s).lkc = s.lkc ∧ (blankingEnds current s).orq = s.orq ∧
    (blankingEnds current s).wrs = s.wrs ∧ (blankingEnds current s).cdr.drive = s.cdr.drive ∧
    (blankingEnds current s).cdr.mode = s.cdr.mode := by
  refine ⟨?_, ?_, ?_, ?_, ?_, ?_, ?_, ?_, ?_, ?_, ?_, ?_, ?_, ?_, ?_, ?_, ?_⟩ <;>
    first | rfl | (unfold blankingEnds; (repeat' split) <;> simp; done)

@[simp] theorem takeReading_frame (reading : DriveReading) (s : State) :
    (takeReading reading s).inReset = s.inReset ∧ (takeReading reading s).node = s.node ∧
    (takeReading reading s).settings = s.settings ∧ (takeReading reading s).now = s.now ∧
    (takeReading reading s).pending = s.pending ∧ (takeReading reading s).free = s.free ∧
    (takeReading reading s).wsq = s.wsq ∧ (takeReading reading s).flash = s.flash ∧
    (takeReading reading s).pcu = s.pcu ∧ (takeReading reading s).tru = s.tru ∧
    (takeReading reading s).stl = s.stl ∧ (takeReading reading s).sht = s.sht ∧
    (takeReading reading s).lkc = s.lkc ∧ (takeReading reading s).orq = s.orq ∧
    (takeReading reading s).wrs = s.wrs ∧ (takeReading reading s).cdr.drive = s.cdr.drive ∧
    (takeReading reading s).cdr.mode = s.cdr.mode := by
  refine ⟨?_, ?_, ?_, ?_, ?_, ?_, ?_, ?_, ?_, ?_, ?_, ?_, ?_, ?_, ?_, ?_, ?_⟩ <;>
    first | rfl | (unfold takeReading; (repeat' split) <;> simp; done)

@[simp] theorem overcurrentTaken_frame (s : State) :
    (overcurrentTaken s).inReset = s.inReset ∧ (overcurrentTaken s).node = s.node ∧
    (overcurrentTaken s).settings = s.settings ∧ (overcurrentTaken s).now = s.now ∧
    (overcurrentTaken s).pending = s.pending ∧ (overcurrentTaken s).wsq.isolated = s.wsq.isolated ∧
    (overcurrentTaken s).pcu.clamp = s.pcu.clamp ∧ (overcurrentTaken s).stl.stop = s.stl.stop ∧
    (overcurrentTaken s).sht.clock = s.sht.clock ∧ (overcurrentTaken s).sht.ownDigest = s.sht.ownDigest ∧
    (overcurrentTaken s).orq.heldList = s.orq.heldList ∧ (overcurrentTaken s).orq.arrivals = s.orq.arrivals ∧
    (overcurrentTaken s).wrs.counter = s.wrs.counter ∧ (overcurrentTaken s).wrs.slots = s.wrs.slots := by
  refine ⟨?_, ?_, ?_, ?_, ?_, ?_, ?_, ?_, ?_, ?_, ?_, ?_, ?_, ?_⟩ <;>
    (simp only [overcurrentTaken]; (repeat' split) <;> (try simp) <;> (repeat' split) <;> (try simp) <;> (repeat' split) <;> simp)

end Sys2Proof.Machine
end

