-- ==== Sys2Proof/Laws/StopEventsFrame.lean ====
section
/-! SUPPORT. What each operation of Machine/StopEvents.lean leaves as it was. -/

namespace Sys2Proof.Machine

@[simp] theorem setInput_frame (level : Bool) (s : State) :
    (setInput level s).inReset = s.inReset ∧ (setInput level s).node = s.node ∧
    (setInput level s).settings = s.settings ∧ (setInput level s).now = s.now ∧
    (setInput level s).pending = s.pending ∧ (setInput level s).free = s.free ∧ (setInput level s).wsq = s.wsq ∧
    (setInput level s).flash = s.flash ∧ (setInput level s).cdr = s.cdr ∧ (setInput level s).pcu = s.pcu ∧
    (setInput level s).tru = s.tru ∧ (setInput level s).sht = s.sht ∧ (setInput level s).lkc = s.lkc ∧
    (setInput level s).orq = s.orq ∧ (setInput level s).wrs = s.wrs ∧ (setInput level s).stl.stop = s.stl.stop ∧
    (setInput level s).stl.pause = s.stl.pause := by
  refine ⟨?_, ?_, ?_, ?_, ?_, ?_, ?_, ?_, ?_, ?_, ?_, ?_, ?_, ?_, ?_, ?_, ?_⟩ <;>
    first | rfl | (unfold setInput; (repeat' split) <;> simp; done)

@[simp] theorem stopAsserted_frame (returnSwitch : Bool) (s : State) :
    (stopAsserted returnSwitch s).inReset = s.inReset ∧ (stopAsserted returnSwitch s).node = s.node ∧
    (stopAsserted returnSwitch s).settings = s.settings ∧ (stopAsserted returnSwitch s).now = s.now ∧
    (stopAsserted returnSwitch s).pending = s.pending ∧ (stopAsserted returnSwitch s).wsq.isolated = s.wsq.isolated ∧
    (stopAsserted returnSwitch s).pcu.clamp = s.pcu.clamp ∧ (stopAsserted returnSwitch s).sht.clock = s.sht.clock ∧
    (stopAsserted returnSwitch s).sht.ownDigest = s.sht.ownDigest ∧
    (stopAsserted returnSwitch s).orq.heldList = s.orq.heldList ∧
    (stopAsserted returnSwitch s).orq.arrivals = s.orq.arrivals ∧
    (stopAsserted returnSwitch s).wrs.counter = s.wrs.counter ∧
    (stopAsserted returnSwitch s).wrs.slots = s.wrs.slots := by
  refine ⟨?_, ?_, ?_, ?_, ?_, ?_, ?_, ?_, ?_, ?_, ?_, ?_, ?_⟩ <;>
    (simp only [stopAsserted]; (repeat' split) <;> (try simp) <;> (repeat' split) <;> (try simp) <;> (repeat' split) <;> simp)

@[simp] theorem stopDeasserted_frame (s : State) :
    (stopDeasserted s).inReset = s.inReset ∧ (stopDeasserted s).node = s.node ∧
    (stopDeasserted s).settings = s.settings ∧ (stopDeasserted s).now = s.now ∧
    (stopDeasserted s).pending = s.pending ∧ (stopDeasserted s).free = s.free ∧ (stopDeasserted s).wsq = s.wsq ∧
    (stopDeasserted s).flash = s.flash ∧ (stopDeasserted s).cdr = s.cdr ∧ (stopDeasserted s).pcu = s.pcu ∧
    (stopDeasserted s).tru = s.tru ∧ (stopDeasserted s).sht = s.sht ∧ (stopDeasserted s).lkc = s.lkc ∧
    (stopDeasserted s).orq = s.orq ∧ (stopDeasserted s).wrs = s.wrs ∧ (stopDeasserted s).stl.stop = s.stl.stop ∧
    (stopDeasserted s).stl.pause = s.stl.pause := by
  refine ⟨?_, ?_, ?_, ?_, ?_, ?_, ?_, ?_, ?_, ?_, ?_, ?_, ?_, ?_, ?_, ?_, ?_⟩ <;>
    first | rfl | (unfold stopDeasserted; (repeat' split) <;> simp; done)

@[simp] theorem releaseEnds_frame (s : State) :
    (releaseEnds s).inReset = s.inReset ∧ (releaseEnds s).node = s.node ∧ (releaseEnds s).settings = s.settings ∧
    (releaseEnds s).now = s.now ∧ (releaseEnds s).pending = s.pending ∧ (releaseEnds s).free = s.free ∧
    (releaseEnds s).wsq = s.wsq ∧ (releaseEnds s).flash = s.flash ∧ (releaseEnds s).cdr = s.cdr ∧
    (releaseEnds s).pcu = s.pcu ∧ (releaseEnds s).tru = s.tru ∧ (releaseEnds s).sht = s.sht ∧
    (releaseEnds s).stl.pause = s.stl.pause ∧ (releaseEnds s).orq.heldList = s.orq.heldList ∧
    (releaseEnds s).orq.arrivals = s.orq.arrivals ∧ (releaseEnds s).wrs.counter = s.wrs.counter ∧
    (releaseEnds s).wrs.slots = s.wrs.slots := by
  refine ⟨?_, ?_, ?_, ?_, ?_, ?_, ?_, ?_, ?_, ?_, ?_, ?_, ?_, ?_, ?_, ?_, ?_⟩ <;>
    first | rfl | (unfold releaseEnds; (repeat' split) <;> simp; done)

@[simp] theorem sagCounts_frame (s : State) :
    (sagCounts s).inReset = s.inReset ∧ (sagCounts s).node = s.node ∧ (sagCounts s).settings = s.settings ∧
    (sagCounts s).now = s.now ∧ (sagCounts s).pending = s.pending ∧ (sagCounts s).wsq.isolated = s.wsq.isolated ∧
    (sagCounts s).pcu.clamp = s.pcu.clamp ∧ (sagCounts s).stl.stop = s.stl.stop ∧
    (sagCounts s).sht.clock = s.sht.clock ∧ (sagCounts s).sht.ownDigest = s.sht.ownDigest ∧
    (sagCounts s).orq.heldList = s.orq.heldList ∧ (sagCounts s).orq.arrivals = s.orq.arrivals ∧
    (sagCounts s).wrs.counter = s.wrs.counter ∧ (sagCounts s).wrs.slots = s.wrs.slots := by
  refine ⟨?_, ?_, ?_, ?_, ?_, ?_, ?_, ?_, ?_, ?_, ?_, ?_, ?_, ?_⟩ <;>
    (simp only [sagCounts]; (repeat' split) <;> (try simp) <;> (repeat' split) <;> (try simp) <;> (repeat' split) <;> simp)

@[simp] theorem pauseTimesOut_drawingEndedIfIdle_frame (s : State) :
    (pauseTimesOut.drawingEndedIfIdle s).inReset = s.inReset ∧ (pauseTimesOut.drawingEndedIfIdle s).node = s.node ∧
    (pauseTimesOut.drawingEndedIfIdle s).settings = s.settings ∧ (pauseTimesOut.drawingEndedIfIdle s).now = s.now ∧
    (pauseTimesOut.drawingEndedIfIdle s).pending = s.pending ∧ (pauseTimesOut.drawingEndedIfIdle s).free = s.free ∧
    (pauseTimesOut.drawingEndedIfIdle s).wsq = s.wsq ∧ (pauseTimesOut.drawingEndedIfIdle s).cdr = s.cdr ∧
    (pauseTimesOut.drawingEndedIfIdle s).tru = s.tru ∧ (pauseTimesOut.drawingEndedIfIdle s).sht = s.sht ∧
    (pauseTimesOut.drawingEndedIfIdle s).lkc = s.lkc ∧ (pauseTimesOut.drawingEndedIfIdle s).orq = s.orq ∧
    (pauseTimesOut.drawingEndedIfIdle s).wrs = s.wrs ∧ (pauseTimesOut.drawingEndedIfIdle s).pcu.clamp = s.pcu.clamp ∧
    (pauseTimesOut.drawingEndedIfIdle s).stl.stop = s.stl.stop := by
  refine ⟨?_, ?_, ?_, ?_, ?_, ?_, ?_, ?_, ?_, ?_, ?_, ?_, ?_, ?_, ?_⟩ <;>
    (simp only [pauseTimesOut.drawingEndedIfIdle]; (repeat' split) <;> (try simp) <;> (repeat' split) <;> (try simp) <;> (repeat' split) <;> simp)

@[simp] theorem pauseTimesOut_frame (s : State) :
    (pauseTimesOut s).inReset = s.inReset ∧ (pauseTimesOut s).node = s.node ∧
    (pauseTimesOut s).settings = s.settings ∧ (pauseTimesOut s).now = s.now ∧ (pauseTimesOut s).pending = s.pending ∧
    (pauseTimesOut s).wsq.isolated = s.wsq.isolated ∧ (pauseTimesOut s).pcu.clamp = s.pcu.clamp ∧
    (pauseTimesOut s).stl.stop = s.stl.stop ∧ (pauseTimesOut s).sht.clock = s.sht.clock ∧
    (pauseTimesOut s).sht.ownDigest = s.sht.ownDigest ∧ (pauseTimesOut s).orq.heldList = s.orq.heldList ∧
    (pauseTimesOut s).orq.arrivals = s.orq.arrivals ∧ (pauseTimesOut s).wrs.counter = s.wrs.counter ∧
    (pauseTimesOut s).wrs.slots = s.wrs.slots := by
  refine ⟨?_, ?_, ?_, ?_, ?_, ?_, ?_, ?_, ?_, ?_, ?_, ?_, ?_, ?_⟩ <;>
    (simp only [pauseTimesOut]; (repeat' split) <;> (try simp) <;> (repeat' split) <;> (try simp) <;> (repeat' split) <;> simp)

end Sys2Proof.Machine
end

