-- ==== Sys2Proof/Laws/ClockFrame.lean ====
section
/-! SUPPORT. What each operation of Machine/Clock.lean leaves as it was. -/

namespace Sys2Proof.Machine

@[simp] theorem millisecond_frame (s : State) :
    (millisecond s).inReset = s.inReset ∧ (millisecond s).node = s.node ∧ (millisecond s).settings = s.settings ∧
    (millisecond s).pending = s.pending ∧ (millisecond s).free = s.free ∧ (millisecond s).orq = s.orq ∧
    (millisecond s).wrs.counter = s.wrs.counter ∧ (millisecond s).wrs.slots = s.wrs.slots := by
  refine ⟨?_, ?_, ?_, ?_, ?_, ?_, ?_, ?_⟩ <;>
    first | rfl | (unfold millisecond; (repeat' split) <;> simp; done)

@[simp] theorem idle_frame (s : State) :
    (idle s).inReset = s.inReset ∧ (idle s).node = s.node ∧ (idle s).settings = s.settings ∧
    (idle s).pending = s.pending ∧ (idle s).free = s.free ∧ (idle s).orq = s.orq ∧
    (idle s).wrs.counter = s.wrs.counter ∧ (idle s).wrs.slots = s.wrs.slots := by
  refine ⟨?_, ?_, ?_, ?_, ?_, ?_, ?_, ?_⟩ <;>
    first | rfl | (unfold idle; (repeat' split) <;> simp; done)

end Sys2Proof.Machine
end

