-- ==== Sys2Proof/Laws/Orders.lean ====
section
/-! SUPPORT. What an order that is handled at once does: how the frames it sends join those handed to LKC, and that the
delivery around it only frees the line and restarts the idle timer. -/

namespace Sys2Proof.Machine

theorem armWait_eq (s : State) : ∃ w, armWait s = { s with lkc.wait := w } := by
  unfold armWait; split <;> exact ⟨_, rfl⟩

theorem lineFree_eq (s : State) : ∃ w, lineFree s = { s with lkc.wait := w, lkc.lineBusy := false } := by
  obtain ⟨w, e⟩ := armWait_eq { s with lkc.lineBusy := false }
  exact ⟨w, e⟩

/-- A frame whose placing means nothing to its block joins the end of what is handed to LKC. -/
theorem sendOther_outgoing (f : TxFrame) (s : State)
    (h : f.purpose = .answer ∨ f.purpose = .notice ∨ f.purpose = .restartAnswer) :
    ∃ w q l, sendOther f s = { s with lkc.wait := w, lkc.queue := q, lkc.waiters := l } ∧
      q ++ l = outgoing s ++ [f] := by
  unfold sendOther
  split
  · obtain ⟨w, e⟩ := armWait_eq (placed f.purpose { s with lkc.queue := s.lkc.queue ++ [f] })
    refine ⟨w, s.lkc.queue ++ [f], [], ?_⟩
    rcases h with h | h | h <;> simp_all [placed, outgoing]
  · exact ⟨s.lkc.wait, s.lkc.queue, s.lkc.waiters ++ [f], by simp, by simp [outgoing]⟩

/-- Any frame: LKC's lists gain it, and the block that made it takes note when it is placed at once. -/
theorem sendOther_eq (f : TxFrame) (s : State) :
    ∃ w, sendOther f s =
      if s.lkc.queue.length < queueSize ∧ s.lkc.waiters = [] then
        { placed f.purpose { s with lkc.queue := s.lkc.queue ++ [f] } with lkc.wait := w }
      else { s with lkc.waiters := s.lkc.waiters ++ [f] } := by
  unfold sendOther
  split
  · obtain ⟨w, e⟩ := armWait_eq (placed f.purpose { s with lkc.queue := s.lkc.queue ++ [f] })
    refine ⟨w, ?_⟩
    rw [e]
  · exact ⟨none, rfl⟩

/-- Any frame joins the end of what is handed to LKC. -/
@[simp] theorem outgoing_sendOther (f : TxFrame) (s : State) : outgoing (sendOther f s) = outgoing s ++ [f] := by
  obtain ⟨w, e⟩ := sendOther_eq f s
  rw [e]
  split
  · rename_i room
    unfold placed
    (repeat' split) <;> simp [outgoing, room.2]
  · simp [outgoing]

theorem restartIdle_lineFree (b : OrderBody) (s : State) :
    ∃ w i, restartIdle b (lineFree s) =
      { s with lkc.wait := w, lkc.lineBusy := false, wsq.idleTimer := i } := by
  obtain ⟨w, e⟩ := lineFree_eq s
  simp only [e, restartIdle]
  split <;> exact ⟨_, _, rfl⟩

theorem noOutgoing_lineFree (s : State) : noOutgoing (lineFree s) = noOutgoing s := by
  obtain ⟨w, e⟩ := lineFree_eq s
  rw [e]; rfl

theorem takeHeldOrders_nil (s : State) (h : s.orq.heldList = []) : takeHeldOrders s = s := by
  unfold takeHeldOrders
  split
  · simp only [h, List.foldl_nil]; rw [← h]
  · rfl

/-- A well-formed order that is handled at once is dispatched on the state with the line free and the idle timer
restarted. -/
theorem receiveOrder_now (src : Nat) (b : OrderBody) (s : State) (h : takesOrdersNow s) (wf : b.wellFormed = true)
    (held : (dispatchOrder src b (restartIdle b (lineFree s))).orq.heldList = []) :
    receiveOrder src b s = dispatchOrder src b (restartIdle b (lineFree s)) := by
  obtain ⟨a1, a2, a3, a4, a5, a6, a7⟩ := h
  have hl : s.wsq.station ≠ .loading := by intro e; simp [State.configured, e] at a2
  have hu : s.wsq.station ≠ .unconfigured := by intro e; simp [State.configured, e] at a2
  have e1 : deliverOrder ⟨src, b⟩ (lineFree s) = dispatchOrder src b (restartIdle b (lineFree s)) := by
    have := noOutgoing_lineFree s
    simp [deliverOrder, this, a5, takeOrder, toHold, a3, a4, handleOrder, refusedUnconfigured, hu, wf, a7]
  rw [receiveOrder, if_neg (by simp [a1, hl]), e1, takeHeldOrders_nil _ held]

end Sys2Proof.Machine
end

