-- ==== Sys2Proof/Laws/Holds.lean ====
section
/-! SUPPORT. What FAULT_HOLD entry does where no abort path is under way (R8, R123): the platen, the trimmer, the drive and
the pause, and nothing of the share table, the link, the orders or the store; and what the report of a hold sends of a clamp
order. -/

namespace Sys2Proof.Machine

/-- The drive off report finds nobody waiting for it in a held station without an abort path. -/
theorem driveOffReport_held (s : State) (a : s.wsq.abort = none) (m : s.motionHeld = true) : driveOffReport s = s := by
  simp [driveOffReport, contactStepEnds, abortStepEnds, awaitsDriveOff, a, m]

/-- Blocking the drive changes CDR only, and leaves it BLOCKED. -/
theorem blockDrive_eq (s : State) : ∃ c, blockDrive s = { s with cdr := c } ∧ c.drive = .blocked := by
  unfold blockDrive cutRunning creditEnergy divideCycle; split <;> exact ⟨_, rfl, rfl⟩

/-- In a held station the end of carrier timing changes STL only, and not its stop state. -/
theorem timingStopped_held (s : State) (m : s.motionHeld = true) :
    ∃ x, timingStopped s = { s with stl := x } ∧ x.stop = s.stl.stop := by
  unfold timingStopped
  split
  · refine ⟨{ s.stl with pause := .normal, pauseTimer := none, lostReported := false }, ?_, rfl⟩
    have held : s.wsq.station = .stopped ∨ s.wsq.station = .faultHold := by simpa [State.motionHeld] using m
    rcases held with e | e <;> simp [resumeRecovered, flashResume, State.motionHeld, e]
  · exact ⟨_, rfl, rfl⟩

/-- In a held station the end of a pause changes STL only, and not its stop state. -/
theorem endPause_held (s : State) (m : s.motionHeld = true) :
    ∃ x, endPause s = { s with stl := x } ∧ x.stop = s.stl.stop := by
  unfold endPause
  split
  · refine
      ⟨{ s.stl with
          pause := if recovered s s.stl.volts then .normal else .sag
          deglitched := !recovered s s.stl.volts
          pauseTimer := none
          lostReported := false }, ?_, rfl⟩
    have held : s.wsq.station = .stopped ∨ s.wsq.station = .faultHold := by simpa [State.motionHeld] using m
    rcases held with e | e <;> simp [resumeForced, flashResume, State.motionHeld, e]
  · exact ⟨_, rfl, rfl⟩

/-- An immediate OFF in a held station without an abort path changes CDR and STL only, and leaves the drive BLOCKED. -/
theorem immediateOff_held (s : State) (a : s.wsq.abort = none) (m : s.motionHeld = true) :
    ∃ c x, immediateOff s = { s with cdr := c, stl := x } ∧ c.drive = .blocked ∧ x.stop = s.stl.stop := by
  obtain ⟨c, e, blocked⟩ := blockDrive_eq s
  obtain ⟨x, e', same⟩ := timingStopped_held { s with cdr := c } m
  refine ⟨c, x, ?_, blocked, same⟩
  unfold immediateOff driveOff
  rw [e, e']
  exact driveOffReport_held { s with cdr := c, stl := x } a m

/-- FAULT_HOLD entry without an abort path: what it changes beside CDR and STL stands in `truHold`, `holdWeld`, `stopShoes`,
`platenHold` and `faultStation`. -/
theorem faultHoldEntry_eq (s : State) (a : s.wsq.abort = none) :
    ∃ c x,
      faultHoldEntry s =
        { truHold (holdWeld { stopShoes (platenHold (faultStation s)) with wsq.barred := s.wsq.barred || s.welding }) with
          cdr := c
          stl := x } ∧
      c.drive = .blocked ∧ x.stop = s.stl.stop := by
  have key : ∀ u : State, u.wsq.abort = none → u.motionHeld = true → u.stl.stop = s.stl.stop →
      ∃ c x, immediateOff (endPause u) = { u with cdr := c, stl := x } ∧ c.drive = .blocked ∧ x.stop = s.stl.stop := by
    intro u a m same
    obtain ⟨x, e, e'⟩ := endPause_held u m
    obtain ⟨c, y, e2, blocked, same'⟩ := immediateOff_held { u with stl := x } a m
    exact ⟨c, y, by rw [e, e2], blocked, by rw [same', e', same]⟩
  unfold faultHoldEntry
  apply key
  · simp [truHold, holdWeld, stopEnding, stopStep, stopShoes, platenHold, platenMode, faultStation]
    (repeat' split) <;> simp_all
  · simp only [State.motionHeld, truHold_frame, holdWeld_frame, stopShoes_frame, platenHold_frame, faultStation]
    (repeat' split) <;> simp_all
  · simp

/-- FAULT_HOLD entry without an abort path leaves the share table, the link, the orders and the store. -/
theorem faultHoldEntry_apart (s : State) (a : s.wsq.abort = none) :
    (faultHoldEntry s).sht = s.sht ∧ (faultHoldEntry s).lkc = s.lkc ∧ (faultHoldEntry s).orq = s.orq ∧
      (faultHoldEntry s).wrs = s.wrs := by
  obtain ⟨c, x, e, -, -⟩ := faultHoldEntry_eq s a
  rw [e]
  refine ⟨?_, ?_, ?_, ?_⟩ <;>
    (simp [truHold, holdWeld, stopEnding, stopStep, stopShoes, platenHold, platenMode, faultStation]
     ((repeat' split) <;> simp_all))

/-- FAULT_HOLD entry without an abort path keeps the weld phase, and the station is held. -/
theorem faultHoldEntry_held (s : State) (a : s.wsq.abort = none) :
    (faultHoldEntry s).wsq.phase = s.wsq.phase ∧ (faultHoldEntry s).motionHeld = true := by
  obtain ⟨c, x, e, -, -⟩ := faultHoldEntry_eq s a
  rw [e]
  refine ⟨?_, ?_⟩ <;>
    (simp [State.motionHeld, truHold, holdWeld, stopEnding, stopStep, stopShoes, platenHold, platenMode, faultStation]
     ((repeat' split) <;> simp_all))

/-- Of a queue with only its head taken, no order executes once its executing one has ended. -/
theorem executing_endOrder (outcome : OrderOutcome) (reason : Reason) (weldNo : Option Nat) (s : State)
    (waiting : ∀ o ∈ s.orq.queue.tail, o.status = .waiting) : executing (endOrder outcome reason weldNo s) = none := by
  unfold endOrder
  split
  · assumption
  · rename_i o ho
    obtain ⟨w, e⟩ := sendOther_eq (doneNotice o outcome reason weldNo .doneNotice)
      { s with orq.queue := setHead .ended s.orq.queue }
    rw [e]
    unfold executing at ho ⊢
    cases hq : s.orq.queue with
    | nil => simp [hq] at ho
    | cons a l =>
      rw [hq] at waiting
      split
      · cases l with
        | nil => simp [placed, setHead, popEnded, doneNotice]
        | cons b l =>
          have := waiting b (by simp)
          simp [placed, setHead, popEnded, doneNotice, this]
      · simp [setHead]

/-- A weld left in a held station, with no order executing, sends nothing. -/
theorem endWeld_held (outcome : OrderOutcome) (reason : Reason) (weldNo : Option Nat) (s : State)
    (h : executing s = none) (m : s.motionHeld = true) : (endWeld outcome reason weldNo s).lkc = s.lkc := by
  have left : ∃ w p, leaveWeld s = { s with wsq := w, pcu := p } := by
    simp only [leaveWeld, m, if_true]
    exact ⟨_, _, rfl⟩
  obtain ⟨w, p, e⟩ := left
  have idle : executing { s with wsq := w, pcu := p } = none := h
  simp [endWeld, e, endOrder, idle]

/-- With no order executing, the end of a begun ending in a held station sends nothing. -/
theorem endBegunEnding_held (s : State) (h : executing s = none) (m : s.motionHeld = true) :
    (endBegunEnding s).lkc = s.lkc := by
  unfold endBegunEnding
  split
  · split
    · exact endWeld_held _ _ _ s h m
    · rfl
  · rfl

/-- CLAMP_SLIP or SENSOR_FAULT reported while a clamp order executes and no weld is in progress sends the order's FAILED notice,
and nothing else (R8). -/
theorem reportHold_clampOrder (code : FaultCode) (s : State) (o : QueuedOrder)
    (waiting : ∀ o ∈ s.orq.queue.tail, o.status = .waiting) (applies : holdApplies s = true)
    (moving : s.wsq.station = .clamping ∨ s.wsq.station = .unclamping) (ho : executing s = some o)
    (phase : s.wsq.phase = none) (abort : s.wsq.abort = none) :
    outgoing (reportHold code s) =
      outgoing s ++ [⟨.notice, o.src, doneBody o.tag o.kind.code .failed (.fault code) none, .doneNotice⟩] := by
  have unheld : s.wsq.station ≠ .faultHold := by rcases moving with e | e <;> simp [e]
  have ends : failClampOrder (.fault code) s = endOrder .failed (.fault code) none { s with wsq.clampFail := none } := by
    simp only [failClampOrder, moving, if_true]
  have noneLeft : executing (failClampOrder (.fault code) s) = none := by
    rw [ends]; exact executing_endOrder _ _ _ _ waiting
  have sent : outgoing (failClampOrder (.fault code) s) =
      outgoing s ++ [⟨.notice, o.src, doneBody o.tag o.kind.code .failed (.fault code) none, .doneNotice⟩] := by
    have : executing { s with wsq.clampFail := none } = some o := ho
    rw [ends, endOrder, this, outgoing_sendOther]
    rfl
  have noAbort : (clampsStop (failClampOrder (.fault code) s)).wsq.abort = none := by rw [ends]; simp [abort]
  obtain ⟨-, lkc, orq, -⟩ := faultHoldEntry_apart _ noAbort
  obtain ⟨ph, held⟩ := faultHoldEntry_held _ noAbort
  generalize hu : faultHoldEntry (clampsStop (failClampOrder (.fault code) s)) = u at lkc orq ph held
  have filed : reportFault code u = { u with wsq.lastFault := .fault code } := by
    simp [reportFault, fileFault, tryAbort, ph, phase]
  have idle : executing { u with wsq.lastFault := .fault code } = none := by
    rw [← noneLeft]; simp only [executing, orq, clampsStop_frame]
  rw [reportHold, if_neg (by simp [applies]), if_neg unheld, hu, filed, outgoing, endBegunEnding_held _ idle held]
  show outgoing u = _
  rw [outgoing, lkc, ← sent, outgoing]; simp

end Sys2Proof.Machine
end

