-- ==== Sys2Proof/Laws/Link.lean ====
section
/-! SUPPORT. What placing a share frame and reporting a drop do, once: the transmit queue after a share frame (R154, R156),
and the report of a dropped frame at its block (R131, R167, R175). -/

namespace Sys2Proof.Machine

/-- With the claim-present flag clear, a peer's drawing flag leaves no trace in its entry (R148). -/
theorem reportedFlags_no_claim (b : BeaconBody) (h : b.claimPresent = false) :
    reportedFlags b = beaconFlags false false b.isolated b.aborting := by simp [reportedFlags, h]

/-- A drop report changes no queued frame. -/
@[simp] theorem reportDropped_queue (p : Purpose) (s : State) : (reportDropped p s).lkc.queue = s.lkc.queue := by
  cases p <;> simp only [reportDropped, claimDropped, startSettle, recordReported] <;> (repeat' split) <;> rfl

/-- Where a share frame stands in the transmit queue, except among six beacons. -/
theorem sendShare_queue (f : TxFrame) (s : State)
    (h : s.lkc.queue.length < 6 ∨ ∃ g ∈ s.lkc.queue, g.kind ≠ .beacon) :
    (sendShare f s).lkc.queue = shareQueued f s.lkc.queue := by
  have taken : claimOrYield = fun g : TxFrame => decide (g.kind = .claim ∨ g.kind = .yield) := by
    funext g; simp only [claimOrYield]; cases g.kind <;> rfl
  unfold sendShare
  split
  · rename_i room
    obtain ⟨w, e⟩ := armWait_eq { s with lkc.queue := insertShare f s.lkc.queue }
    rw [e]
    simp only [queueSize] at room
    simp [shareQueued, insertShare, room]
  · rename_i hl
    simp only [queueSize] at hl
    cases hv : victim s.lkc.queue with
    | none =>
      exfalso
      unfold victim at hv
      split at hv
      · rename_i ha
        obtain ⟨g, hg, hk⟩ := h.resolve_left hl
        simp only [List.find?_eq_none, claimOrYield] at hv
        have h1 := hv g hg
        have h2 := (List.all_eq_true.1 ha) g hg
        cases hk' : g.kind <;> simp_all [FrameKind.isShare]
      · rw [List.getLast?_eq_none_iff] at hv
        rw [hv] at hl
        exact hl (by decide)
    | some v => simp [shareQueued, insertShare, withoutVictim, hl, taken]

/-- The claim of the drop report is the station's own, or it is not. -/
theorem ownClaimIs_iff (s : State) (n : Nat) : ownClaimIs s n = true ↔ ∃ c, s.ownClaim = some c ∧ c.number = n := by
  unfold ownClaimIs
  cases s.ownClaim <;> simp

/-- What a drop report does. -/
theorem reportDropped_reports (p : Purpose) (s : State) : dropReported s (reportDropped p s) p := by
  unfold dropReported
  cases p
  case claim n =>
    simp only [reportDropped, claimDropped, startSettle, ← ownClaimIs_iff]
    refine ⟨?_, ?_, ?_, ?_, ?_⟩
    · intro m e own
      cases e
      simp only [own, if_true]
      refine ⟨fun b => ?_, fun b => by simp [b]⟩
      simp only [b, if_true]
      cases s.sht.settleTimer <;> cases s.sht.settleFlag <;> simp_all [State.shr]
    · intro no
      rw [if_neg (no n rfl)]
    all_goals ((repeat' split) <;> simp_all)
  case recordPart part id =>
    simp only [reportDropped, recordReported, endRead]
    refine ⟨?_, ?_, ?_, ?_, ?_⟩
    · intro n e; cases e
    · intro _; split <;> rfl
    · split <;> simp
    · intro m e; cases e; simp only [if_true]; congr 2
    · intro no
      have : part ≠ 2 := fun e => no id (by rw [e])
      simp [this]
  all_goals simp [reportDropped]

end Sys2Proof.Machine
end

