-- ==== Sys2Proof/Laws/PerInstr.lean ====
section
/-! SUPPORT. Statements made command by command. NoWordSpells: the command is spelt by no word, since the opcode table gives
no row any bits; the link frames that carry commands are read by Machine/Receive.lean. -/

namespace Sys2Proof.Laws.NoWordSpells

/-- No word decodes to the command. -/
def Statement (i : Instr) : Prop := ∀ nbits w : Nat, decodeTableWord nbits w ≠ some i

theorem powerOn : Statement .powerOn := fun _ _ h => nomatch h
theorem hardReset : Statement .hardReset := fun _ _ h => nomatch h
theorem resetEnd (straps : Nat) (first : FieldSample) (returnSwitch : Bool) : Statement (.resetEnd straps first returnSwitch) := fun _ _ h => nomatch h
theorem restartReset (straps : Nat) (first : FieldSample) (returnSwitch : Bool) : Statement (.restartReset straps first returnSwitch) := fun _ _ h => nomatch h
theorem settingsReadComplete (image : Option (List Byte)) : Statement (.settingsReadComplete image) := fun _ _ h => nomatch h
theorem loadingTimeLimit : Statement .loadingTimeLimit := fun _ _ h => nomatch h
theorem listeningWindowEnd : Statement .listeningWindowEnd := fun _ _ h => nomatch h
theorem recoveryCoolingExpiry : Statement .recoveryCoolingExpiry := fun _ _ h => nomatch h
theorem idleTimerExpiry : Statement .idleTimerExpiry := fun _ _ h => nomatch h
theorem wakeTimeEnd (returnSwitch : Bool) : Statement (.wakeTimeEnd returnSwitch) := fun _ _ h => nomatch h
theorem takeHeadOrder (railTemp : Option Int) : Statement (.takeHeadOrder railTemp) := fun _ _ h => nomatch h
theorem orderClamp (src tag sched : Nat) : Statement (.orderClamp src tag sched) := fun _ _ h => nomatch h
theorem orderWeld (src tag sched : Nat) (kind : WeldKind) (neutral : Int) : Statement (.orderWeld src tag sched kind neutral) := fun _ _ h => nomatch h
theorem orderUnclamp (src tag : Nat) : Statement (.orderUnclamp src tag) := fun _ _ h => nomatch h
theorem abort (src tag target : Nat) : Statement (.abort src tag target) := fun _ _ h => nomatch h
theorem clear (src tag : Nat) : Statement (.clear src tag) := fun _ _ h => nomatch h
theorem status (src tag selector part : Nat) : Statement (.status src tag selector part) := fun _ _ h => nomatch h
theorem adjust (src tag : Nat) (trip speed force : Int) : Statement (.adjust src tag trip speed force) := fun _ _ h => nomatch h
theorem readRecord (src tag weldNo : Nat) : Statement (.readRecord src tag weldNo) := fun _ _ h => nomatch h
theorem releaseHold (src tag weldNo : Nat) : Statement (.releaseHold src tag weldNo) := fun _ _ h => nomatch h
theorem rest (src tag : Nat) : Statement (.rest src tag) := fun _ _ h => nomatch h
theorem restart (src tag : Nat) : Statement (.restart src tag) := fun _ _ h => nomatch h
theorem badOrder (src : Nat) (body : List Byte) : Statement (.badOrder src body) := fun _ _ h => nomatch h
theorem arrivalListHandling : Statement .arrivalListHandling := fun _ _ h => nomatch h
theorem outgoingFrameQueued : Statement .outgoingFrameQueued := fun _ _ h => nomatch h
theorem recordPartQueued : Statement .recordPartQueued := fun _ _ h => nomatch h
theorem beaconReceived (src : Nat) (body : BeaconBody) : Statement (.beaconReceived src body) := fun _ _ h => nomatch h
theorem claimReceived (src number demand : Nat) : Statement (.claimReceived src number demand) := fun _ _ h => nomatch h
theorem yieldReceived (src number : Nat) : Statement (.yieldReceived src number) := fun _ _ h => nomatch h
theorem frameDiscarded (frame : List Byte) : Statement (.frameDiscarded frame) := fun _ _ h => nomatch h
theorem lineActivity : Statement .lineActivity := fun _ _ h => nomatch h
theorem mediumAccessWaitEnd : Statement .mediumAccessWaitEnd := fun _ _ h => nomatch h
theorem linkRestCleared : Statement .linkRestCleared := fun _ _ h => nomatch h
theorem frameTransmitted : Statement .frameTransmitted := fun _ _ h => nomatch h
theorem collision : Statement .collision := fun _ _ h => nomatch h
theorem beaconTimerExpiry : Statement .beaconTimerExpiry := fun _ _ h => nomatch h
theorem settleWindowExpiry : Statement .settleWindowExpiry := fun _ _ h => nomatch h
theorem claimWaitExpiry : Statement .claimWaitExpiry := fun _ _ h => nomatch h
theorem lossTimerExpiry (peer : Nat) : Statement (.lossTimerExpiry peer) := fun _ _ h => nomatch h
theorem drainExpiry (station : Nat) : Statement (.drainExpiry station) := fun _ _ h => nomatch h
theorem clampForceReached : Statement .clampForceReached := fun _ _ h => nomatch h
theorem clampReleased : Statement .clampReleased := fun _ _ h => nomatch h
theorem clampTimerExpiry : Statement .clampTimerExpiry := fun _ _ h => nomatch h
theorem slipDetected : Statement .slipDetected := fun _ _ h => nomatch h
theorem slipRearmed : Statement .slipRearmed := fun _ _ h => nomatch h
theorem implausibleSample : Statement .implausibleSample := fun _ _ h => nomatch h
theorem plausibilityRearm : Statement .plausibilityRearm := fun _ _ h => nomatch h
theorem movementTargetReached : Statement .movementTargetReached := fun _ _ h => nomatch h
theorem movementTimerExpiry : Statement .movementTimerExpiry := fun _ _ h => nomatch h
theorem forceReached : Statement .forceReached := fun _ _ h => nomatch h
theorem shoeMeasurementEnd (microohm : Nat) : Statement (.shoeMeasurementEnd microohm) := fun _ _ h => nomatch h
theorem touchContact : Statement .touchContact := fun _ _ h => nomatch h
theorem touchReserveReached : Statement .touchReserveReached := fun _ _ h => nomatch h
theorem touchTimerExpiry : Statement .touchTimerExpiry := fun _ _ h => nomatch h
theorem pullDrift : Statement .pullDrift := fun _ _ h => nomatch h
theorem advanceContact : Statement .advanceContact := fun _ _ h => nomatch h
theorem advanceTimerExpiry : Statement .advanceTimerExpiry := fun _ _ h => nomatch h
theorem contactIntervalExpiry : Statement .contactIntervalExpiry := fun _ _ h => nomatch h
theorem openIntervalExpiry : Statement .openIntervalExpiry := fun _ _ h => nomatch h
theorem burnOffReached : Statement .burnOffReached := fun _ _ h => nomatch h
theorem boostDistanceReached : Statement .boostDistanceReached := fun _ _ h => nomatch h
theorem streakTimerExpiry : Statement .streakTimerExpiry := fun _ _ h => nomatch h
theorem flashLostExpiry : Statement .flashLostExpiry := fun _ _ h => nomatch h
theorem flashTimeExpiry : Statement .flashTimeExpiry := fun _ _ h => nomatch h
theorem upsetCurrentDistance : Statement .upsetCurrentDistance := fun _ _ h => nomatch h
theorem upsetTimeExpiry : Statement .upsetTimeExpiry := fun _ _ h => nomatch h
theorem pullSettlePoint : Statement .pullSettlePoint := fun _ _ h => nomatch h
theorem holdTimeExpiry : Statement .holdTimeExpiry := fun _ _ h => nomatch h
theorem trimWindowExpiry : Statement .trimWindowExpiry := fun _ _ h => nomatch h
theorem endSwitchMade : Statement .endSwitchMade := fun _ _ h => nomatch h
theorem dwellEnd : Statement .dwellEnd := fun _ _ h => nomatch h
theorem returnSwitchMade : Statement .returnSwitchMade := fun _ _ h => nomatch h
theorem trimStrokeTimerExpiry : Statement .trimStrokeTimerExpiry := fun _ _ h => nomatch h
theorem coolingTimeExpiry : Statement .coolingTimeExpiry := fun _ _ h => nomatch h
theorem recordWriteComplete : Statement .recordWriteComplete := fun _ _ h => nomatch h
theorem carrierCycleEnd : Statement .carrierCycleEnd := fun _ _ h => nomatch h
theorem halfCycleEnd (samples : List DriveSample) (integral : Nat) : Statement (.halfCycleEnd samples integral) := fun _ _ h => nomatch h
theorem pulseTrip : Statement .pulseTrip := fun _ _ h => nomatch h
theorem blankingEnd (reading : DriveReading) : Statement (.blankingEnd reading) := fun _ _ h => nomatch h
theorem offTimeEnd : Statement .offTimeEnd := fun _ _ h => nomatch h
theorem conductionWindowEnd : Statement .conductionWindowEnd := fun _ _ h => nomatch h
theorem overcurrent : Statement .overcurrent := fun _ _ h => nomatch h
theorem eStopAsserted (returnSwitch : Bool) : Statement (.eStopAsserted returnSwitch) := fun _ _ h => nomatch h
theorem eStopDeasserted : Statement .eStopDeasserted := fun _ _ h => nomatch h
theorem releaseDebounceExpiry : Statement .releaseDebounceExpiry := fun _ _ h => nomatch h
theorem busVoltageSample (volts : Nat) : Statement (.busVoltageSample volts) := fun _ _ h => nomatch h
theorem sagDeglitchExpiry : Statement .sagDeglitchExpiry := fun _ _ h => nomatch h
theorem pauseTimerExpiry : Statement .pauseTimerExpiry := fun _ _ h => nomatch h
theorem pcuSample (sample : FieldSample) : Statement (.pcuSample sample) := fun _ _ h => nomatch h

end Sys2Proof.Laws.NoWordSpells
end

