-- ==== Sys2Proof/Laws/State.lean ====
section
/-! SUPPORT. What the small updates write: one lemma per field, so that no later proof unfolds an update. What each leaves as
it was stands in the frame files beside this one. -/

namespace Sys2Proof.Machine

/-! ### Station and order -/

theorem startTopUp_wsq (s : State) : (startTopUp s).wsq = s.wsq := by
  unfold startTopUp; split <;> rfl

theorem makeTopUp_wsq (s : State) :
    (makeTopUp s).wsq.station = s.wsq.station ∧ (makeTopUp s).wsq.idleTimer = s.wsq.idleTimer := by
  unfold makeTopUp
  split
  · rw [startTopUp_wsq]; exact ⟨rfl, rfl⟩
  · exact ⟨rfl, rfl⟩

@[simp] theorem clearClampForce_inUse (s : State) : (clearClampForce s).pcu.clampForceInUse = none := rfl

@[simp] theorem setIsolated_isolated (s : State) : (setIsolated s).wsq.isolated = true := rfl

theorem setStation_station (st : StationState) (s : State) : (setStation st s).wsq.station = st := by
  unfold setStation; rw [(makeTopUp_wsq _).1]

theorem setStation_idleTimer (st : StationState) (s : State) :
    (setStation st s).wsq.idleTimer = if st = .idle then idleStart s else none := by
  unfold setStation; rw [(makeTopUp_wsq _).2]

/-! ### Platen and clamps -/

theorem platenMode_mode (m : PlatenMode) (s : State) :
    (platenMode m s).pcu.mode = if s.stl.stop = .run then m else .hold := rfl

@[simp] theorem platenMode_moveTimer (m : PlatenMode) (s : State) : (platenMode m s).pcu.moveTimer = none := rfl

@[simp] theorem platenMode_contactMove (m : PlatenMode) (s : State) : (platenMode m s).pcu.contactMove = .none := rfl

@[simp] theorem platenMode_contactSense (m : PlatenMode) (s : State) : (platenMode m s).pcu.contactSense = false := rfl

@[simp] theorem platenHold_mode (s : State) : (platenHold s).pcu.mode = .hold := by
  unfold platenHold platenMode; split <;> rfl

@[simp] theorem stopShoes_shoe (s : State) : (stopShoes s).pcu.shoe = none := rfl

@[simp] theorem stopShoes_shoeTimer (s : State) : (stopShoes s).pcu.shoeTimer = none := rfl

@[simp] theorem armSlip_slip (s : State) : (armSlip s).pcu.slip = .armed := rfl

@[simp] theorem clampMove_clamp (st : ClampState) (v : ClampValve) (r : Bool) (s : State) :
    (clampMove st v r s).pcu.clamp = some st := rfl

@[simp] theorem clampMove_valve (st : ClampState) (v : ClampValve) (r : Bool) (s : State) :
    (clampMove st v r s).pcu.clampValve = v := rfl

@[simp] theorem endTopUp_topUp (s : State) : (endTopUp s).pcu.topUp = false := rfl

@[simp] theorem endTopUp_valve (s : State) : (endTopUp s).pcu.clampValve = .hold := rfl

@[simp] theorem clampsStop_valve (s : State) : (clampsStop s).pcu.clampValve = .hold := by
  unfold clampsStop; (repeat' split) <;> rfl

/-! ### Trimmer -/

@[simp] theorem truHold_valve (s : State) : (truHold s).tru.valve = .hold := by
  unfold truHold; split <;> rfl

@[simp] theorem truFirstSample_state (back : Bool) (s : State) :
    (truFirstSample back s).tru.state = if back then .retracted else .fault := rfl

@[simp] theorem truFirstSample_stopped (back : Bool) (s : State) :
    (truFirstSample back s).tru.stopped = (!back && s.tru.stopped) := rfl

@[simp] theorem startStroke_state (s : State) : (startStroke s).tru.state = .advancing := rfl

@[simp] theorem startReturn_state (s : State) : (startReturn s).tru.state = .returning := rfl

@[simp] theorem truTakeUp_stopped (s : State) : (truTakeUp s).tru.stopped = false := by
  unfold truTakeUp; split <;> rfl

/-! ### The end of a weld -/

@[simp] theorem leaveWeld_phase (s : State) : (leaveWeld s).wsq.phase = none := by
  unfold leaveWeld setStation makeTopUp; simp only []; (repeat' split) <;> simp [startTopUp_wsq] <;> rfl

@[simp] theorem leaveWeld_abort (s : State) : (leaveWeld s).wsq.abort = none := by
  unfold leaveWeld setStation makeTopUp; simp only []; (repeat' split) <;> simp [startTopUp_wsq] <;> rfl

@[simp] theorem leaveWeld_pendingSet (s : State) : (leaveWeld s).wsq.pendingSet = .neutral := by
  unfold leaveWeld setStation makeTopUp; simp only []; (repeat' split) <;> simp [startTopUp_wsq] <;> rfl

@[simp] theorem leaveWeld_inForce (s : State) : (leaveWeld s).wsq.inForce = .neutral := by
  unfold leaveWeld setStation makeTopUp; simp only []; (repeat' split) <;> simp [startTopUp_wsq] <;> rfl

/-! ### Drive -/

@[simp] theorem blockDrive_drive (s : State) : (blockDrive s).cdr.drive = .blocked := rfl

@[simp] theorem blockDrive_mode (s : State) : (blockDrive s).cdr.mode = .off := rfl

@[simp] theorem blockDrive_offPending (s : State) : (blockDrive s).cdr.offPending = false := rfl

@[simp] theorem cutRunning_drive (s : State) : (cutRunning s).cdr.drive = .ready := rfl

@[simp] theorem divideCycle_partEnergy (s : State) :
    (divideCycle s).cdr.partEnergy =
      s.cdr.partEnergy.update (· + (s.cdr.sums.energy - s.cdr.sums.credited)) s.cdr.mode := rfl

@[simp] theorem divideCycle_partMs (s : State) :
    (divideCycle s).cdr.partMs = s.cdr.partMs.update (· + s.cdr.runMs) s.cdr.mode := rfl

@[simp] theorem divideCycle_energy (s : State) : (divideCycle s).cdr.energy = s.cdr.energy := rfl

@[simp] theorem divideCycle_tally (s : State) : (divideCycle s).cdr.tally = s.cdr.tally := rfl

@[simp] theorem divideCycle_runMs (s : State) : (divideCycle s).cdr.runMs = 0 := rfl

@[simp] theorem creditEnergy_energy (s : State) :
    (creditEnergy s).cdr.energy =
      s.cdr.energy.zip (fun e part => min (e + part) (energyTop s.cdr.carrierHz)) (divideCycle s).cdr.partEnergy := rfl

@[simp] theorem creditEnergy_tally (s : State) :
    (creditEnergy s).cdr.tally = s.cdr.tally.zip (· + ·) (divideCycle s).cdr.partMs := rfl

@[simp] theorem creditEnergy_runMs (s : State) : (creditEnergy s).cdr.runMs = 0 := rfl

@[simp] theorem creditEnergy_partEnergy (s : State) : (creditEnergy s).cdr.partEnergy = ⟨0, 0, 0, 0⟩ := rfl

@[simp] theorem creditEnergy_partMs (s : State) : (creditEnergy s).cdr.partMs = ⟨0, 0, 0, 0⟩ := rfl

@[simp] theorem cutRunning_energy (s : State) : (cutRunning s).cdr.energy = (creditEnergy s).cdr.energy := rfl

@[simp] theorem cutRunning_tally (s : State) : (cutRunning s).cdr.tally = (creditEnergy s).cdr.tally := rfl

@[simp] theorem cutRunning_runMs (s : State) : (cutRunning s).cdr.runMs = 0 := rfl

@[simp] theorem setPulse_cdr (p : Pulse) (s : State) : (setPulse p s).cdr = { s.cdr with pulse := p } := rfl

/-! #### Samples taken one after another -/

theorem addSamples_energy (l : List DriveSample) (c : CycleSums) :
    (l.foldl CycleSums.add c).energy = c.energy + (l.map fun d => d.voltage * d.current).sum := by
  induction l generalizing c with
  | nil => simp
  | cons d l ih => simp [ih, CycleSums.add, Int.add_assoc]

theorem addSamples_credited (l : List DriveSample) (c : CycleSums) :
    (l.foldl CycleSums.add c).credited = c.credited := by
  induction l generalizing c with
  | nil => rfl
  | cons d l ih => simp [ih, CycleSums.add]

theorem addSamples_maxCurrent (l : List DriveSample) (c : CycleSums) :
    (l.foldl CycleSums.add c).maxCurrent = (l.map (·.current.natAbs)).foldl max c.maxCurrent := by
  induction l generalizing c with
  | nil => rfl
  | cons d l ih => simp [ih, CycleSums.add]

theorem addSamples_voltage (l : List DriveSample) (c : CycleSums) :
    (l.foldl CycleSums.add c).voltageSum =
        c.voltageSum + ((l.filter (·.conducting)).map (·.voltage.natAbs)).sum ∧
      (l.foldl CycleSums.add c).voltageCount = c.voltageCount + (l.filter (·.conducting)).length := by
  induction l generalizing c with
  | nil => exact ⟨rfl, rfl⟩
  | cons d l ih =>
    obtain ⟨hs, hc⟩ := ih (c.add d)
    simp only [List.foldl_cons, hs, hc]
    cases hd : d.conducting <;> simp [CycleSums.add, hd, Nat.add_assoc, Nat.add_comm]

/-! ### The line -/

@[simp] theorem byteLevels_length (b : Byte) : (byteLevels b).length = 10 := rfl

/-- R147: ten bit times a byte. -/
theorem bitTimes_eq (f : TxFrame) (node : Nat) : f.bitTimes node = 10 * (f.bytes node).length := by
  simp only [TxFrame.bitTimes, TxFrame.levels]
  induction f.bytes node with
  | nil => rfl
  | cons b l ih => simp [ih]; omega

/-! ### Share table -/

@[simp] theorem raiseClock_clock (n : Nat) (s : State) :
    (raiseClock n s).sht.clock = max s.sht.clock (min n top32) := rfl

theorem raiseFromBeacon_le (b : BeaconBody) (s : State) : s.sht.clock ≤ (raiseFromBeacon b s).sht.clock := by
  unfold raiseFromBeacon raiseClock; split <;> simp <;> omega

@[simp] theorem dropOwnClaim_claims (s : State) :
    (dropOwnClaim s).sht.claims = removeClaim s.node s.sht.claims := rfl

@[simp] theorem dropOwnClaim_ownClaim (s : State) : (dropOwnClaim s).ownClaim = none := by
  simp [State.ownClaim, dropOwnClaim, removeClaim]

/-! ### Record store -/

@[simp] theorem startWrite_writing (r : WeldRecord) (s : State) : (startWrite r s).wrs.writing = some r := rfl

@[simp] theorem startWrite_writeTimer (r : WeldRecord) (s : State) : (startWrite r s).wrs.writeTimer = some 50 := rfl

@[simp] theorem weldNumberUpdate_counter (p : WeldPhase) (s : State) :
    (weldNumberUpdate p s).wrs.counter = s.wrs.counter + 1 := rfl

@[simp] theorem weldNumberUpdate_marker (p : WeldPhase) (s : State) :
    (weldNumberUpdate p s).wrs.marker = some (s.wrs.counter + 1, p) := rfl

@[simp] theorem completeWrite_marker (r : WeldRecord) (s : State) : (completeWrite r s).wrs.marker = none := rfl

/-! ### Events -/

theorem onEvent_taken (effect : State → State) (s : State) (h : s.inReset = false) :
    onEvent true effect s = .next (effect s) := by simp [onEvent, h]

theorem onEvent_impossible (effect : State → State) (s : State) : onEvent false effect s = .next s := by
  simp [onEvent]

theorem onEvent_inReset (p : Bool) (effect : State → State) (s : State) (h : s.inReset = true) :
    onEvent p effect s = .next s := by simp [onEvent, h]

end Sys2Proof.Machine
end

