-- ==== Sys2Proof/Tests/Slice0.lean ====
section
/-! SUPPORT. The model's own tests: each operand check refuses an ill-formed command; a few commands on small states; for
every statement with hypotheses, states and operands that meet them, clause by clause. -/

namespace Sys2Proof.Tests

open Sys2Proof Sys2Proof.Machine

/-! ### Operand checks -/

theorem test_wf_straps : Instr.wf (.resetEnd 8 ⟨0, 0, 0, false⟩ true) = false := by decide
theorem test_wf_straps_restart : Instr.wf (.restartReset 8 ⟨0, 0, 0, false⟩ true) = false := by decide
theorem test_wf_sample_position : Instr.wf (.pcuSample ⟨32768, 0, 0, false⟩) = false := by decide
theorem test_wf_sample_force : Instr.wf (.pcuSample ⟨0, -32769, 0, false⟩) = false := by decide
theorem test_wf_sample_pressure : Instr.wf (.pcuSample ⟨0, 0, 65536, false⟩) = false := by decide
theorem test_wf_railTemp : Instr.wf (.takeHeadOrder (some 128)) = false := by decide
theorem test_wf_panel_low : Instr.wf (.clear 7 0) = false := by decide
theorem test_wf_panel_high : Instr.wf (.clear 15 0) = false := by decide
theorem test_wf_queued_tag : Instr.wf (.orderUnclamp 8 16) = false := by decide
theorem test_wf_tag : Instr.wf (.rest 8 256) = false := by decide
theorem test_wf_schedule_byte : Instr.wf (.orderClamp 8 0 256) = false := by decide
theorem test_wf_neutral : Instr.wf (.orderWeld 8 0 0 .join (-129)) = false := by decide
theorem test_wf_target : Instr.wf (.abort 8 0 256) = false := by decide
theorem test_wf_selector : Instr.wf (.status 8 0 256 0) = false := by decide
theorem test_wf_part : Instr.wf (.status 8 0 0 256) = false := by decide
theorem test_wf_offset : Instr.wf (.adjust 8 0 0 128 0) = false := by decide
theorem test_wf_weldNo : Instr.wf (.readRecord 8 0 4294967296) = false := by decide
theorem test_wf_bad_order_fits : Instr.wf (.badOrder 8 [22, 1]) = false := by decide
theorem test_wf_bad_order_long : Instr.wf (.badOrder 8 (List.replicate 65 0)) = false := by decide
theorem test_wf_source : Instr.wf (.claimReceived 15 1 1) = false := by decide
theorem test_wf_claim_number : Instr.wf (.yieldReceived 0 4294967296) = false := by decide
theorem test_wf_demand : Instr.wf (.claimReceived 0 1 65536) = false := by decide
theorem test_wf_beacon : Instr.wf (.beaconReceived 0 ⟨256, 0, false, false, false, false, 0, 0, 0, 0, 0⟩) = false := by
  decide
theorem test_wf_peer : Instr.wf (.lossTimerExpiry 8) = false := by decide
theorem test_wf_station : Instr.wf (.drainExpiry 8) = false := by decide
theorem test_wf_shoe : Instr.wf (.shoeMeasurementEnd 65536) = false := by decide
theorem test_wf_samples : Instr.wf (.halfCycleEnd (List.replicate 33 ⟨0, 0, false⟩) 0) = false := by decide
theorem test_wf_samples_of_reading : Instr.wf (.blankingEnd ⟨some 0, List.replicate 33 ⟨0, 0, false⟩⟩) = false := by decide

/-! ### Small states -/

/-- Settings with a plain value in every field. -/
def settings : Settings where
  shared := ⟨1000, 100, 3, 50, 10, 1, 16⟩
  loc :=
    ⟨600, 800, 1000, 50, 300, 5000, 100, 20, 3000, 2000, 20, 80, 10, 500, 10, 10, 5, 100, 10, 0, 900, 20, 5, 400, 20, 10,
      1000, 100, 2000, 300, 30, 500, 60⟩
  schedules :=
    List.replicate 8
      ⟨300, 1000, 500, 2, 1500, 500, 30, 400, 800, 500, 10, 30, 150, 30, 40, 5, 20, 3, 1500, 64, 150, 300, 60, 30, 600, 25,
        400, 900, 20, 50, 90, 3000, 300, 30, 1, 120, 90, 10, 20, 10⟩

/-- A configured station in a state. -/
def on (st : StationState) : State :=
  { State.reset with inReset := false, node := 2, settings := settings, wsq.station := st, pcu.clamp := some .open }

/-- A weld in a phase, numbered 5, its order executing at the head. -/
def weldIn (p : WeldPhase) : State :=
  { on .welding with
    pcu.clamp := some .closed
    wsq.phase := some p
    wsq.weldNo := some 5
    orq.queue := [⟨9, 1, .weld 0 .join 20, .executing⟩]
    wrs.counter := 5
    wrs.slots := .reserved :: List.replicate 47 .empty
    wrs.working := some ⟨WeldRecord.blank 5 2, 0, false⟩ }

/-- The station's own claim in a state, as number 3. -/
def withClaim (st : ClaimState) (s : State) : State :=
  { s with sht.claims := [⟨2, 3, 300, st, none⟩], sht.clock := 3 }

/-- Drawing, with the drive in a state and mode. -/
def driving (d : DriveState) (m : DriveMode) (p : WeldPhase) : State :=
  { withClaim .drawing (weldIn p) with cdr.drive := d, cdr.mode := m, cdr.carrierHz := 1000, cdr.applied := some 400 }

/-- The state a command leads to. -/
def after (c : Instr) (s : State) : State :=
  match exec c s with
  | .next t => t
  | .fault _ => s
  | .refused _ => s

/-- A frame waits for room, so orders wait too. -/
def crowded (s : State) : State := { s with lkc.waiters := [⟨.answer, 9, [], .answer⟩] }

/-- A record to store. -/
def record (n : Nat) : WeldRecord := WeldRecord.blank n 2

/-! ### Commands on small states -/

theorem test_reset_idles : Sys2Proof.core.reset.pending = [] := by decide
theorem test_step_takes_front :
    (match step { on .idle with pending := [.lineActivity] } with | .next t => t.lkc.lineBusy | _ => false) = true := by
  decide
theorem test_order_queued :
    (after (.orderClamp 9 1 3) (on .idle)).orq.queue = [⟨9, 1, .clamp 3, .waiting⟩] := by decide
theorem test_order_answered : (after (.orderClamp 9 1 3) (on .idle)).lkc.queue.length = 1 := by decide
theorem test_order_unconfigured : (after (.orderClamp 9 1 3) (on .unconfigured)).orq.queue = [] := by decide
theorem test_order_wakes : (after (.rest 9 1) (on .dormant)).wsq.station = .waking := by decide
theorem test_status_does_not_wake : (after (.status 9 1 1 1) (on .dormant)).wsq.station = .dormant := by decide
theorem test_clamp_taken :
    (after (.takeHeadOrder none) { on .idle with orq.queue := [⟨9, 1, .clamp 3, .waiting⟩] }).pcu.clamp = some .closing := by
  decide
theorem test_weld_in_idle_not_clamped :
    (after (.takeHeadOrder none) { on .idle with orq.queue := [⟨9, 1, .weld 0 .join 20, .waiting⟩] }).wsq.station = .idle := by
  decide
theorem test_closure_without_temperature :
    (after (.takeHeadOrder none)
      { on .clamped with orq.queue := [⟨9, 1, .weld 0 .closure 20, .waiting⟩] }).wsq.phase = none := by decide
theorem test_pull_target :
    (after (.takeHeadOrder (some (-5)))
      { on .clamped with orq.queue := [⟨9, 1, .weld 0 .closure 20, .waiting⟩] }).pcu.pullTarget = some 25 := by decide
theorem test_check_three_shoes_left :
    (after (.shoeMeasurementEnd 500) { weldIn .check with pcu.shoe := some 0, pcu.shoeTimer := some 0 }).pcu.shoe = some 1 := by
  decide
theorem test_own_number_isolates : (after (.claimReceived 2 7 1) (on .idle)).wsq.isolated = true := by decide
theorem test_own_number_with_claim_0 : (after (.yieldReceived 2 0) (on .idle)).wsq.isolated = true := by decide
theorem test_peer_number_with_claim_0 : (after (.yieldReceived 4 0) (on .idle)).sht.ignoredYields = 0 := by decide
theorem test_claim_entered : (after (.claimReceived 4 7 100) (on .idle)).sht.claims = [⟨4, 7, 100, .queued, none⟩] := by
  decide
theorem test_equal_numbers_by_station :
    (after (.claimReceived 1 3 100) (withClaim .queued (on .idle))).sht.claims.map (·.station) = [1, 2] := by decide
theorem test_drain_counted :
    (after (.drainExpiry 4)
      { on .idle with sht.claims := [⟨4, 7, 100, .stale, some 0⟩] }).sht.staleDrains = 1 := by decide
theorem test_admission_at_settle_end :
    (after .settleWindowExpiry
      { withClaim .queued (weldIn .claimWait) with sht.settleTimer := some 0, wsq.weldNo := none }).wsq.phase = some .preheat := by
  decide
theorem test_third_collision_drops :
    (after .collision
      { on .idle with lkc.sending := true, lkc.slot := some ⟨.answer, 9, [], .answer⟩, lkc.collisionRun := 2 }).lkc.slot = none := by
  decide
theorem test_byte_on_the_line :
    byteLevels 5 = [.dominant, .rest, .dominant, .rest, .dominant, .dominant, .dominant, .dominant, .dominant, .rest] := by
  decide
theorem test_frame_length_counted : (after (.frameDiscarded [1, 2]) (on .idle)).lkc.lengthErrors = 1 := by decide
theorem test_slip_holds :
    (after .slipDetected
      { on .clamped with pcu.clamp := some .closed, pcu.slip := .armed, pcu.slipCount := 10 }).wsq.station = .faultHold := by
  decide
theorem test_implausible_open_only_filed :
    (after .implausibleSample { on .idle with pcu.posOk := false }).wsq.station = .idle := by decide
theorem test_second_overcurrent_aborts :
    (after .overcurrent
      { driving .running .preheatContact .preheat with cdr.overcurrentCount := 1 }).wsq.abort.isSome = true := by decide
theorem test_first_overcurrent_goes_on :
    (after .overcurrent (driving .running .preheatContact .preheat)).wsq.abort = none := by decide
theorem test_blanking_trips_at_level :
    (after (.blankingEnd ⟨some 400, []⟩) { driving .running .flash .flash with cdr.pulse := .blanking }).cdr.pulse = .offTime := by
  decide
theorem test_cut_energy_is_of_its_samples :
    (after (.eStopAsserted true)
      (after (.blankingEnd ⟨none, [⟨3, 5, true⟩]⟩) (driving .running .flash .flash))).cdr.energy.flash = 15 := by decide
theorem test_tally_goes_with_energy :
    (after (.eStopAsserted true) { driving .running .boost .boost with cdr.runMs := 7 }).cdr.tally.boost = 7 := by decide
theorem test_e_stop_stops : (after (.eStopAsserted true) (on .idle)).wsq.station = .stopped := by decide
theorem test_e_stop_blocks_drive :
    (after (.eStopAsserted true) { driving .ready .flash .flash with pcu.mode := .speed 10 }).cdr.drive = .blocked := by
  decide
theorem test_clear_in_run_refused : (after (.clear 9 1) (on .idle)).wsq.station = .idle := by decide
theorem test_sag_begins : (after (.busVoltageSample 399) (on .idle)).stl.pause = .sag := by decide
theorem test_no_sag_at_threshold : (after (.busVoltageSample 400) (on .idle)).stl.pause = .normal := by decide
theorem test_upset_timeout_holds :
    (after .upsetTimeExpiry
      { weldIn .upset with wsq.upsetTimer := some 0, wsq.upsetStart := some 100, pcu.plausPosition := 170 }).wsq.upsetDistance
      = some 70 := by decide
theorem test_good_record_valid :
    (after .recordWriteComplete { weldIn .closing with wrs.writing := some (record 5) }).wrs.slots.head?
      = some (.valid (record 5)) := by decide
theorem test_time_stands_still_at_expiry :
    (match step { on .idle with wsq.idleTimer := some 0 } with | .next t => t.now | _ => 9) = 0 := by decide
theorem test_millisecond :
    (match step { on .idle with wsq.idleTimer := some 5 } with | .next t => t.wsq.idleTimer | _ => none) = some 4 := by
  decide

/-! ### Hypotheses that can be met: the queue, resets and start-up -/

theorem meets_StepRunsFrontCommand : ({ on .idle with pending := [.powerOn] } : State).pending = .powerOn :: [] := by
  decide
theorem meets_EmptyQueueStepIsAMillisecond :
    ((on .idle).pending = [] ∧ (on .idle).expiryWaits = false) ∧
      ({ on .idle with wsq.idleTimer := some 0 } : State).expiryWaits = true := by decide
theorem meets_PhaseTimersHeldInPause :
    ({ on .welding with stl.pause := .paused } : State).paused = true ∧ (on .idle).paused = false ∧
      ({ on .welding with stl.pause := .paused } : State).expiryWaits = false := by decide
theorem meets_EveryCommandAnswersNext :
    State.reset.inReset = true ∧ isReset .lineActivity = false ∧ (∀ r, Instr.lineActivity ≠ .eStopAsserted r) ∧
      Instr.lineActivity ≠ .eStopDeasserted := ⟨by decide, by decide, nofun, nofun⟩
theorem meets_StepKeepsDriveSound : State.reset.driveSound ∧ ∃ t, step State.reset = .next t := by
  refine ⟨by unfold State.driveSound; decide, _, rfl⟩
theorem meets_StepKeepsShareSound : State.reset.shareSound := by
  unfold State.shareSound State.pendingSound claimListSound
  exact ⟨nofun, by decide, by decide, by decide, nofun⟩
theorem meets_StepKeepsLinkSound : State.reset.linkSound := by
  unfold State.linkSound shareFirst
  exact ⟨by decide, by decide, nofun, by decide, by decide⟩
theorem meets_StepKeepsOrdersSound : State.reset.ordersSound := by
  unfold State.ordersSound
  exact ⟨by decide, by decide, nofun, by decide, by decide⟩
theorem meets_StepKeepsBounds :
    State.reset.fluxSound ∧ State.reset.storeSound ∧ State.reset.countersSound := by
  unfold State.fluxSound State.storeSound State.countersSound; decide
theorem meets_HeldRecordsStay :
    ({ on .idle with wrs.slots := .held (record 5) :: List.replicate 47 .empty } : State).storeSound ∧
      ({ on .idle with wrs.slots := .held (record 5) :: List.replicate 47 .empty } : State).wrs.slots[0]?
        = some (.held (record 5)) := by
  unfold State.storeSound; decide
theorem meets_SettingsStayUntilReset :
    isReset .lineActivity = false ∧ ({ on .idle with wsq.isolated := true } : State).wsq.isolated = true := by decide
set_option maxRecDepth 20000 in
theorem meets_CommandFramesAreReceived :
    Instr.wf (.rest 9 3) = true ∧ frameCommand 2 (orderFrame 9 15 (.rest 3)) = .rest 9 3 ∧
      frameCommand 7 (frameBytes 2 4 15 (claimBody 4294967295 65535)) = .claimReceived 4 4294967295 65535 ∧
      frameCommand 0 (orderFrame 8 0 (.queued 15 (.weld 255 .closure (-128)))) = .orderWeld 8 15 255 .closure (-128) ∧
      frameCommand 2 (orderFrame 9 2 (.malformed [])) = .badOrder 9 [] := by decide
theorem meets_ResetEndEntersLoading :
    State.reset.inReset = true ∧ State.reset.wsq.station = .loading ∧
      ({ on .idle with orq.restartDue := true } : State).orq.restartDue = true ∧
      (on .idle).inReset = false := by decide
/-- A section followed by its CRC. -/
def sealed (l : List Byte) : List Byte := l ++ be 2 (crc16 l)
/-- A settings image that passes every check. -/
def image : List Byte :=
  sealed (be 2 1 ++ be 1 1 ++ be 1 8 ++ be 2 11 ++ be 2 66 ++ be 2 80)
    ++ sealed (be 2 1000 ++ be 2 100 ++ be 1 3 ++ be 2 50 ++ be 2 30 ++ be 1 1 ++ be 1 16)
    ++ sealed
      ([1000, 800, 1000, 50, 100, 5000, 100, 60, 3000, 2000, 20, 80, 10, 500, 100, 10, 5, 100, 10, 0, 900, 25, 5, 400, 20,
        10, 1000, 100, 2000, 300, 30, 500, 60].flatMap (be 2))
    ++ (List.replicate 8
      (sealed
        ([300, 1000, 500, 2, 1500, 500, 30, 400, 800, 500, 10, 30, 150, 30, 40, 5, 20, 3, 1500, 64, 150, 300, 60, 30, 600,
          25, 400, 500, 20, 50, 90, 3000, 300, 30, 1, 90, 90, 10, 20, 10].flatMap (be 2)))).flatten
theorem test_image_passes : imageOk image = true := by decide +kernel
theorem test_image_accepted : (after (.settingsReadComplete (some image)) (on .loading)).wsq.station = .listening := by
  decide +kernel
theorem test_image_with_a_changed_byte_fails : imageOk (image.set 20 7) = false := by decide +kernel
theorem meets_ImageDecidesStart_shared :
    sharedPartOk (image.take 25) = true ∧ imageOk (image.take 25) = false := by decide +kernel
theorem meets_ImageDecidesStart :
    (on .loading).inReset = false ∧ (on .loading).wsq.station = .loading ∧ imageOk [] = false ∧
      sharedPartOk [] = false ∧ due ({ on .loading with wsq.loadTimer := some 0 } : State).wsq.loadTimer = true ∧
      ({ on .loading with pcu.clamp := none, pcu.firstPressure := some 20 } : State).pcu.firstPressure = some 20 ∧
      ({ on .loading with wrs.marker := some (5, .flash) } : State).wrs.marker = some (5, .flash) := by decide
theorem meets_WindowEndChoosesState :
    (∀ c ∈ [some ClampState.closed, some .open], ∀ st ∈ [StopState.run, .held], ∀ tr ∈ [true, false],
      let s : State :=
        { on .listening with wsq.listenTimer := some 0, pcu.clamp := c, stl.stop := st, pcu.tripped := tr }
      s.inReset = false ∧ s.wsq.station = .listening ∧ due s.wsq.listenTimer = true ∧ s.wsq.abort = none) := by decide
theorem meets_SettingsStayUntilReset_read :
    (after (.settingsReadComplete none) (on .idle)).settings = settings ∧ (on .idle).wsq.station ≠ .loading ∧
      isReset (.settingsReadComplete none) = false := by decide
theorem meets_StationTimersExpire :
    due ({ on .recover with wsq.recoverTimer := some 0 } : State).wsq.recoverTimer = true ∧
      due ({ on .idle with wsq.idleTimer := some 0 } : State).wsq.idleTimer = true ∧ (on .idle).ownClaim = none ∧
      (withClaim .queued (on .idle)).ownClaim ≠ none ∧
      (∀ st ∈ [StationState.waking, .stopped, .idle],
        due ({ on st with wsq.wakeTimer := some 0, orq.heldList := [⟨9, .rest 1⟩] } : State).wsq.wakeTimer = true) ∧
      (after (.wakeTimeEnd true)
        { on .waking with wsq.wakeTimer := some 0, orq.heldList := [⟨9, .rest 1⟩] }).wsq.station = .dormant := by decide

/-! ### Orders -/

theorem meets_takesOrdersNow : takesOrdersNow (on .idle) := by unfold takesOrdersNow; decide
theorem meets_QueuedOrderAccepted :
    (∀ n, (QueuedKind.clamp 7).sched = some n → n ≤ 7) ∧
      (∀ n k neutral, QueuedKind.clamp 7 = .weld n k neutral → ((on .idle).schedule n).demandKva ≤ 1000) ∧
      (∀ x ∈ [(-10 : Int), 50], ((on .idle).schedule 7).demandKva ≤ (on .idle).shr.capacityKva ∧ -10 ≤ x ∧ x ≤ 50) ∧
      ((on .idle).orq.queue.length < 4 ∧ ∀ o ∈ (on .idle).orq.queue, o.tag ≠ 1) :=
  ⟨fun n h => by cases h; decide, nofun, by decide, by decide⟩
/-- An order queue of four. -/
def full : List QueuedOrder :=
  [⟨9, 1, .unclamp, .waiting⟩, ⟨9, 2, .unclamp, .waiting⟩, ⟨9, 3, .unclamp, .waiting⟩, ⟨9, 4, .unclamp, .waiting⟩]
theorem meets_QueuedOrderRefused :
    queuedRefusal 5 .unclamp { on .idle with orq.queue := full } = some .queueFull ∧
      queuedRefusal 1 .unclamp { on .idle with orq.queue := full.take 3 } = some .tagBusy ∧
      queuedRefusal 5 (.clamp 8) (on .idle) = some .badSchedule ∧ queuedRefusal 5 (.clamp 7) (on .idle) = none ∧
      queuedRefusal 5 (.weld 0 .join (-11)) (on .idle) = some .outOfRange ∧
      queuedRefusal 5 (.weld 0 .join 51) (on .idle) = some .outOfRange ∧
      queuedRefusal 5 (.weld 0 .join 50) (on .idle) = none ∧
      queuedRefusal 5 (.weld 0 .join 50) { on .idle with settings.shared.capacityKva := 299 } = some .demandExceeds ∧
      queuedRefusal 5 .unclamp (on .listening) = some .wrongState := by decide
theorem meets_OrdersRefusedAtOnce :
    (∀ st ∈ [StationState.unconfigured, .idle], (on st).inReset = false ∧ (on st).wsq.station ≠ .loading ∧
      (on st).wsq.station ≠ .dormant ∧ (on st).wsq.station ≠ .waking ∧ noOutgoing (on st) = true ∧
      (on st).orq.heldList = []) ∧ (OrderBody.rest 1).isStatus = false ∧ (OrderBody.malformed [22]).wellFormed = false ∧
      ({ on .idle with orq.restartPending := true } : State).orq.restartPending = true := by decide
theorem meets_OrdersHeldOrWaiting :
    (∀ b ∈ [OrderBody.rest 1, .malformed [22]], b.codeTag.1 ≠ 18 ∧ b ≠ .malformed []) ∧
      (∀ b ∈ [OrderBody.malformed [], .malformed [18]],
        b.wellFormed = false ∧ ¬(b.codeTag.1 ≠ 18 ∧ b ≠ .malformed []) ∧
          (after (bodyCommand 9 b) (on .dormant)).lkc.queue.length = 1) ∧
      (∀ st ∈ [StationState.dormant, .waking],
        noOutgoing (crowded (on st)) = false ∧
          (after (.status 9 1 1 1) (crowded (on st))).orq.arrivals = [⟨9, .status 1 1 1⟩]) ∧
      (after (.badOrder 9 [22]) (on .dormant)).orq.heldList = [⟨9, .malformed [22]⟩] ∧
      (let t := after (.rest 9 1) { on .dormant with orq.heldList := List.replicate 4 ⟨9, .rest 1⟩ };
      t.wsq.station = .waking ∧ t.orq.heldList.length = 4 ∧ t.lkc.queue.length = 1) ∧
      (on .dormant).orq.heldList.length < 4 ∧ (on .waking).wsq.station = .waking ∧ noOutgoing (on .waking) = true ∧
      4 ≤ (List.replicate 4 (Delivered.mk 9 (.rest 1))).length ∧ noOutgoing (crowded (on .idle)) = false ∧
      (crowded (on .idle)).orq.heldList = [] := by decide
theorem meets_AbortCancelsWaitingOrders :
    takesOrdersNow { on .idle with orq.queue := full } ∧ State.ordersSound { on .idle with orq.queue := full } ∧
      executing { on .idle with orq.queue := full } = none ∧ executing (weldIn .flash) ≠ none ∧
      (16 ≤ 16 ∧ 254 ≤ 254 ∧ (15 : Nat) < 16 ∧ (255 : Nat) = 255) := by
  unfold takesOrdersNow State.ordersSound; decide
/-- A station of an executing order, with its clamps in a state. -/
def clamping (kind : QueuedKind) (st : StationState) (c : ClampState) : State :=
  { on st with pcu.clamp := some c, orq.queue := [⟨9, 1, kind, .executing⟩] }
theorem meets_AbortStopsTheExecutingOrder :
    (∀ p ∈ [WeldPhase.preheat, .flash, .boost, .upset, .hold, .trim, .cool, .check, .touch, .claimWait, .closing],
      takesOrdersNow (weldIn p) ∧ (weldIn p).wsq.phase = some p ∧ (weldIn p).wsq.abort = none ∧
        (weldIn p).wsq.ending = none ∧ (weldIn p).wsq.station = .welding ∧ (weldIn p).motionHeld = false ∧
        (weldIn p).stl.stop = .run ∧ outgoing (weldIn p) = [] ∧ (weldIn p).lkc.slot = none ∧
        (weldIn p).orq.queue.length ≤ 4 ∧ executing (weldIn p) = some ⟨9, 1, .weld 0 .join 20, .executing⟩) ∧
      ({ weldIn .hold with wsq.abort := some ⟨.upsetTimeout, .upset, .runOn⟩ } : State).wsq.abort.isSome = true ∧
      ({ weldIn .touch with wsq.ending := some ⟨.touchFail, true, true⟩ } : State).wsq.ending
        = some ⟨.touchFail, true, true⟩ ∧
      (∀ s ∈ [clamping (.clamp 7) .clamping .closing, clamping .unclamp .unclamping .opening],
        takesOrdersNow s ∧ (executing s).isSome = true ∧ s.cdr.drive ≠ .running) := by
  unfold takesOrdersNow; decide
theorem meets_AbortStopsTheExecutingOrder_path :
    (∀ d ∈ [DriveState.running, .ready, .blocked], ∀ mark ∈ [true, false],
      let s : State := { driving d .flash .flash with wsq.upsetMark := mark }
      s.motionHeld = false ∧ s.stl.stop = .run ∧ s.wsq.barred = false ∧ s.cdr.mode ≠ .off ∧ s.ownClaim.isSome = true ∧
        (after (.abort 9 4 255) s).wsq.abort =
          some ⟨.abortOrder, .flash, if d = .running then .driveIdle else .retracting 0⟩) ∧
      (∀ st ∈ [TruState.advancing, .atEnd, .returning, .retracted, .fault],
        let s : State := { weldIn .trim with tru.state := st }
        s.sched.coolS ≠ 0 ∧ s.motionHeld = false ∧
          (after (.abort 9 4 255) s).wsq.phase = some (if strokeUnderWay s then .trim else .cool)) := by decide
theorem test_abort_yields_before_its_answer :
    (outgoing (after (.abort 9 4 255) (driving .ready .flash .flash))).map (·.kind) =
      [.yield, .beacon, .answer] := by decide
/-- A weld of a held station. -/
def heldIn (p : WeldPhase) : State := { weldIn p with wsq.station := .stopped, stl.stop := .held }
theorem meets_ClearEndsTheHold :
    clearAccepted (on .idle) = false ∧ clearAccepted { on .stopped with stl.stop := .held } = true ∧
      clearAccepted (on .faultHold) = true ∧ takesOrdersNow (on .faultHold) ∧ takesOrdersNow (heldIn .hold) ∧ (on .faultHold).wsq.phase = none ∧
      (on .faultHold).pcu.clamp = some .open ∧
      ({ on .faultHold with wsq.returnState := some .recover } : State).wsq.returnState = some .recover ∧
      (∀ c ∈ [ClampState.closing, .opening], ∀ b ∈ [true, false],
        let s : State := { clamping .unclamp .faultHold c with pcu.stopped := b }
        s.pcu.clamp = some c ∧ s.pcu.stopped = b ∧ s.wsq.returnState ≠ some .recover) := by
  unfold takesOrdersNow; decide
theorem meets_ClearEndsTheHold_held :
    let s : State := { on .stopped with stl.stop := .held, wsq.returnState := some .waking }
    takesOrdersNow s ∧ clearAccepted s = true ∧ s.pcu.clamp = some .open ∧ s.wsq.returnState ≠ some .recover ∧
      (after (.clear 9 1) { s with orq.heldList := [⟨9, .restart 7⟩] }).orq.restartPending = true := by
  unfold takesOrdersNow; decide
theorem meets_ClearEndsTheHold_ending :
    (∀ p ∈ [WeldPhase.check, .touch, .claimWait], ∀ b ∈ [true, false],
        let s : State := { heldIn p with wsq.ending := some ⟨.fault .eStop, false, false⟩, wsq.barred := b }
        noOutgoing s = true ∧ clearAccepted s = true ∧ s.wsq.ending.isSome = true ∧ s.wsq.barred = b) := by decide
theorem meets_ClearEndsTheHold_abort :
    (∀ step ∈ [AbortStep.retractWait, .retractStopped 100, .runOn],
        ∀ p ∈ [WeldPhase.preheat, .upset, .hold, .trim, .cool], ∀ e ∈ [true, false],
        let s : State :=
          { heldIn p with wsq.abort := some ⟨.eStop, p, step⟩, wsq.expired := e, wsq.upsetStart := some 5 }
        clearAccepted s = true ∧ s.wsq.ending = none ∧ s.wsq.abort = some ⟨.eStop, p, step⟩ ∧ s.wsq.expired = e ∧
          s.sched.coolS ≠ 0 ∧ s.wsq.upsetStart = some 5) ∧
      (∀ b ∈ [true, false], ({ heldIn .cool with wsq.barred := b } : State).wsq.barred = b) ∧
      (heldIn .closing).wsq.phase = some .closing ∧ clearAccepted (heldIn .closing) = true := by decide
theorem meets_StatusShowsTheState :
    (∀ st ∈ [StationState.idle, .dormant, .waking, .unconfigured], (on st).inReset = false ∧
      (on st).wsq.station ≠ .loading ∧ noOutgoing (on st) = true ∧ (on st).orq.heldList = []) := by decide
theorem meets_AdjustReplacesPendingOffsets :
    adjustOk 10 (-20) 10 (on .idle) = true ∧ adjustOk 11 0 0 (on .idle) = false ∧ adjustOk 10 (-20) 10 (weldIn .flash) = true ∧
      adjustOk 10 0 0 { weldIn .flash with settings.schedules := [] } = false ∧ takesOrdersNow (weldIn .flash) := by
  unfold takesOrdersNow; decide
theorem meets_ReadRecordTakesASnapshot :
    lookup { Wrs.initial with slots := .valid (record 5) :: List.replicate 47 .empty, newest := 0 } 0 = some (record 5, false) ∧
      lookup { Wrs.initial with slots := .held (record 5) :: List.replicate 47 .empty } 5 = some (record 5, true) ∧
      lookup Wrs.initial 5 = none := by decide
theorem meets_ReleaseHoldFreesTheSlot :
    let l : List Slot := [.held (record 5), .valid (record 6)]
    l[0]? = some (Slot.held (record 5)) ∧ l[1]? = some (Slot.valid (record 6)) ∧
      (∀ j x held, (l[j]?).bind Slot.readable = some (x, held) → x.weldNo = 5 → j = 0) ∧
      (∀ j x held, (l[j]?).bind Slot.readable = some (x, held) → x.weldNo = 6 → j = 1) ∧
      (∀ x ∈ l, ∀ r held, x.readable = some (r, held) → r.weldNo ≠ 7) := by
  refine ⟨rfl, rfl, ?_, ?_, ?_⟩
  · rintro (_ | _ | j) x held h e
    · rfl
    · simp [Slot.readable] at h; rw [← h.1] at e; exact absurd e (by decide)
    · simp at h
  · rintro (_ | _ | j) x held h e
    · simp [Slot.readable] at h; rw [← h.1] at e; exact absurd e (by decide)
    · rfl
    · simp at h
  · intro x hx r held h
    simp at hx
    rcases hx with rfl | rfl <;> (simp [Slot.readable] at h; rw [← h.1]; decide)
theorem meets_RestAndRestart :
    takesOrdersNow (on .idle) ∧ takesOrdersNow (on .clamped) ∧ takesOrdersNow (on .recover) ∧ (on .idle).orq.queue = [] ∧
      ({ on .idle with orq.queue := full } : State).orq.queue ≠ [] := by
  unfold takesOrdersNow; decide
theorem meets_HeadOrderTaken :
    ({ on .idle with orq.queue := [⟨9, 1, .clamp 7, .waiting⟩] } : State).pcu.clamp = some .open ∧
      ({ on .clamped with pcu.clamp := some .closed, orq.queue := [⟨9, 1, .unclamp, .waiting⟩] } : State).cdr.drive ≠ .running ∧
      (on .recover).wsq.station = .recover ∧ (on .idle).inReset = false := by decide
theorem meets_CheckTestsInOrder :
    (on .clamped).wsq.station = .clamped ∧ (on .clamped).cdr.drive ≠ .running ∧
      ({ on .clamped with pcu.clamp := some .closed } : State).pcu.clamp = some .closed ∧
      checkFailure { on .clamped with wsq.isolated := true } = some .isolated ∧
      checkFailure { on .clamped with sht.peers := [⟨.discordant, 0, none, none, none, none, none⟩] } = some .discord ∧
      checkFailure { on .clamped with sht.clock := 4294967295 } = some .clockSpent ∧
      checkFailure { on .clamped with wrs.slots := List.replicate 48 (.held (record 1)) } = some .logFull ∧
      checkFailure { on .clamped with wrs.counter := 4294967295 } = some .logFull ∧
      checkFailure { on .clamped with wrs.counter := 4294967294 } = none ∧
      checkFailure { on .clamped with wsq.kind := .closure } = some .sensor ∧ checkFailure (on .clamped) = none ∧
      (some (-40 : Int)).filter (fun x => -40 ≤ x ∧ x ≤ 90) = some (-40) ∧
      (some (91 : Int)).filter (fun x => -40 ≤ x ∧ x ≤ 90) = none := by decide
theorem test_offsets_clipped_at_check :
    (after (.takeHeadOrder none)
      { on .clamped with
        pcu.clamp := some .closed
        orq.queue := [⟨9, 1, .weld 0 .join 20, .waiting⟩]
        wsq.pendingSet := ⟨90, 10, -20, 3⟩
        settings := { settings with schedules := settings.schedules.map fun c =>
          { c with adjTripPct := 4, adjSpeedPct := 5, adjForcePct := 6 } } }).wsq.pendingSet = ⟨90, 4, -5, 3⟩ := by decide
theorem test_arrivals_all_worked_off :
    let s : State := { on .clamped with orq.arrivals := [⟨9, .rest 1⟩, ⟨9, .rest 2⟩] }
    noOutgoing s = true ∧ (after .arrivalListHandling s).orq.arrivals = [] ∧
      (after .arrivalListHandling s).lkc.queue.length = 2 := by decide
theorem meets_ListsWorkedOff :
    noOutgoing { on .idle with orq.arrivals := [⟨9, .rest 1⟩] } = true ∧
      noOutgoing (takeOrder ⟨9, .rest 1⟩ { on .clamped with lkc.queue := List.replicate 6 ⟨.answer, 9, [], .answer⟩ }) = false ∧
      (crowded (on .idle)).lkc.waiters = ⟨.answer, 9, [], .answer⟩ :: [] ∧ (crowded (on .idle)).lkc.queue.length < 6 ∧
      ({ on .idle with wrs.reads := [⟨0, record 5, false, 1, 9, .part1⟩] } : State).wrs.reads
        = ⟨0, record 5, false, 1, 9, .part1⟩ :: [] := by decide

/-! ### Share table and link -/

theorem meets_AdmissionRule :
    (withClaim .queued (on .welding)).ownClaim = some ⟨2, 3, 300, .queued, none⟩ ∧
      admissible { withClaim .queued (weldIn .claimWait) with sht.settleFlag := true, settings.shared.capacityKva := 300 } = true ∧
      admissible { withClaim .queued (weldIn .claimWait) with sht.settleFlag := true, settings.shared.capacityKva := 299 } = false ∧
      (weldIn .claimWait).stl.pause = .normal ∧
      ({ weldIn .claimWait with stl.pause := .sag, stl.deglitched := true } : State).motionHeld = false := by decide
theorem test_reservation_passes_held_slots :
    let h := Slot.held (record 1)
    let slots := h :: .valid (record 2) :: List.replicate 46 h
    reservation { (on .idle).wrs with slots := slots, newest := 45 } = some 1 ∧
      reservation { (on .idle).wrs with slots := List.replicate 48 h, newest := 45 } = none := by decide
/-- An own DRAWING claim behind a STALE one of the same number. -/
def behind (cap : Nat) : State :=
  { weldIn .preheat with
    settings.shared.capacityKva := cap
    sht.claims := [⟨1, 3, 300, .stale, some 5⟩, ⟨2, 3, 300, .drawing, none⟩] }
theorem meets_OversubscriptionRule :
    (behind 599).ownClaim = some ⟨2, 3, 300, .drawing, none⟩ ∧ oversubscribed (behind 599) = true ∧
      oversubscribed (behind 600) = false ∧ loadAhead (behind 599) = true ∧ (behind 599).wsq.abort = none ∧
      (behind 599).wsq.ending = none := by decide
theorem meets_peer_commands :
    (on .idle).configured = true ∧ (on .idle).sht.peers[7]? = some .unknown ∧ (7 : Nat) ≠ (on .idle).node ∧
      claimOf (withClaim .queued (on .idle)) 2 = some ⟨2, 3, 300, .queued, none⟩ ∧ claimOf (on .idle) 7 = none ∧
      (on .unconfigured).configured = false ∧ (on .unconfigured).wsq.station ≠ .loading := by decide
theorem meets_DiscordWithdrawsQueuedClaim :
    (withClaim .queued (weldIn .claimWait)).ownClaim = some ⟨2, 3, 300, .queued, none⟩ ∧
      (weldIn .claimWait).stl.stop = .run ∧ (weldIn .claimWait).cdr.drive ≠ .running ∧ (on .idle).ownClaim = none := by
  decide
/-- A queue of six frames. -/
def six (kind : FrameKind) (p : Purpose) : List TxFrame := List.replicate 6 ⟨kind, 15, [], p⟩
theorem meets_ShareTimersExpire :
    due ({ on .idle with lkc.beaconTimer := some 0 } : State).lkc.beaconTimer = true ∧
      (∃ f ∈ six .beacon (.beacon none), f.kind = .beacon) ∧ (∀ f ∈ six .answer .answer, f.kind ≠ .beacon) ∧
      (let s : State := { on .idle with lkc.slot := some ⟨.beacon, 15, [], .beacon none⟩ };
      s.lkc.slot = some ⟨.beacon, 15, [], .beacon none⟩ ∧ s.lkc.sending = false ∧ s.lkc.queue.length < 6) ∧
      (six .answer .restartAnswer = List.replicate 5 ⟨.answer, 15, [], .restartAnswer⟩ ++ [⟨.answer, 15, [], .restartAnswer⟩] ∧
        FrameKind.answer.isShare = false) ∧
      (six .claim (.claim 3) = [] ++ ⟨.claim, 15, [], .claim 3⟩ :: List.replicate 5 ⟨.claim, 15, [], .claim 3⟩ ∧
        ∀ f ∈ six .claim (.claim 3), f.kind.isShare = true) ∧
      due ({ on .idle with sht.settleTimer := some 0 } : State).sht.settleTimer = true ∧
      due ({ withClaim .queued (weldIn .claimWait) with sht.claimWait := some 0 } : State).sht.claimWait = true ∧
      (weldIn .claimWait).wsq.phase = some .claimWait := by decide
theorem test_beacon_drops_claim_of_full_queue :
    let s : State :=
      { withClaim .queued (weldIn .claimWait) with lkc.beaconTimer := some 0, lkc.queue := six .claim (.claim 3) }
    (after .beaconTimerExpiry s).sht = { s.sht with claimDropped := true } ∧
      (after .beaconTimerExpiry { s with sht.beaconNamed := true }).sht.settleTimer = some s.shr.settleMs := by decide
theorem test_drawing_flag_ignored_without_claim :
    (after (.beaconReceived 4 ⟨4, 0, false, true, true, false, 9, 300, 0, 0, 0⟩) (on .idle)).sht.peers[4]?.bind (·.reported)
      = some (4, 4) := by decide
theorem meets_LossAndDrain :
    (∀ n ∈ [1, 2],
      let old : Peer := ⟨.present, n, some 0, none, none, none, none⟩
      due old.lossTimer = true ∧ ({ on .idle with sht.peers := [old] } : State).sht.peers[0]? = some old ∧
        (n = 1 → old.missed + 1 < (on .idle).shr.lossCount) ∧ (n = 2 → (on .idle).shr.lossCount ≤ old.missed + 1)) ∧
      claimOf { on .idle with sht.claims := [⟨4, 7, 100, .stale, some 0⟩] } 4 = some ⟨4, 7, 100, .stale, some 0⟩ := by
  decide
theorem meets_LineEvents :
    (on .idle).lkc.sending = false ∧ ({ on .idle with lkc.wait := some 0 } : State).lkc.wait.isSome = true ∧
      (on .idle).lkc.slot = none ∧ ({ on .idle with lkc.rest := true } : State).lkc.lineBusy = false := by decide
theorem meets_SendingEnds :
    (∀ p ∈ [Purpose.claim 3, .claim 2, .beacon (some 3), .restartAnswer, .recordPart 1 0, .recordPart 2 0],
      ∀ n ∈ [1, 2], ∀ b ∈ [true, false],
      let s : State :=
        { withClaim .queued (on .welding) with
          lkc.sending := true, lkc.slot := some ⟨.claim, 15, [], p⟩, lkc.collisionRun := n
          sht.beaconNamed := b, sht.claimDropped := b }
      s.lkc.sending = true ∧ s.lkc.slot = some ⟨.claim, 15, [], p⟩ ∧ s.sht.settleFlag = false ∧
        s.sht.settleTimer = none ∧ s.sht.beaconNamed = b ∧ (n = 1 → s.lkc.collisionRun < 2) ∧
        (n = 2 → 2 ≤ s.lkc.collisionRun)) ∧
      (withClaim .queued (on .welding)).ownClaim.map (·.number) = some 3 := by decide

/-! ### Clamps and platen -/

theorem meets_ClampMovementsEnd :
    (∀ c ∈ [ClampState.closing, .opening],
      let s : State :=
        { on .clamping with
          pcu.clamp := some c, pcu.clampForceInUse := some 19, pcu.pressure := 19, pcu.clampTimer := some 0
          orq.queue := [⟨9, 1, .clamp 0, .executing⟩] }
      s.pcu.stopped = false ∧ s.pcu.topUp = false ∧ s.pcu.clampTimer.isSome = true ∧ due s.pcu.clampTimer = true ∧
        19 ≤ s.pcu.pressure ∧ s.pcu.pressure < s.loc.clampRelKn ∧ executing s = some ⟨9, 1, .clamp 0, .executing⟩) ∧
      ({ on .recover with pcu.topUp := true } : State).pcu.topUp = true ∧
      ({ on .clamping with pcu.reversal := true } : State).pcu.reversal = true := by decide
theorem meets_ClampMovementsEnd_unclamp :
    let closed : State :=
      { on .clamped with pcu.clamp := some .closed, orq.queue := [⟨9, 1, .unclamp, .waiting⟩] }
    let back : State :=
      { on .unclamping with
        pcu.clamp := some .closing, pcu.reversal := true, pcu.clampTimer := some 0
        orq.queue := [⟨9, 1, .unclamp, .executing⟩] }
    closed.cdr.drive ≠ .running ∧ (after (.takeHeadOrder none) closed).wsq.station = .unclamping ∧
      back.pcu.topUp = false ∧ due back.pcu.clampTimer = true ∧ back.wsq.abort = none ∧
      (after .clampTimerExpiry back).wsq.station = .faultHold ∧
      outgoing (after .clampTimerExpiry back) =
        [⟨.notice, 9, doneBody 1 3 .failed .clampTimeout none, .doneNotice⟩] := by decide
theorem meets_SlipAndPlausibility :
    let s : State := { on .clamped with pcu.clamp := some .closed, pcu.slip := .armed, pcu.slipCount := 10 }
    s.loc.slipMs ≤ s.pcu.slipCount ∧ s.configured = true ∧ s.wsq.station ≠ .listening ∧ s.wsq.station ≠ .faultHold ∧
      s.pcu.topUp = false ∧ s.pcu.powered = true ∧ s.pcu.tripped = false ∧
      ({ s with pcu.posOk := false } : State).pcu.posOk = false ∧
      ({ s with pcu.tripped := true, pcu.plausibleRun := 100 } : State).pcu.plausibleRun = 100 := by decide
/-- A weld whose slip detector has seen enough, its path at a step. -/
def slipping (p : WeldPhase) (step : Option AbortStep) : State :=
  { weldIn p with
    pcu.slip := .armed, pcu.slipCount := 10, wsq.abort := step.map fun x => ⟨.flashLost, p, x⟩, wsq.upsetMark := true }
theorem meets_SlipAndPlausibility_weld :
    (∀ p ∈ [WeldPhase.preheat, .upset, .hold, .trim, .cool],
      let t := after .slipDetected (slipping p none)
      t.wsq.phase = some p ∧ t.wsq.barred = true ∧
        t.wsq.abort = some ⟨.clampSlip, p, if p = .preheat then .retractWait else .runOn⟩) ∧
      (∀ p ∈ [WeldPhase.check, .touch, .claimWait], (after .slipDetected (slipping p none)).wsq.phase = none) ∧
      (after .slipDetected (slipping .flash (some (.retracting 9)))).wsq.abort
        = some ⟨.flashLost, .flash, .retractStopped 9⟩ ∧
      (after .slipDetected (slipping .flash (some .driveIdle))).wsq.abort = some ⟨.flashLost, .flash, .retractWait⟩ ∧
      (after .slipDetected { slipping .touch none with wsq.ending := some ⟨.touchFail, true, true⟩ }).wsq.phase = none ∧
      (after .slipDetected (slipping .closing none)).wsq.lastFault = .fault .clampSlip ∧
      (after .slipDetected { slipping .hold (some .runOn) with wsq.station := .faultHold }).wsq.barred = false := by decide
theorem meets_SlipAndPlausibility_apart :
    (∀ st ∈ [StationState.listening, .loading, .unconfigured, .faultHold],
      let s : State := { on st with pcu.posOk := false, pcu.clamp := some .closed }
      (after .implausibleSample s).wsq = { s.wsq with lastFault := .fault .sensorFault }) ∧
      (let t := after .implausibleSample
        { on .recover with pcu.posOk := false, pcu.clamp := some .closed, pcu.topUp := true, pcu.clampTimer := some 9 };
      t.wsq.station = .faultHold ∧ t.wsq.returnState = some .recover ∧ t.pcu.topUp = false ∧ t.pcu.slip = .armed ∧
        t.pcu.clampTimer = none) ∧
      (after .implausibleSample { clamping (.clamp 7) .clamping .closing with pcu.posOk := false }).pcu.stopped = true := by
  decide
theorem meets_SlipAndPlausibility_order :
    let s := clamping (.clamp 7) .clamping .closing
    s.ordersSound ∧ executing s ≠ none ∧ s.wsq.phase = none ∧ s.wsq.abort = none ∧
      (after .implausibleSample { s with pcu.posOk := false }).lkc.queue.length = 1 := by
  unfold State.ordersSound; decide
theorem meets_PlatenMovesEnd :
    (let s : State := { weldIn .flash with pcu.mode := .retract 100, pcu.nearCount := 10, pcu.moveTimer := some 0 };
      10 ≤ s.pcu.nearCount ∧ due s.pcu.moveTimer = true ∧ s.wsq.ending = none ∧ s.wsq.abort = none) ∧
      ({ weldIn .touch with wsq.ending := some ⟨.touchFail, true, true⟩ } : State).wsq.ending
        = some ⟨.touchFail, true, true⟩ ∧
      ({ weldIn .flash with wsq.abort := some ⟨.flashLost, .flash, .retracting 100⟩ } : State).wsq.abort
        = some ⟨.flashLost, .flash, .retracting 100⟩ ∧
      (let s : State :=
        { weldIn .upset with
          pcu.mode := .force 400 900, pcu.force := 392, pcu.posHistory := List.replicate 20 7, wsq.upsetStart := some 5 };
      (98 * 400 : Int) ≤ 100 * s.pcu.force ∧ s.pcu.posHistory.length = 20 ∧ s.pcu.forceReported = false ∧
        ∀ x ∈ s.pcu.posHistory, ∀ y ∈ s.pcu.posHistory, x - y ≤ 1) := by decide
theorem meets_ElectrodeAndTouch :
    (∀ k ∈ [0, 2, 3],
      let s : State := { weldIn .check with pcu.shoe := some k, pcu.shoeTimer := some 0 }
      due s.pcu.shoeTimer = true ∧ s.stl.stop = .run ∧ s.wsq.abort = none) ∧
      (let s : State :=
        { weldIn .touch with
          pcu.contactMove := .touch, pcu.contactRun := 5, pcu.touchTimer := some 0, pcu.position := 580 };
      5 ≤ s.pcu.contactRun ∧ due s.pcu.touchTimer = true ∧ s.pcu.contactFromStart = false ∧
        (s.loc.strokeFwd : Int) - s.loc.touchReserve ≤ s.pcu.position ∧ strokeNeeded s.sched = 300 ∧
        ∀ p ∈ s.sht.peers, p.presence ≠ .discordant) := by decide
theorem meets_ElectrodeAndTouch_refused :
    let s : State :=
      { weldIn .touch with
        pcu.contactMove := .touch, pcu.contactRun := 5, pcu.contactPosition := 100
        sht.peers := [⟨.discordant, 0, none, none, none, none, none⟩] }
    (after .touchContact s).wsq.ending = some ⟨.discord, true, true⟩ ∧
      (after .touchContact { s with sht.clock := 4294967295 }).wsq.ending = some ⟨.clockSpent, true, true⟩ ∧
      budgetForce s ≤ s.loc.platenMaxKn := by decide
theorem meets_ElectrodeAndTouch_frames :
    (∀ q ∈ [[], [(⟨.beacon, 15, [], .beacon none⟩ : TxFrame)], List.replicate 6 ⟨.answer, 9, [], .answer⟩],
      let s : State :=
        { weldIn .touch with
          pcu.contactMove := .touch, pcu.contactRun := 5, pcu.contactPosition := 100, lkc.queue := q }
      let t := after .touchContact s
      (q.length < 6 ∨ ∃ f ∈ q, f.kind ≠ .beacon) ∧ t.lkc.queue.length = max 2 q.length ∧
        ((t.lkc.queue.map (·.kind)).take 2 = if q.length = 1 then [.beacon, .claim] else [.claim, .beacon])) ∧
      (let s : State :=
        { weldIn .touch with
          pcu.contactMove := .touch, pcu.contactRun := 5, pcu.contactPosition := 100
          lkc.slot := some ⟨.beacon, 15, [], .beacon none⟩ };
      (after .touchContact s).lkc.slot.map (·.purpose) = some (.beacon (some 1))) := by decide
theorem meets_SamplesAndAdvance_wake :
    let s : State := { on .waking with pcu.wakeSample := true, pcu.posSeen := false }
    s.pcu.powered = true ∧ s.pcu.clamp = some .open ∧ s.wsq.phase = none ∧
      (after (.pcuSample ⟨300, 0, 20, false⟩) s).wsq.lastFault = .fault .sensorFault ∧
      (after (.pcuSample ⟨300, 0, 19, false⟩) s).wsq.lastFault = s.wsq.lastFault := by decide
theorem meets_SamplesAndAdvance :
    (on .idle).pcu.powered = true ∧ (on .idle).pcu.wakeSample = false ∧
      (let s : State :=
        { driving .running .flash .flash with
          pcu.mode := .speed 10, flash.feed := some .feeding, flash.startPos := some 100, flash.burnOff := some 0 };
      s.pcu.mode = .speed 10 ∧ s.wsq.abort = none ∧ s.wsq.phase = some .flash ∧ s.pcu.contactFromStart = false ∧
        (after (.pcuSample ⟨175, 0, 300, true⟩) { s with pcu.position := 174 }).flash.burnOff = some 75 ∧
        (after (.pcuSample ⟨175, 0, 300, true⟩) { s with pcu.position := 174 }).pcu.posOk = true) ∧
      (let s : State :=
        { weldIn .cool with pcu.driftWatch := true, pcu.pullAtHoldEnd := some 100, pcu.force := 89 };
      s.motionHeld = false ∧ s.pcu.forceOk = true ∧
        100 * s.pcu.force < 100 * 100 - max (100 * (s.loc.pullTolPct : Int)) (s.loc.pullMinBand * 100)) ∧
      (let s : State :=
        { weldIn .preheat with
          pcu.contactMove := .advance, pcu.contactRun := 5, pcu.touchTimer := some 0, flash.step := some .advance };
      s.cdr.drive = .blocked ∧ s.stl.stop = .run ∧ due s.pcu.touchTimer = true ∧ s.wsq.ending = none) := by decide

/-! ### The weld, the drive, stops and pauses -/

theorem meets_PreheatAndFlashTimers :
    (∀ d ∈ [DriveState.running, .ready],
      let s : State := { driving d .preheatContact .preheat with wsq.contactTimer := some 0, wsq.openTimer := some 0 }
      due s.wsq.contactTimer = true ∧ due s.wsq.openTimer = true ∧ s.paused = false ∧ s.motionHeld = false ∧
        s.cdr.drive = d ∧ s.flash.cyclesDone + 1 < s.sched.preCycles) ∧
      (on .welding).sched.preCycles ≤ ({ on .welding with flash.cyclesDone := 1 } : State).flash.cyclesDone + 1 ∧
      (∀ p ∈ [WeldPhase.flash, .boost],
        let s : State :=
          { weldIn p with flash.streakTimer := some 0, flash.lostTimer := some 0, wsq.flashTimer := some 0 }
        due s.flash.streakTimer = true ∧ due s.flash.lostTimer = true ∧ due s.wsq.flashTimer = true ∧
          s.wsq.abort = none ∧ s.wsq.ending = none) := by decide
theorem meets_PreheatAndFlashTimers_pause : ({ on .welding with stl.pause := .resuming } : State).paused = true := by
  decide
theorem meets_FlashAndUpsetEnd :
    (∀ p ∈ [WeldPhase.flash, .boost], ∀ n ∈ [PauseState.normal, .paused],
      let s : State :=
        { driving .running .flash p with
          flash.feed := some .feeding, flash.burnOff := some 150, flash.boostDone := some 30, wsq.weldStarted := true
          stl.pause := n }
      followsMark s = true ∧ (s.sched.flashBurnoff : Int) ≤ 150 ∧ (s.sched.boostDist : Int) ≤ 30 ∧ s.stl.stop = .run ∧
        s.sched.boostDist ≠ 0 ∧ s.cdr.drive ≠ .blocked ∧ s.cdr.applied = some 400 ∧ (s.paused = true ↔ n = .paused)) ∧
      ({ on .welding with settings.schedules := [] } : State).sched.boostDist = 0 ∧
      (let s : State :=
        { driving .running .upsetCurrent .upset with
          wsq.upsetMark := true, wsq.upsetStart := some 100, pcu.plausPosition := 120, wsq.upsetTimer := some 0 };
      100 + (s.sched.upsetCurDist : Int) ≤ s.pcu.plausPosition ∧ s.ownClaim.isSome = true ∧ s.cdr.drive ≠ .blocked ∧
        due s.wsq.upsetTimer = true ∧ s.paused = false ∧ s.pcu.posOk = true ∧ s.flash.offAwaited = false) := by decide
theorem meets_FlashAndUpsetEnd_faults :
    let at_ (n : Int) : State :=
      { weldIn .upset with
        wsq.upsetTimer := some 0, wsq.upsetStart := some 100, pcu.plausPosition := 100 + n, pcu.position := 100 + n
        pcu.mode := .force 400 900, pcu.force := 392, pcu.posHistory := List.replicate 20 7 }
    let codes (c : Instr) (n : Int) := (after c (at_ n)).wrs.working.map fun w => w.record.faults.map (·.code)
    codes .upsetTimeExpiry (at_ 0).sched.upsetMin = some [.upsetTimeout] ∧
      codes .upsetTimeExpiry ((at_ 0).sched.upsetMin - 1) = some [.upsetTimeout, .upsetShort] ∧
      codes .forceReached (at_ 0).sched.upsetMax = some [] ∧
      codes .forceReached ((at_ 0).sched.upsetMax + 1) = some [.upsetLong] ∧
      (after .upsetTimeExpiry (at_ 70)).tru.window = some 120000 := by decide
theorem test_boost_request_divides_the_cycle :
    let s : State :=
      { driving .running .flash .flash with
        flash.feed := some .feeding, flash.burnOff := some 150, wsq.weldStarted := true, cdr.runMs := 7
        cdr.sums := ⟨3, 20, 2, 60, 10, 0, 0⟩ }
    let t := after .burnOffReached s
    t.cdr.mode = .boost ∧ t.cdr.energy.flash = 0 ∧ t.cdr.partEnergy.flash = 50 ∧ t.cdr.partMs.flash = 7 ∧
      (after (.eStopAsserted true) t).cdr.energy.flash = 50 ∧ (after (.eStopAsserted true) t).cdr.tally.flash = 7 := by
  decide
theorem meets_HoldCoolAndClose_pull :
    let at_ (pull : Int) : State :=
      { weldIn .hold with wsq.holdTimer := some 0, wsq.kind := .closure, pcu.pullTarget := some 100, pcu.force := pull }
    let codes (pull : Int) := (after .holdTimeExpiry (at_ pull)).wrs.working.map fun w => w.record.faults.map (·.code)
    max (100 * (at_ 0).loc.pullTolPct) (100 * (at_ 0).loc.pullMinBand) = 1000 ∧ codes 110 = some [] ∧ codes 90 = some [] ∧
      codes 111 = some [.stressDeviation] ∧ codes 89 = some [.stressDeviation] := by decide
theorem meets_HoldCoolAndClose :
    (∀ held ∈ [true, false],
      let s : State :=
        { weldIn .hold with
          wsq.station := if held then .stopped else .welding, wsq.holdTimer := some 0, wsq.coolTimer := some 0
          tru.state := .retracted, tru.window := some 5 }
      s.motionHeld = held ∧ s.paused = false ∧ due s.wsq.holdTimer = true ∧ due s.wsq.coolTimer = true ∧
        s.tru.result = none ∧ s.tru.window.isSome = true ∧ s.sched.trimEnable ≠ 0 ∧ s.wsq.pullRequested = false) ∧
      (∀ held ∈ [true, false],
        let s : State :=
          { weldIn .hold with
            wsq.holdTimer := some settings.loc.pullSettleMs, wsq.station := if held then .stopped else .welding }
        s.wsq.phase = some .hold ∧ s.wsq.holdTimer = some s.loc.pullSettleMs ∧ s.wsq.pullRequested = false ∧
          s.paused = false ∧ s.motionHeld = held ∧ s.wsq.barred = false) ∧
      reservedSlot (weldIn .closing).wrs = some 0 ∧ executing (weldIn .closing) ≠ none := by decide
theorem meets_TrimmerEvents :
    (∀ st ∈ [TruState.advancing, .atEnd, .returning, .fault],
      let s : State :=
        { weldIn .trim with tru.state := st, tru.dwell := some 0, tru.strokeTimer := some 0, tru.window := some 0 }
      s.tru.state = st ∧ s.tru.stopped = false ∧ s.tru.startWaiting = false ∧ due s.tru.dwell = true ∧
        due s.tru.strokeTimer = true ∧ due s.tru.window = true ∧ s.sched.coolS ≠ 0) := by decide
theorem meets_TrimmerEvents_faults :
    let s : State := { weldIn .trim with tru.strokeTimer := some 0, tru.window := some 0 }
    let codes (c : Instr) (s : State) := (after c s).wrs.working.map fun w => (w.record.faults.map (·.code), w.quality)
    (∀ st ∈ [TruState.advancing, .returning], ∀ filed ∈ [true, false],
      codes .trimStrokeTimerExpiry { s with tru.state := st, tru.failFiled := filed }
        = some (if filed then [] else [.trimFail], !filed)) ∧
      codes .trimWindowExpiry s = some ([.trimLate], true) := by decide
theorem meets_TrimmerEvents_start :
    let s : State := { weldIn .hold with wsq.holdTimer := some 0, tru.state := .fault, tru.window := some 5 }
    let waits := after .holdTimeExpiry s
    (s.motionHeld = false ∧ s.paused = false ∧ s.wsq.abort = none ∧ s.sched.trimEnable ≠ 0 ∧ s.sched.coolS ≠ 0) ∧
      waits.tru.startWaiting = true ∧ (after .returnSwitchMade waits).tru.state = .advancing ∧
      (after .returnSwitchMade waits).tru.windowKept = some 5 ∧
      (after .holdTimeExpiry { s with tru.result := some .late }).wsq.phase = some .cool := by decide
theorem meets_PulseEvents :
    (∀ p ∈ [WeldPhase.preheat, .flash, .boost], ∀ pulse ∈ [Pulse.none, .blanking, .conducting, .offTime, .closed],
      ∀ n ∈ [0, 1], ∀ lock ∈ [true, false],
      let s : State :=
        { driving .running .flash p with cdr.pulse := pulse, cdr.overcurrentCount := n, cdr.lockout := lock }
      s.inReset = false ∧ s.cdr.drive = .running ∧ s.cdr.half ≠ .boundary ∧ s.cdr.pulse = pulse ∧
        s.cdr.lockout = lock ∧ s.cdr.overcurrentCount = n ∧ s.cdr.applied = some 400 ∧ s.wrs.working.isSome = true ∧
        s.wsq.phase = some p ∧ s.wsq.abort = none ∧ s.wsq.ending = none) := by decide
theorem meets_CarrierCycles :
    (∀ h ∈ [Half.positive, .negative, .boundary], ∀ d ∈ [DriveState.running, .ready], ∀ off ∈ [true, false],
      let s : State := { driving d .flash .flash with cdr.half := h, cdr.offPending := off }
      s.inReset = false ∧ s.cdr.mode ≠ .off ∧ s.cdr.half = h ∧ s.cdr.drive = d ∧ s.cdr.offPending = off ∧
        s.stl.pause ≠ .resuming ∧ s.cdr.whole = false) ∧
      (∀ k ∈ [3, 4],
        let s : State :=
          { driving .ready .flash .flash with
            cdr.half := .boundary, cdr.ramp := some ⟨400, k, 2⟩, cdr.tripTarget := some 500 }
        s.cdr.ramp = some ⟨400, k, 2⟩ ∧ s.runConditions = true ∧ (k = 3 → k ≤ 2 + 1) ∧ (k = 4 → 2 + 1 < k)) ∧
      ({ driving .ready .flash .flash with stl.pause := .paused } : State).runConditions = false := by decide
/-- A complete carrier cycle at its boundary, of a largest current (0.1 kA) and two conducting samples of 10 (0.1 V). -/
def cycleOf (m : DriveMode) (p : WeldPhase) (current : Nat) : State :=
  { driving .running m p with
    cdr.half := .boundary
    cdr.whole := true
    cdr.sums := ⟨current, 20, 2, 0, 0, 5, 5⟩
    flash.feed := some .feeding }
theorem meets_CompleteCycleReports :
    ∀ s ∈ [cycleOf .flash .flash 29, cycleOf .boost .boost 30, cycleOf .preheatContact .preheat 4,
      cycleOf .upsetCurrent .upset 5],
      s.inReset = false ∧ s.cdr.mode ≠ .off ∧ s.cdr.half = .boundary ∧ s.cdr.whole = true ∧
        s.cdr.sums.voltageCount ≠ 0 ∧ s.stl.pause ≠ .resuming ∧ s.wsq.abort = none ∧ s.wsq.ending = none ∧
        (s.sched.shortKa ≤ s.cdr.sums.maxCurrent ↔ s.cdr.sums.maxCurrent = 30) ∧
        s.cdr.sums.voltageSum ≤ s.sched.shortV * s.cdr.sums.voltageCount ∧
        (s.cdr.sums.maxCurrent < s.loc.contactKa ↔ s.cdr.sums.maxCurrent = 4) := by decide
theorem meets_CompleteCycleReports_short :
    let s := cycleOf .flash .flash 30
    let step := after .carrierCycleEnd { s with cdr.shortRun := 4, flash.streak := 2 }
    let held := after .carrierCycleEnd { s with cdr.shortRun := 4, flash.feed := some .held }
    let freeze := after .carrierCycleEnd { s with cdr.shortRun := 4, flash.streak := 3 }
    (step.flash.feed = some .stepping ∧ step.flash.streak = 3 ∧ step.wsq.abort = none) ∧
      (held.flash.feed = some .held ∧ held.flash.shortCount = 1) ∧
      freeze.wsq.abort.map (·.cause) = some .flashFreeze ∧
      (after .carrierCycleEnd { s with cdr.shortRun := 3 }).flash.shortCount = 0 := by decide
theorem meets_CompleteCycleReports_open :
    let lost := after .carrierCycleEnd { cycleOf .flash .flash 4 with cdr.openRun := 63 }
    let noContact := after .carrierCycleEnd { cycleOf .preheatContact .preheat 4 with cdr.openRun := 63 }
    let regained := after .carrierCycleEnd { cycleOf .boost .boost 5 with cdr.openReported := true, flash.openMark := true }
    let imbalance :=
      after .carrierCycleEnd
        { cycleOf .flash .flash 5 with cdr.flux := 16, cdr.boundCount := 49, cdr.sums := ⟨5, 20, 2, 0, 0, 5, 4⟩ }
    (lost.flash.openMark = true ∧ lost.wsq.abort = none) ∧
      noContact.wsq.abort.map (·.cause) = some .noContact ∧ regained.flash.openMark = false ∧
      imbalance.wsq.abort.map (·.cause) = some .fluxImbalance := by decide
theorem meets_EmergencyStop :
    (∀ st ∈ [StopState.run, .held], ({ on .idle with stl.stop := st } : State).stl.stop ≠ .active) ∧
      (let s : State := { on .stopped with stl.stop := .active, stl.debounce := some 0 };
      due s.stl.debounce = true ∧ s.inReset = false ∧ s.stl.stop = .active) ∧ State.reset.inReset = true ∧
      (∀ p ∈ [WeldPhase.check, .touch, .claimWait, .preheat, .flash, .boost, .upset, .hold, .trim, .cool],
        let s : State := { weldIn p with wrs.working := none }
        s.wsq.station = .welding ∧ s.wsq.phase = some p ∧ p ≠ .closing ∧ s.wsq.abort = none ∧ s.wsq.ending = none ∧
          s.wrs.working = none) ∧
      (∀ s ∈ [clamping (.clamp 7) .clamping .closing, clamping .unclamp .unclamping .opening],
        s.configured = true ∧ s.wsq.station ≠ .listening ∧ (s.wsq.station = .clamping ∨ s.wsq.station = .unclamping) ∧
          (executing s).isSome = true ∧ s.wsq.phase = none ∧ s.wsq.abort = none) ∧
      (driving .running .flash .flash).cdr.drive = .running := by decide
theorem meets_SupplySag :
    (∀ p ∈ [PauseState.normal, .sag, .paused, .resuming], ∀ ph ∈ [WeldPhase.preheat, .flash, .boost, .upset],
      let s : State := { driving .ready .flash ph with stl.pause := p, stl.deglitch := some 0, stl.pauseTimer := some 0 }
      s.configured = true ∧ s.wsq.station ≠ .dormant ∧ s.wsq.station ≠ .listening ∧ s.stl.pause = p ∧ s.cdr.mode ≠ .off ∧
        due s.stl.deglitch = true ∧ s.drawing = true ∧ s.motionHeld = false ∧ due s.stl.pauseTimer = true ∧
        s.wsq.abort = none ∧ s.wsq.ending = none ∧ s.flash.offAwaited = false) ∧
      (let s : State :=
        { driving .ready .flash .flash with stl.pause := .resuming, cdr.half := .boundary, flash.feed := some .held };
      s.stl.pause = .resuming ∧ s.cdr.half = .boundary ∧ s.cdr.whole = false ∧ s.drawing = true ∧ s.stl.stop = .run ∧
        s.pcu.clamp = some .closed ∧ s.flash.feed = some .held) ∧
      (let s : State :=
        { driving .ready .flash .flash with stl.pause := .paused, pcu.slip := .armed, pcu.slipCount := 10 };
      s.paused = true ∧ s.stl.stop ≠ .active ∧ s.pcu.slip = .armed ∧ s.loc.slipMs ≤ s.pcu.slipCount ∧
        s.wsq.station ≠ .faultHold) ∧
      (on .idle).drawing = false ∧ (on .idle).cdr.mode = .off ∧ (on .idle).cdr.drive = .blocked ∧
      (on .idle).wsq.phase = none ∧ (on .idle).loc.sagV + (on .idle).loc.sagHystV = 420 := by decide

end Sys2Proof.Tests
end

/-! The end of a clamp movement (O47): what ending an order sends and changes, what the clamp reports make of PCU and
of the station, and what FAULT_HOLD entry makes of PCU, the drive and the station whether or not an abort path is under
way. -/

namespace Sys2Proof.Machine

/-! ### The end of an order -/

@[simp] theorem endOrder_wrs (outcome : OrderOutcome) (reason : Reason) (weldNo : Option Nat) (s : State) :
    (endOrder outcome reason weldNo s).wrs = s.wrs := by
  unfold endOrder
  split
  · rfl
  · rename_i o _
    obtain ⟨w, e⟩ := sendOther_eq (doneNotice o outcome reason weldNo .doneNotice)
      { s with orq.queue := setHead .ended s.orq.queue }
    rw [e]
    split <;> rfl

theorem outgoing_endOrder (outcome : OrderOutcome) (reason : Reason) (weldNo : Option Nat) (s : State) (o : QueuedOrder)
    (ho : executing s = some o) :
    outgoing (endOrder outcome reason weldNo s) =
      outgoing s ++ [doneNotice o outcome reason weldNo .doneNotice] := by
  simp only [endOrder, ho, outgoing_sendOther]
  rfl

/-- How a clamp order ends at a clamp report, by the reason kept since a timeout (R3, R4). -/
def clampDoneNotice (clampFail : Option Reason) (o : QueuedOrder) : TxFrame :=
  match clampFail with
  | none => doneNotice o .done .none none .doneNotice
  | some reason => doneNotice o .failed reason none .doneNotice

theorem outgoing_endClampOrder (s : State) (o : QueuedOrder) (ho : executing s = some o) :
    outgoing (endClampOrder s) = outgoing s ++ [clampDoneNotice s.wsq.clampFail o] := by
  unfold endClampOrder clampDoneNotice
  cases s.wsq.clampFail with
  | none => exact outgoing_endOrder _ _ _ s o ho
  | some reason => exact outgoing_endOrder _ _ _ { s with wsq.clampFail := none } o ho

@[simp] theorem endClampOrder_wrs (s : State) : (endClampOrder s).wrs = s.wrs := by
  unfold endClampOrder; split <;> simp

theorem outgoing_failClampOrder (reason : Reason) (s : State) (o : QueuedOrder)
    (moving : s.wsq.station = .clamping ∨ s.wsq.station = .unclamping) (ho : executing s = some o) :
    outgoing (failClampOrder reason s) = outgoing s ++ [doneNotice o .failed reason none .doneNotice] := by
  rw [failClampOrder, if_pos moving]
  exact outgoing_endOrder _ _ _ { s with wsq.clampFail := none } o ho

@[simp] theorem failClampOrder_abort (reason : Reason) (s : State) :
    (failClampOrder reason s).wsq.abort = s.wsq.abort := by
  unfold failClampOrder; split <;> simp

/-! ### The station state and the top-up still due -/

/-- With no top-up due, or in a state that makes none, nothing happens. -/
theorem makeTopUp_still (s : State)
    (h : s.wsq.topUpDue = false ∨ (s.wsq.station ≠ .recover ∧ s.wsq.station ≠ .clamped)) : makeTopUp s = s := by
  refine if_neg fun ⟨due, at_⟩ => ?_
  rcases h with none_due | ⟨not_recover, not_clamped⟩
  · simp [none_due] at due
  · exact at_.elim not_recover not_clamped

/-- A top-up, made or found needless, leaves an armed detector armed (R37). -/
theorem makeTopUp_slip (s : State) (h : s.pcu.slip = .armed) : (makeTopUp s).pcu.slip = .armed := by
  unfold makeTopUp startTopUp
  split
  · split
    · rfl
    · exact h
  · exact h

theorem makeTopUp_clampFail (s : State) : (makeTopUp s).wsq.clampFail = s.wsq.clampFail := by
  unfold makeTopUp
  split
  · rw [startTopUp_wsq]
  · rfl

theorem setStation_pcu (st : StationState) (s : State)
    (h : s.wsq.topUpDue = false ∨ (st ≠ .recover ∧ st ≠ .clamped)) : (setStation st s).pcu = s.pcu := by
  unfold setStation; rw [makeTopUp_still _ h]

theorem setStation_slip (st : StationState) (s : State) (h : s.pcu.slip = .armed) :
    (setStation st s).pcu.slip = .armed := makeTopUp_slip _ h

theorem setStation_clampFail (st : StationState) (s : State) : (setStation st s).wsq.clampFail = s.wsq.clampFail :=
  makeTopUp_clampFail _

/-! ### Clamp reports -/

section
variable (st : StationState) (s : State)

theorem clampReport_moving (moving : s.wsq.station = .clamping ∨ s.wsq.station = .unclamping) :
    clampReport st s = endClampOrder (setStation st s) := if_pos moving

theorem clampReport_still (still : ¬(s.wsq.station = .clamping ∨ s.wsq.station = .unclamping)) :
    clampReport st s = s := if_neg still

theorem clampReport_station :
    (clampReport st s).wsq.station =
      if s.wsq.station = .clamping ∨ s.wsq.station = .unclamping then st else s.wsq.station := by
  unfold clampReport
  split <;> simp [setStation_station]

@[simp] theorem clampReport_wrs : (clampReport st s).wrs = s.wrs := by
  unfold clampReport; split <;> simp

theorem clampReport_pcu (h : s.wsq.topUpDue = false ∨ (st ≠ .recover ∧ st ≠ .clamped)) :
    (clampReport st s).pcu = s.pcu := by
  unfold clampReport
  split <;> simp [setStation_pcu st s h]

theorem clampReport_slip (h : s.pcu.slip = .armed) : (clampReport st s).pcu.slip = .armed := by
  unfold clampReport
  split
  · simpa using setStation_slip st s h
  · exact h

theorem outgoing_clampReport (o : QueuedOrder) (moving : s.wsq.station = .clamping ∨ s.wsq.station = .unclamping)
    (ho : executing s = some o) :
    outgoing (clampReport st s) = outgoing s ++ [clampDoneNotice s.wsq.clampFail o] := by
  have kept : executing (setStation st s) = some o := by simpa [executing] using ho
  rw [clampReport_moving st s moving, outgoing_endClampOrder _ o kept, setStation_clampFail]
  simp [outgoing]

end

/-! ### FAULT_HOLD entry, with or without an abort path -/

section
variable (s : State) (m : s.motionHeld = true)
include m

theorem flashResume_held : flashResume s = s := by simp [flashResume, m]

theorem resumeForced_pcu_held : (resumeForced s).pcu = s.pcu := by
  have held : ∀ x : Stl, flashResume { s with stl := x } = { s with stl := x } := fun _ => flashResume_held _ m
  rw [resumeForced, held]

theorem drawingEnded_pcu_held : (drawingEnded s).pcu = s.pcu := by
  unfold drawingEnded
  split
  · exact resumeForced_pcu_held s m
  · rfl

theorem yieldClaim_pcu_held : (yieldClaim s).pcu = s.pcu := by
  unfold yieldClaim
  split
  · rfl
  · rename_i own _
    have kept : (yieldFrames own.number (dropOwnClaim s)).motionHeld = true := by simpa [State.motionHeld] using m
    simp only
    split
    · rw [drawingEnded_pcu_held _ kept]; simp
    · simp

/-- The drive off report in a held station: the abort path keeps its retract for CLEAR, and PCU makes no move (R119). -/
theorem driveOffReport_pcu_held : (driveOffReport s).pcu = s.pcu := by
  have noStep : contactStepEnds s = s := by simp [contactStepEnds, m]
  have kept : (yieldClaim s).motionHeld = true := by simpa [State.motionHeld] using m
  rw [driveOffReport, noStep, abortStepEnds]
  split
  · rw [beginRetract, if_pos kept]
    simp [yieldClaim_pcu_held s m]
  · rfl

theorem immediateOff_pcu_held : (immediateOff s).pcu = s.pcu := by
  have blocked : (blockDrive s).motionHeld = true := by simpa [State.motionHeld] using m
  have stopped : (timingStopped (blockDrive s)).motionHeld = true := by simpa [State.motionHeld] using blocked
  obtain ⟨x, e, -⟩ := timingStopped_held _ blocked
  rw [immediateOff, driveOff, driveOffReport_pcu_held _ stopped, e]
  simp

end

@[simp] theorem immediateOff_drive (s : State) : (immediateOff s).cdr.drive = .blocked := by
  simp [immediateOff, driveOff]

theorem faultStation_station (s : State) :
    (faultStation s).wsq.station = if s.wsq.station = .stopped then .stopped else .faultHold := by
  unfold faultStation
  split
  · assumption
  · split
    · assumption
    · rfl

@[simp] theorem faultHoldEntry_drive (s : State) : (faultHoldEntry s).cdr.drive = .blocked := by
  simp [faultHoldEntry]

theorem faultHoldEntry_station (s : State) :
    (faultHoldEntry s).wsq.station = if s.wsq.station = .stopped then .stopped else .faultHold := by
  simp [faultHoldEntry, faultStation_station]

/-- Of PCU, FAULT_HOLD entry holds the platen and ends the electrode contact check, and nothing else (R8). -/
theorem faultHoldEntry_pcu (s : State) :
    (faultHoldEntry s).pcu = (stopShoes (platenHold (faultStation s))).pcu := by
  have held : ∀ u : State, u.wsq.station = (faultStation s).wsq.station → (immediateOff (endPause u)).pcu = u.pcu := by
    intro u hu
    have m : u.motionHeld = true := by
      simp only [State.motionHeld, hu, faultStation_station]
      split <;> rfl
    obtain ⟨x, e, -⟩ := endPause_held u m
    rw [e, immediateOff_pcu_held { u with stl := x } m]
  rw [faultHoldEntry, held _ (by simp)]
  simp

/-! ### A reversal that times out (R8, R34) -/

section
variable (s : State)

theorem reversalTimeout_lastFault : (reversalTimeout s).wsq.lastFault = .clampTimeout := rfl

theorem reversalTimeout_pcu :
    (reversalTimeout s).pcu.clampValve = .hold ∧ (reversalTimeout s).pcu.clampTimer = none ∧
      (reversalTimeout s).pcu.mode = .hold := by
  simp only [reversalTimeout, faultHoldEntry_pcu]
  refine ⟨?_, ?_, ?_⟩ <;> simp [stopShoes, platenHold, platenMode]

theorem reversalTimeout_drive : (reversalTimeout s).cdr.drive = .blocked := by simp [reversalTimeout]

theorem reversalTimeout_station :
    (reversalTimeout s).wsq.station = if s.wsq.station = .stopped then .stopped else .faultHold := by
  simp [reversalTimeout, faultHoldEntry_station]

theorem outgoing_reversalTimeout (o : QueuedOrder)
    (moving : s.wsq.station = .clamping ∨ s.wsq.station = .unclamping) (ho : executing s = some o)
    (abort : s.wsq.abort = none) :
    outgoing (reversalTimeout s) = outgoing s ++ [doneNotice o .failed .clampTimeout none .doneNotice] := by
  obtain ⟨-, lkc, -, -⟩ :=
    faultHoldEntry_apart (failClampOrder .clampTimeout { s with pcu.clampValve := .hold, pcu.clampTimer := none })
      (by simpa using abort)
  have sent := outgoing_failClampOrder .clampTimeout { s with pcu.clampValve := .hold, pcu.clampTimer := none } o moving ho
  simp only [outgoing, reversalTimeout, lkc] at sent ⊢
  exact sent

end

/-! ### A movement reversed, and an opening begun -/

section
variable (s : State)

/-- The first timeout reverses a closing or an opening, and is kept for an executing clamp order (R33, R34). -/
theorem movementTimesOut_reverses (st : ClampState) (hst : s.pcu.clamp = some st) (hm : st = .closing ∨ st = .opening)
    (first : s.pcu.reversal = false) :
    movementTimesOut s =
      { s with
        wsq.clampFail :=
          if s.wsq.station = .clamping ∨ s.wsq.station = .unclamping then some .clampTimeout else s.wsq.clampFail
        pcu.clamp := some (if st = .closing then .opening else .closing)
        pcu.clampValve := if st = .closing then .open else .close
        pcu.clampTimer := some s.loc.clampTimeoutMs
        pcu.reversal := true
        pcu.stopped := false
        pcu.topUp := false
        pcu.slip := .disarmed
        pcu.slipCount := 0 } := by
  have noted : noteTimeout s =
      { s with wsq.clampFail :=
          if s.wsq.station = .clamping ∨ s.wsq.station = .unclamping then some .clampTimeout else s.wsq.clampFail } := by
    unfold noteTimeout; split <;> rfl
  rcases hm with rfl | rfl <;>
    simp [movementTimesOut, first, hst, noted, openRequest, closeRequest, clampMove, State.loc]

/-- An UNCLAMP waiting at the head is taken in CLAMPED: the drive is not RUNNING, so only the station, the order and the clamps
change (R2, R4). -/
theorem takeHead_unclamp (temp : Option Int) (o : QueuedOrder) (rest : List QueuedOrder) (hq : s.orq.queue = o :: rest)
    (waits : o.status = .waiting) (kind : o.kind = .unclamp) (station : s.wsq.station = .clamped)
    (closed : s.pcu.clamp = some .closed) (drive : s.cdr.drive ≠ .running) :
    takeHead temp s =
      clampMove .opening .open false
        { s with
          orq.queue := { o with status := .executing } :: rest
          wsq.station := .unclamping
          wsq.idleTimer := none
          wsq.clampFail := none } := by
  have head : waitingHead s = some o := by simp [waitingHead, hq, waits]
  have unclamps : ∀ u : State, setStation .unclamping u = { u with wsq.station := .unclamping, wsq.idleTimer := none } := by
    intro u; simp [setStation, makeTopUp]
  simp [takeHead, head, startOrder, kind, beginOrder, station, startUnclamp, unclamps, openRequest, closed, loseRun, drive,
    hq, setHead, clampMove, State.loc]

end

/-! ### The clamps at the end of a movement (R33, R34) -/

section
variable (s : State)

theorem clampsClosed_pcu (h : s.wsq.topUpDue = false) :
    (clampsClosed s).pcu =
      { s.pcu with
        clamp := some .closed, clampValve := .hold, clampTimer := none, reversal := false, slip := .armed, slipCount := 0 } := by
  rw [clampsClosed, clampReport_pcu]
  · rfl
  · exact .inl h

theorem clampsClosed_clamp : (clampsClosed s).pcu.clamp = some .closed := by simp [clampsClosed]

theorem clampsClosed_slip : (clampsClosed s).pcu.slip = .armed := clampReport_slip _ _ (armSlip_slip _)

theorem clampsClosed_station :
    (clampsClosed s).wsq.station =
      if s.wsq.station = .clamping ∨ s.wsq.station = .unclamping then .clamped else s.wsq.station := by
  simp [clampsClosed, clampReport_station]

theorem clampsClosed_wrs : (clampsClosed s).wrs = s.wrs := by simp [clampsClosed]

theorem outgoing_clampsClosed (o : QueuedOrder) (moving : s.wsq.station = .clamping ∨ s.wsq.station = .unclamping)
    (ho : executing s = some o) :
    outgoing (clampsClosed s) = outgoing s ++ [clampDoneNotice s.wsq.clampFail o] :=
  outgoing_clampReport _ _ o moving ho

theorem clampsClosed_lkc (still : ¬(s.wsq.station = .clamping ∨ s.wsq.station = .unclamping)) :
    (clampsClosed s).lkc = s.lkc := by
  rw [clampsClosed, clampReport_still _ _ (by simpa using still)]
  simp

theorem clampsOpen_pcu :
    (clampsOpen s).pcu =
      { s.pcu with
        clamp := some .open, clampValve := .hold, clampTimer := none, reversal := false, clampForceInUse := none } := by
  rw [clampsOpen, clampReport_pcu _ _ (.inr (by decide))]
  rfl

theorem clampsOpen_station :
    (clampsOpen s).wsq.station =
      if s.wsq.station = .clamping ∨ s.wsq.station = .unclamping then .idle else s.wsq.station := by
  simp [clampsOpen, clampReport_station]

theorem clampsOpen_wrs : (clampsOpen s).wrs = s.wrs := by simp [clampsOpen]

theorem outgoing_clampsOpen (o : QueuedOrder) (moving : s.wsq.station = .clamping ∨ s.wsq.station = .unclamping)
    (ho : executing s = some o) :
    outgoing (clampsOpen s) = outgoing s ++ [clampDoneNotice s.wsq.clampFail o] :=
  outgoing_clampReport _ _ o moving ho

theorem clampsOpen_lkc (still : ¬(s.wsq.station = .clamping ∨ s.wsq.station = .unclamping)) :
    (clampsOpen s).lkc = s.lkc := by
  rw [clampsOpen, clampReport_still _ _ (by simpa using still)]
  simp

end

/-! ### The commands, where they can happen -/

section
variable (s : State) (awake : s.inReset = false)
include awake

theorem exec_takeHeadOrder_clamped (temp : Option Int) (station : s.wsq.station = .clamped) :
    exec (.takeHeadOrder temp) s = .next (takeHead temp s) := by
  have possible : takesOrders s.wsq.station = true := by rw [station]; rfl
  show onEvent _ _ _ = _
  rw [possible, onEvent_taken _ s awake]

theorem exec_clampForceReached_closing (f : Nat) (inUse : s.pcu.clampForceInUse = some f) (reached : f ≤ s.pcu.pressure)
    (noTopUp : s.pcu.topUp = false) (closing : s.pcu.clamp = some .closing) (driven : s.pcu.stopped = false)
    (timed : s.pcu.clampTimer.isSome = true) : exec .clampForceReached s = .next (clampsClosed s) := by
  have possible : (forceInUseReached s && (s.pcu.topUp || clampDriven .closing s)) = true := by
    simp [forceInUseReached, inUse, reached, clampDriven, closing, driven, timed]
  show onEvent _ _ _ = _
  rw [possible, onEvent_taken _ s awake, clampForceHit, if_neg (by simp [noTopUp])]

theorem exec_clampForceReached_topUp (f : Nat) (inUse : s.pcu.clampForceInUse = some f) (reached : f ≤ s.pcu.pressure)
    (topUp : s.pcu.topUp = true) : exec .clampForceReached s = .next (endTopUp s) := by
  have possible : (forceInUseReached s && (s.pcu.topUp || clampDriven .closing s)) = true := by
    simp [forceInUseReached, inUse, reached, topUp]
  show onEvent _ _ _ = _
  rw [possible, onEvent_taken _ s awake, clampForceHit, if_pos topUp]

theorem exec_clampReleased_opening (opening : s.pcu.clamp = some .opening) (driven : s.pcu.stopped = false)
    (timed : s.pcu.clampTimer.isSome = true) (released : s.pcu.pressure < s.loc.clampRelKn) :
    exec .clampReleased s = .next (clampsOpen s) := by
  have possible : (clampDriven .opening s && !readsClosed s s.pcu.pressure) = true := by
    simp [clampDriven, opening, driven, timed, readsClosed, released]
  show onEvent _ _ _ = _
  rw [possible, onEvent_taken _ s awake]

theorem exec_clampTimerExpiry_due (expired : due s.pcu.clampTimer = true) :
    exec .clampTimerExpiry s = .next (if s.pcu.topUp then endTopUp s else movementTimesOut s) := by
  show onEvent _ _ _ = _
  rw [expired, onEvent_taken _ s awake, clampTimesOut]

end

/-- Settles O47: each command is rewritten to the operation it comes to, whose effects on PCU, the station and the frames handed
to LKC stand above; what it leaves stands in the frame lemmas. -/
theorem clampMovementsEnd : Obligations.ClampMovementsEnd := by
  intro s o awake moving done
  have notice : clampDoneNotice s.wsq.clampFail o = done := by
    simp only [done, clampDoneNotice]
    cases s.wsq.clampFail <;> rfl
  refine ⟨?unclamp, ?closed, ?opened, ?topUp, ?timer⟩
  case unclamp =>
    intro temp rest queue waits kind station closed drive
    refine ⟨_, exec_takeHeadOrder_clamped s awake temp station, ?_⟩
    rw [takeHead_unclamp s temp o rest queue waits kind station closed drive]
    simp [clampMove, executing, outgoing, sameBase, State.loc]
  case closed =>
    intro f inUse reached noTopUp closing driven timed
    refine ⟨_, exec_clampForceReached_closing s awake f inUse reached noTopUp closing driven timed, clampsClosed_pcu s,
      clampsClosed_clamp s, clampsClosed_slip s, clampsClosed_station s, ?_, clampsClosed_lkc s, ?_⟩
    · intro mv ho; rw [outgoing_clampsClosed s o mv ho, notice]
    · simp [sameBase, clampsClosed_wrs]
  case opened =>
    intro opening driven timed released
    refine ⟨_, exec_clampReleased_opening s awake opening driven timed released, clampsOpen_pcu s, clampsOpen_station s, ?_,
      clampsOpen_lkc s, ?_⟩
    · intro mv ho; rw [outgoing_clampsOpen s o mv ho, notice]
    · simp [sameBase, clampsOpen_wrs]
  case topUp =>
    intro topUp ended
    refine ⟨fun f inUse reached => exec_clampForceReached_topUp s awake f inUse reached topUp, fun expired => ?_⟩
    rw [exec_clampTimerExpiry_due s awake expired, if_pos topUp]
    rfl
  case timer =>
    intro noTopUp expired
    refine ⟨movementTimesOut s, by rw [exec_clampTimerExpiry_due s awake expired, if_neg (by simp [noTopUp])],
      fun st => movementTimesOut_reverses s st, fun reversed => ?_⟩
    have ends : movementTimesOut s = reversalTimeout s := by rw [movementTimesOut, if_pos reversed]
    obtain ⟨valve, timer, mode⟩ := reversalTimeout_pcu s
    rw [ends]
    exact ⟨reversalTimeout_lastFault s, by simp, valve, timer, mode, reversalTimeout_drive s, reversalTimeout_station s,
      by simp [sameBase], fun mv ho abort => outgoing_reversalTimeout s o mv ho abort⟩

end Sys2Proof.Machine

/-! RELEASE_HOLD (O30): what an order that is handled at once and does nothing but answer leaves, which record a weld number
finds in the store, and what the release makes of the slots (R176). -/

namespace Sys2Proof.Machine

/-! ### An order that is handled at once, and its answer -/

/-- The answer joins the frames handed to LKC, and beside it only the line is freed and the idle timer restarted (R11, R160). -/
theorem sendAnswer_dispatched (b : OrderBody) (dest code tag result : Nat) (reason : Reason) (data : List Byte) (s : State) :
    let t := sendAnswer dest code tag result reason data .answer (restartIdle b (lineFree s))
    outgoing t = outgoing s ++ [answerFrame dest code tag result reason data .answer] ∧ onlyAnswered s t := by
  obtain ⟨w, i, freed⟩ := restartIdle_lineFree b s
  obtain ⟨w', q, l, sent, joined⟩ :=
    sendOther_outgoing (answerFrame dest code tag result reason data .answer) (restartIdle b (lineFree s)) (.inl rfl)
  intro t
  have answered : t =
      { s with
        lkc.wait := w', lkc.lineBusy := false, lkc.queue := q, lkc.waiters := l, wsq.idleTimer := i } :=
    sent.trans (by rw [freed])
  rw [answered]
  exact ⟨joined.trans (by rw [freed]; rfl), by simp [onlyAnswered, sameBase, sameLink, sameHead]⟩

theorem exec_releaseHold_now (src tag n : Nat) (s : State) (now : takesOrdersNow s) :
    exec (.releaseHold src tag n) s =
      .next (handleRelease src tag n (restartIdle (.releaseHold tag n) (lineFree s))) := by
  have ⟨_, _, _, _, _, noneHeld, _⟩ := now
  exact congrArg Host.Outcome.next (receiveOrder_now src (.releaseHold tag n) s now rfl (by simp [noneHeld]))

/-! ### The record of a weld number in the store (R176) -/

@[simp] theorem storedRecord_zero (w : Wrs) : storedRecord w 0 = none := if_pos rfl

/-- A record found stands in a slot, under the number asked for. -/
theorem storedRecord_some {w : Wrs} {n : Nat} {r : WeldRecord} {held : Bool} (found : storedRecord w n = some (r, held)) :
    r.weldNo = n ∧ ∃ x ∈ w.slots, x.readable = some (r, held) := by
  by_cases zero : n = 0
  · simp [zero] at found
  · rw [storedRecord, if_neg zero, lookup, if_neg zero] at found
    exact ⟨by simpa using List.find?_some found, List.mem_filterMap.mp (List.mem_of_find?_eq_some found)⟩

theorem storedRecord_eq_none_iff (w : Wrs) (n : Nat) :
    storedRecord w n = none ↔ n = 0 ∨ ∀ x ∈ w.slots, ∀ r held, x.readable = some (r, held) → r.weldNo ≠ n := by
  by_cases zero : n = 0
  · simp [zero]
  · rw [storedRecord, if_neg zero, lookup, if_neg zero, List.find?_eq_none, or_iff_right zero]
    simp only [List.mem_filterMap]
    exact ⟨fun h x hx r held reads => by simpa using h (r, held) ⟨x, hx, reads⟩,
      fun h p ⟨x, hx, reads⟩ => by simpa using h x hx p.1 p.2 reads⟩

section
variable {w : Wrs} {n i : Nat} {r : WeldRecord}
  (unique : ∀ (j : Nat) x held, (w.slots[j]?).bind Slot.readable = some (x, held) → x.weldNo = n → j = i)
include unique

/-- The record of the one slot that holds the number is the record found. -/
theorem storedRecord_of_unique {x : Slot} {held : Bool} (pos : n ≠ 0) (slot : w.slots[i]? = some x)
    (reads : x.readable = some (r, held)) (number : r.weldNo = n) : storedRecord w n = some (r, held) := by
  cases found : storedRecord w n with
  | none =>
    obtain zero | absent := (storedRecord_eq_none_iff w n).mp found
    · exact absurd zero pos
    · exact absurd number (absent x (List.mem_of_getElem? slot) r held reads)
  | some p =>
    obtain ⟨number', y, mem, reads'⟩ := storedRecord_some found
    obtain ⟨j, slot'⟩ := List.getElem?_of_mem mem
    obtain rfl : j = i := unique j p.1 p.2 (by rw [slot']; exact reads') number'
    obtain rfl : y = x := Option.some.inj (slot'.symm.trans slot)
    exact reads'.symm.trans reads

/-- Releasing a number that one slot holds writes that slot, and no other. -/
theorem map_releaseSlot_of_unique (slot : w.slots[i]? = some (.held r)) (number : r.weldNo = n) :
    w.slots.map (releaseSlot n) = w.slots.set i (.valid r) := by
  obtain ⟨inRange, -⟩ := List.getElem?_eq_some_iff.mp slot
  refine List.ext_getElem? fun j => ?_
  rw [List.getElem?_map]
  by_cases here : j = i
  · rw [here, slot, List.getElem?_set_self inRange]
    simp [releaseSlot, number]
  · rw [List.getElem?_set_ne (Ne.symm here)]
    match at_j : w.slots[j]? with
    | none | some .empty | some .reserved | some (.valid _) => rfl
    | some (.held x) =>
      have other : x.weldNo ≠ n := fun same => here (unique j x true (by rw [at_j]; rfl) same)
      simp [releaseSlot, other]

end

/-- One held record fewer once its slot is VALID. -/
theorem heldCount_set_valid (w : Wrs) (i : Nat) (r : WeldRecord) (slot : w.slots[i]? = some (.held r)) :
    heldCount { w with slots := w.slots.set i (.valid r) } + 1 = heldCount w := by
  obtain ⟨inRange, at_i⟩ := List.getElem?_eq_some_iff.mp slot
  have some_held : 0 < w.slots.countP Slot.isHeld :=
    List.countP_pos_iff.mpr ⟨.held r, List.mem_of_getElem? slot, rfl⟩
  simp only [heldCount, List.countP_set inRange, at_i, Slot.isHeld, if_true, Bool.false_eq_true, if_false]
  omega

/-! ### RELEASE_HOLD (R176) -/

section
variable (src tag n : Nat) (s : State)

theorem handleRelease_absent (absent : storedRecord s.wrs n = none) :
    handleRelease src tag n s = refuse src 21 tag .notFound s := by simp only [handleRelease, absent]

theorem handleRelease_valid (r : WeldRecord) (valid : storedRecord s.wrs n = some (r, false)) :
    handleRelease src tag n s = refuse src 21 tag .notHeld s := by simp only [handleRelease, valid]

theorem handleRelease_held (r : WeldRecord) (held : storedRecord s.wrs n = some (r, true)) :
    handleRelease src tag n s = accept src 21 tag (releaseHeld n s) := by simp only [handleRelease, held]

/-- The slots do not matter to the line. -/
theorem releaseHeld_lineFree : releaseHeld n (lineFree s) = lineFree (releaseHeld n s) := apply_ite (releaseHeld n) _ _ _

/-- The slots do not matter to the idle timer. -/
theorem releaseHeld_restartIdle (b : OrderBody) :
    releaseHeld n (restartIdle b s) = restartIdle b (releaseHeld n s) := apply_ite (releaseHeld n) _ _ _

end

/-- Settles O30: the lookup decides which of the three answers RELEASE_HOLD gives, and the one slot that holds the number is
the only one that the release writes. -/
theorem releaseHoldFreesTheSlot : Obligations.ReleaseHoldFreesTheSlot := by
  intro src tag n s now
  have exec_eq := exec_releaseHold_now src tag n s now
  have keeps : (restartIdle (.releaseHold tag n) (lineFree s)).wrs = s.wrs := by simp
  refine ⟨?held, ?valid, ?absent⟩
  case held =>
    intro i r pos slot number unique
    have found := storedRecord_of_unique unique pos slot rfl number
    rw [handleRelease_held _ _ _ _ r (by rw [keeps]; exact found), releaseHeld_restartIdle, releaseHeld_lineFree] at exec_eq
    obtain ⟨sent, base, link, head, stl, sht, orq, wrs, wsq⟩ :=
      sendAnswer_dispatched (.releaseHold tag n) src 21 tag 0 .none [] (releaseHeld n s)
    have written : (releaseHeld n s).wrs = { s.wrs with slots := s.wrs.slots.set i (.valid r) } := by
      rw [← map_releaseSlot_of_unique unique slot number]; rfl
    refine ⟨_, exec_eq, wrs.trans written, ?_, sent, base, link, head, stl, sht, orq, wsq⟩
    exact (congrArg (heldCount · + 1) (wrs.trans written)).trans (heldCount_set_valid s.wrs i r slot)
  case valid =>
    intro i r pos slot number unique
    have found := storedRecord_of_unique unique pos slot rfl number
    rw [handleRelease_valid _ _ _ _ r (by rw [keeps]; exact found)] at exec_eq
    exact ⟨_, exec_eq, sendAnswer_dispatched _ src 21 tag 1 .notHeld [] s⟩
  case absent =>
    intro absent
    have missing := (storedRecord_eq_none_iff s.wrs n).mpr absent
    rw [handleRelease_absent _ _ _ _ (by rw [keeps]; exact missing)] at exec_eq
    exact ⟨_, exec_eq, sendAnswer_dispatched _ src 21 tag 1 .notFound [] s⟩

end Sys2Proof.Machine

/-! The invariants of Safety.lean, carried through every operation. `Keeps wf loose s t` says that what an invariant asks of
`s` still holds of `t`; each operation of the machine has one lemma that adds it to such a chain, whose proof follows the
operation's definition. An operation that takes a run condition from a running drive is followed by loseRun: `loose` says
that the chain stands between the two. -/

namespace Sys2Proof.Machine

/-! ### What the invariants speak of -/

/-- The counters of countersSound. -/
@[simp] def State.counters (s : State) : List Nat :=
  [s.stl.sagCount, s.stl.pauseCount, s.sht.admissions, s.sht.claimTimeouts, s.sht.peerLosses, s.sht.staleDrains,
    s.sht.discordEvents, s.sht.oversubscriptions, s.sht.ignoredYields, s.lkc.crcErrors, s.lkc.lengthErrors,
    s.lkc.badKinds, s.lkc.foreignOrders, s.lkc.collisions, s.lkc.jammedDrops, s.lkc.queueFullDrops, s.orq.ordersLost]

/-- The fields of the state that an invariant reads. -/
structure Watched where
  inReset : Bool
  node : Nat
  drive : DriveState
  mode : DriveMode
  flux : Int
  stop : StopState
  pause : PauseState
  clamp : Option ClampState
  claims : List Claim
  clock : Nat
  queue : List TxFrame
  waiters : List TxFrame
  slot : Option TxFrame
  sending : Bool
  collisionRun : Nat
  orders : List QueuedOrder
  heldList : List Delivered
  arrivals : List Delivered
  pending : List Instr
  counters : List Nat

/-- What the invariants read of a state. -/
@[simp] def State.watched (s : State) : Watched where
  inReset := s.inReset
  node := s.node
  drive := s.cdr.drive
  mode := s.cdr.mode
  flux := s.cdr.flux
  stop := s.stl.stop
  pause := s.stl.pause
  clamp := s.pcu.clamp
  claims := s.sht.claims
  clock := s.sht.clock
  queue := s.lkc.queue
  waiters := s.lkc.waiters
  slot := s.lkc.slot
  sending := s.lkc.sending
  collisionRun := s.lkc.collisionRun
  orders := s.orq.queue
  heldList := s.orq.heldList
  arrivals := s.orq.arrivals
  pending := s.pending
  counters := s.counters

/-- driveSound of a station that is not held in reset; with `loose` a running drive may have lost a run condition. -/
def State.driveHeld (loose : Prop) (s : State) : Prop :=
  s.inReset = false ∧ (s.cdr.drive = .blocked ↔ s.cdr.mode = .off) ∧
    (s.cdr.drive = .running → s.runConditions = true ∨ loose)

/-- shareSound but for the waiting commands. -/
def State.tableSound (s : State) : Prop :=
  s.node ≤ 7 ∧ s.sht.clock ≤ top32 ∧ claimListSound s.sht.claims

/-- What the invariants ask of `s` holds of `t` too: of the claim list if the operands are well-formed, of the drive in a
station that is not held in reset. -/
structure Keeps (wf loose : Prop) (s t : State) : Prop where
  drive : s.inReset = false → s.driveSound → t.driveHeld loose
  table : wf → s.tableSound → t.tableSound
  link : s.linkSound → t.linkSound
  orders : s.ordersSound → t.ordersSound
  flux : s.fluxSound → t.fluxSound
  counters : s.countersSound → t.countersSound
  pending : t.pending = s.pending
  clock : s.sht.clock ≤ t.sht.clock ∧ (s.sht.clock ≤ top32 → t.sht.clock ≤ top32)

theorem State.driveHeld.of_sound {s : State} (awake : s.inReset = false) (h : s.driveSound) : s.driveHeld False :=
  ⟨awake, h.1, fun running => .inl (h.2 running).2⟩

theorem State.driveHeld.sound {s : State} : s.driveHeld False → s.driveSound
  | ⟨awake, off, runs⟩ => ⟨off, fun running => ⟨awake, (runs running).resolve_right id⟩⟩

/-! ### The invariants read no more than that -/

section
variable {loose : Prop} {t u : State} (e : { u.watched with counters := [] } = { t.watched with counters := [] })
include e

theorem runConditions_of_watched : u.runConditions = t.runConditions := by
  simp only [State.watched, Watched.mk.injEq] at e
  simp [State.runConditions, State.drawing, State.ownClaim, State.paused, e]

theorem driveHeld_of_watched (h : t.driveHeld loose) : u.driveHeld loose := by
  have runs := runConditions_of_watched e
  simp only [State.watched, Watched.mk.injEq] at e
  simpa [State.driveHeld, runs, e] using h

theorem tableSound_of_watched (h : t.tableSound) : u.tableSound := by
  simp only [State.watched, Watched.mk.injEq] at e
  simpa [State.tableSound, e] using h

theorem linkSound_of_watched (h : t.linkSound) : u.linkSound := by
  simp only [State.watched, Watched.mk.injEq] at e
  simpa [State.linkSound, e] using h

theorem ordersSound_of_watched (h : t.ordersSound) : u.ordersSound := by
  simp only [State.watched, Watched.mk.injEq] at e
  simpa [State.ordersSound, e] using h

theorem fluxSound_of_watched (h : t.fluxSound) : u.fluxSound := by
  simp only [State.watched, Watched.mk.injEq] at e
  simpa [State.fluxSound, e] using h

end

/-! ### Chains -/

section
variable {wf loose loose' : Prop} {s t u : State}

theorem Keeps.refl (s : State) : Keeps wf loose s s where
  drive := fun awake sound => ⟨awake, sound.1, fun running => .inl (sound.2 running).2⟩
  table := fun _ h => h
  link := id
  orders := id
  flux := id
  counters := id
  pending := rfl
  clock := ⟨Nat.le_refl _, id⟩

/-- In the middle of an operation more is allowed. -/
theorem Keeps.loosen (h : Keeps wf loose s t) : Keeps wf True s t :=
  { h with drive := fun awake sound =>
      have ⟨awake', off, _⟩ := h.drive awake sound
      ⟨awake', off, fun _ => .inr trivial⟩ }

/-- Nothing that an invariant reads has changed but counters, and these stay within their bounds. -/
theorem Keeps.setCounters (h : Keeps wf loose s t) (e : { u.watched with counters := [] } = { t.watched with counters := [] })
    (sound : t.countersSound → u.countersSound) : Keeps wf loose s u where
  drive := fun awake d => driveHeld_of_watched e (h.drive awake d)
  table := fun w d => tableSound_of_watched e (h.table w d)
  link := fun d => linkSound_of_watched e (h.link d)
  orders := fun d => ordersSound_of_watched e (h.orders d)
  flux := fun d => fluxSound_of_watched e (h.flux d)
  counters := fun d => sound (h.counters d)
  pending := (congrArg Watched.pending e).trans h.pending
  clock := by
    rw [show u.sht.clock = t.sht.clock from congrArg Watched.clock e]
    exact h.clock

/-- Nothing that an invariant reads has changed. -/
theorem Keeps.still (h : Keeps wf loose s t) (e : u.watched = t.watched) : Keeps wf loose s u := by
  refine h.setCounters (by rw [e]) fun d => ?_
  have same : u.counters = t.counters := congrArg Watched.counters e
  show ∀ n ∈ u.counters, n ≤ 65535
  rw [same]
  exact d

/-- Only the fields of the drive's invariant have changed. -/
theorem Keeps.setDrive (h : Keeps wf loose s t)
    (e : u.watched =
      { t.watched with
        drive := u.cdr.drive, mode := u.cdr.mode, stop := u.stl.stop, pause := u.stl.pause, clamp := u.pcu.clamp })
    (sound : s.inReset = false → s.driveSound → t.driveHeld loose → u.driveHeld loose') : Keeps wf loose' s u := by
  let v : State := { t with
    cdr.drive := u.cdr.drive, cdr.mode := u.cdr.mode, stl.stop := u.stl.stop, stl.pause := u.stl.pause,
    pcu.clamp := u.pcu.clamp }
  have same : { v.watched with counters := [] } = { u.watched with counters := [] } := by
    rw [e]; rfl
  have k : Keeps wf loose' s v :=
    { h with drive := fun awake d => driveHeld_of_watched same (sound awake d (h.drive awake d)) }
  exact k.still e

/-- Of the drive's invariant only the run conditions have changed, not for the worse. -/
theorem Keeps.eased (h : Keeps wf loose s t)
    (e : u.watched = { t.watched with stop := u.stl.stop, pause := u.stl.pause, clamp := u.pcu.clamp })
    (better : t.runConditions = true → u.runConditions = true ∨ loose) : Keeps wf loose s u := by
  have drive : u.cdr.drive = t.cdr.drive := congrArg Watched.drive e
  have mode : u.cdr.mode = t.cdr.mode := congrArg Watched.mode e
  have awake : u.inReset = t.inReset := congrArg Watched.inReset e
  refine h.setDrive (by rw [e, drive, mode]; rfl) fun _ _ ⟨awake', off, runs⟩ => ?_
  refine ⟨awake.trans awake', by rw [drive, mode]; exact off, fun running => ?_⟩
  exact (runs (drive ▸ running)).elim better .inr

/-- Of the run conditions only the pause has changed, and no pause has begun. -/
theorem Keeps.setPause (h : Keeps wf loose s t) (e : u.watched = { t.watched with pause := u.stl.pause })
    (none_begun : t.paused = true ∨ u.paused = false) : Keeps wf loose s u := by
  refine h.eased (e.trans ?_) fun r => .inl ?_
  · rw [show u.stl.stop = t.stl.stop from congrArg Watched.stop e,
      show u.pcu.clamp = t.pcu.clamp from congrArg Watched.clamp e]; rfl
  · have running : t.drawing = true ∧ t.stl.stop = .run ∧ t.paused = false ∧ t.pcu.clamp = some .closed := by
      simpa [State.runConditions, and_assoc] using r
    obtain ⟨drawing, stop, unpaused, closed⟩ := running
    have unpaused' : u.paused = false := none_begun.resolve_left (by simp [unpaused])
    simp only [State.watched, Watched.mk.injEq] at e
    simpa [State.runConditions, unpaused', State.drawing, State.ownClaim, e, stop, closed] using drawing

/-- Of the run conditions only the clamps have changed. -/
theorem Keeps.setClamp (h : Keeps wf loose s t) (e : u.watched = { t.watched with clamp := u.pcu.clamp })
    (closed : t.pcu.clamp = some .closed → u.pcu.clamp = some .closed ∨ loose) : Keeps wf loose s u := by
  refine h.eased (e.trans ?_) fun r => ?_
  · rw [show u.stl.stop = t.stl.stop from congrArg Watched.stop e,
      show u.stl.pause = t.stl.pause from congrArg Watched.pause e]; rfl
  · have running : t.drawing = true ∧ t.stl.stop = .run ∧ t.paused = false ∧ t.pcu.clamp = some .closed := by
      simpa [State.runConditions, and_assoc] using r
    obtain ⟨drawing, stop, unpaused, was_closed⟩ := running
    refine (closed was_closed).imp_left fun now_closed => ?_
    have unpaused' : u.paused = t.paused := by
      rw [State.paused, State.paused, show u.stl.pause = t.stl.pause from congrArg Watched.pause e]
    simp only [State.watched, Watched.mk.injEq] at e
    simpa [State.runConditions, unpaused', unpaused, State.drawing, State.ownClaim, e, stop, now_closed] using drawing

/-- Only the claim list and its clock have changed. -/
theorem Keeps.setTable (h : Keeps wf loose s t)
    (e : u.watched = { t.watched with claims := u.sht.claims, clock := u.sht.clock })
    (rises : t.sht.clock ≤ u.sht.clock) (top : t.sht.clock ≤ top32 → u.sht.clock ≤ top32)
    (sound : wf → t.tableSound → u.tableSound)
    (drawn : s.inReset = false → s.driveSound → t.cdr.drive = .running → t.drawing = true → u.drawing = true ∨ loose) :
    Keeps wf loose s u := by
  let v : State := { t with sht.claims := u.sht.claims, sht.clock := u.sht.clock }
  have same : { v.watched with counters := [] } = { u.watched with counters := [] } := by
    rw [e]; rfl
  have k : Keeps wf loose s v :=
    { h with
      clock := ⟨Nat.le_trans h.clock.1 rises, top ∘ h.clock.2⟩
      table := fun w d => tableSound_of_watched same (sound w (h.table w d))
      drive := fun awake d => by
        obtain ⟨awake', off, runs⟩ := h.drive awake d
        refine ⟨awake', off, fun running => ?_⟩
        obtain r | r := runs running
        · have conds : t.drawing = true ∧ t.stl.stop = .run ∧ t.paused = false ∧ t.pcu.clamp = some .closed := by
            simpa [State.runConditions, and_assoc] using r
          obtain ⟨drawing, stop, unpaused, closed⟩ := conds
          refine (drawn awake d running drawing).imp_left fun still_drawing => ?_
          have dv : v.drawing = true := by
            have node : u.node = t.node := congrArg Watched.node e
            simpa [State.drawing, State.ownClaim, v, node] using still_drawing
          simp only [State.runConditions, dv]
          simp [v, stop, closed, show v.paused = t.paused from rfl, unpaused]
        · exact .inr r }
  exact k.still e

/-- Only the link has changed. -/
theorem Keeps.setLink (h : Keeps wf loose s t)
    (e : u.watched =
      { t.watched with
        queue := u.lkc.queue, waiters := u.lkc.waiters, slot := u.lkc.slot, sending := u.lkc.sending,
        collisionRun := u.lkc.collisionRun })
    (sound : s.linkSound → t.linkSound → u.linkSound) : Keeps wf loose s u := by
  let v : State := { t with
    lkc.queue := u.lkc.queue, lkc.waiters := u.lkc.waiters, lkc.slot := u.lkc.slot, lkc.sending := u.lkc.sending,
    lkc.collisionRun := u.lkc.collisionRun }
  have k : Keeps wf loose s v := { h with link := fun d => sound d (h.link d) }
  exact k.still e

/-- Only the lists of orders have changed. -/
theorem Keeps.setOrders (h : Keeps wf loose s t)
    (e : u.watched =
      { t.watched with orders := u.orq.queue, heldList := u.orq.heldList, arrivals := u.orq.arrivals })
    (sound : s.ordersSound → t.ordersSound → u.ordersSound) : Keeps wf loose s u := by
  let v : State := { t with orq.queue := u.orq.queue, orq.heldList := u.orq.heldList, orq.arrivals := u.orq.arrivals }
  have k : Keeps wf loose s v := { h with orders := fun d => sound d (h.orders d) }
  exact k.still e

/-- Only the flux correction has changed. -/
theorem Keeps.setFlux (h : Keeps wf loose s t) (e : u.watched = { t.watched with flux := u.cdr.flux })
    (sound : t.fluxSound → u.fluxSound) : Keeps wf loose s u := by
  let v : State := { t with cdr.flux := u.cdr.flux }
  have k : Keeps wf loose s v := { h with flux := fun d => sound (h.flux d) }
  exact k.still e

theorem bump16_le {n : Nat} (h : n ≤ 65535) : bump16 n ≤ 65535 := by
  unfold bump16 bumpTo; split <;> omega

/-- One counter, by its place in State.counters, has been raised. -/
theorem Keeps.counted (h : Keeps wf loose s t) (i : Nat)
    (e : u.watched = { t.watched with counters := t.counters.modify i bump16 }) : Keeps wf loose s u := by
  refine h.setCounters (by rw [e]) fun d => ?_
  have raised : u.counters = t.counters.modify i bump16 := congrArg Watched.counters e
  show ∀ n ∈ u.counters, n ≤ 65535
  intro n hn
  rw [raised] at hn
  obtain ⟨j, hj⟩ := List.mem_iff_getElem?.mp hn
  rw [List.getElem?_modify] at hj
  obtain ⟨m, hm, raised⟩ := Option.map_eq_some_iff.mp hj
  have le : m ≤ 65535 := d m (List.mem_of_getElem? hm)
  rw [← raised]
  split
  · exact bump16_le le
  · exact le

theorem keeps_ite {c : Prop} [Decidable c] {a b : State} (yes : c → Keeps wf loose s a)
    (no : ¬c → Keeps wf loose s b) : Keeps wf loose s (if c then a else b) := by
  split
  · exact yes ‹c›
  · exact no ‹¬c›

end
end Sys2Proof.Machine

/-! What every operation keeps of the invariants, from the link up to the claim list. -/

namespace Sys2Proof.Machine

section
variable {wf loose loose' : Prop} {s t : State}

/-! ### The link -/

theorem keeps_armWait (h : Keeps wf loose s t) : Keeps wf loose s (armWait t) :=
  keeps_ite (fun _ => h.still rfl) fun _ => h

theorem keeps_lineFree (h : Keeps wf loose s t) : Keeps wf loose s (lineFree t) := keeps_armWait (h.still rfl)

theorem keeps_startSettle (h : Keeps wf loose s t) : Keeps wf loose s (startSettle t) :=
  keeps_ite (fun _ => h.still rfl) fun _ => h

theorem keeps_claimTransmitted (n : Nat) (h : Keeps wf loose s t) : Keeps wf loose s (claimTransmitted n t) :=
  keeps_ite (fun _ => keeps_startSettle h) fun _ => h

theorem keeps_claimDropped (n : Nat) (h : Keeps wf loose s t) : Keeps wf loose s (claimDropped n t) :=
  keeps_ite (fun _ => keeps_ite (fun _ => keeps_startSettle h) fun _ => h.still rfl) fun _ => h

theorem keeps_beaconTransmitted (names : Option Nat) (h : Keeps wf loose s t) :
    Keeps wf loose s (beaconTransmitted names t) := by
  cases names with
  | none => exact h
  | some n => exact keeps_ite (fun _ => keeps_ite (fun _ => keeps_startSettle (h.still rfl)) fun _ => h.still rfl) fun _ => h

theorem keeps_recordReported (part read : Nat) (h : Keeps wf loose s t) :
    Keeps wf loose s (recordReported part read t) :=
  keeps_ite (fun _ => h.still rfl) fun _ => h

theorem keeps_reportTransmitted (p : Purpose) (h : Keeps wf loose s t) : Keeps wf loose s (reportTransmitted p t) := by
  cases p with
  | beacon names => exact keeps_beaconTransmitted names h
  | claim n => exact keeps_claimTransmitted n h
  | recordPart part read => exact keeps_recordReported part read h
  | restartAnswer => exact h.still rfl
  | yield _ | answer | readAnswer | doneNotice | notice => exact h

theorem keeps_reportDropped (p : Purpose) (h : Keeps wf loose s t) : Keeps wf loose s (reportDropped p t) := by
  cases p with
  | claim n => exact keeps_claimDropped n h
  | recordPart part read => exact keeps_recordReported part read h
  | restartAnswer => exact h.still rfl
  | beacon _ | yield _ | answer | readAnswer | doneNotice | notice => exact h

/-- Orders taken out of the queue leave a sound one. -/
theorem ordersSound_sublist (q : List QueuedOrder) (u : State) (sub : q.Sublist t.orq.queue)
    (tail : q.tail.Sublist t.orq.queue.tail) (queue : u.orq.queue = q) (held : u.orq.heldList = t.orq.heldList)
    (arrivals : u.orq.arrivals = t.orq.arrivals) (d : t.ordersSound) : u.ordersSound := by
  obtain ⟨len, tags, waiting, d'⟩ := d
  rw [State.ordersSound, queue, held, arrivals]
  exact ⟨Nat.le_trans sub.length_le len, tags.sublist sub, fun o ho => waiting o (tail.subset ho), d'⟩

theorem popEnded_eq (q : List QueuedOrder) : popEnded q = q ∨ popEnded q = q.tail := by
  cases q with
  | nil => exact .inl rfl
  | cons o l => by_cases ended : o.status == .ended <;> simp [popEnded, ended]

theorem popEnded_sublist (q : List QueuedOrder) : (popEnded q).Sublist q ∧ (popEnded q).tail.Sublist q.tail := by
  obtain e | e := popEnded_eq q
  · rw [e]
    exact ⟨List.Sublist.refl _, List.Sublist.refl _⟩
  · rw [e]
    exact ⟨q.tail_sublist, q.tail.tail_sublist⟩

theorem keeps_placed (p : Purpose) (h : Keeps wf loose s t) : Keeps wf loose s (placed p t) := by
  cases p with
  | doneNotice =>
    obtain ⟨whole, tail⟩ := popEnded_sublist t.orq.queue
    exact h.setOrders rfl fun _ => ordersSound_sublist (popEnded t.orq.queue) _ whole tail rfl rfl rfl
  | readAnswer => exact h.still rfl
  | recordPart part _ => exact keeps_ite (fun _ => h.still rfl) fun _ => h.still rfl
  | beacon _ | claim _ | yield _ | answer | restartAnswer | notice => exact h

theorem shareFirst_concat (f : TxFrame) (q : List TxFrame) (other : f.kind.isShare = false) (h : shareFirst q) :
    shareFirst (q ++ [f]) := by
  simp only [shareFirst, List.pairwise_append, List.pairwise_singleton, List.mem_singleton, true_and]
  exact ⟨h, fun a _ b hb share => by simp [hb, other] at share⟩

theorem keeps_sendOther (f : TxFrame) (other : f.kind.isShare = false) (h : Keeps wf loose s t) :
    Keeps wf loose s (sendOther f t) := by
  refine keeps_ite (fun room => keeps_armWait (keeps_placed _ (h.setLink rfl fun _ d => ?_))) fun _ => h.setLink rfl fun _ d => ?_
  · obtain ⟨_, first, d'⟩ := d
    exact ⟨by rw [List.length_append]; exact room.1, shareFirst_concat f _ other first, d'⟩
  · obtain ⟨len, first, waiting, d'⟩ := d
    refine ⟨len, first, fun g hg => ?_, d'⟩
    obtain hg | rfl : g ∈ t.lkc.waiters ∨ g = f := by simpa using hg
    · exact waiting g hg
    · exact other

theorem shareFirst_insertShare (f : TxFrame) (q : List TxFrame) (share : f.kind.isShare = true) (h : shareFirst q) :
    shareFirst (insertShare f q) := by
  have none_behind : ∀ l : List TxFrame, shareFirst l → ∀ g ∈ l.dropWhile (·.kind.isShare), g.kind.isShare = false := by
    intro l
    induction l with
    | nil => simp
    | cons a l ih =>
      intro hl g hg
      obtain ⟨behind, rest⟩ := List.pairwise_cons.mp hl
      by_cases ha : a.kind.isShare = true
      · exact ih rest g (by simpa [List.dropWhile_cons, ha] using hg)
      · have hg : g = a ∨ g ∈ l := by simpa [List.dropWhile_cons, ha] using hg
        rcases hg with rfl | hg
        · simpa using ha
        · cases share : g.kind.isShare with
          | false => rfl
          | true => exact absurd (behind g hg share) ha
  have split := List.takeWhile_append_dropWhile (p := fun g : TxFrame => g.kind.isShare) (l := q)
  have whole : shareFirst (q.takeWhile (·.kind.isShare) ++ q.dropWhile (·.kind.isShare)) := by rwa [split]
  obtain ⟨front, back, _⟩ := List.pairwise_append.mp whole
  refine List.pairwise_append.mpr ⟨front, List.pairwise_cons.mpr ⟨fun b hb hs => ?_, back⟩, fun a ha _ _ _ => ?_⟩
  · exact share
  · exact List.all_eq_true.mp (List.all_takeWhile (p := fun g : TxFrame => g.kind.isShare)) a ha

theorem length_insertShare (f : TxFrame) (q : List TxFrame) : (insertShare f q).length = q.length + 1 := by
  have split := congrArg List.length (List.takeWhile_append_dropWhile (p := fun g : TxFrame => g.kind.isShare) (l := q))
  rw [List.length_append] at split
  simp only [insertShare, List.length_append, List.length_cons]
  omega

theorem withoutVictim_sublist (q : List TxFrame) : (withoutVictim q).Sublist q := by
  unfold withoutVictim; split
  · exact List.eraseP_sublist
  · exact q.dropLast_sublist

/-- A frame gives up its entry only where one is named to. -/
theorem length_withoutVictim (q : List TxFrame) (v : TxFrame) (named : victim q = some v) :
    (withoutVictim q).length + 1 = q.length := by
  have nonempty : 0 < q.length := by
    cases q with
    | nil => simp [victim] at named
    | cons => simp
  unfold victim at named
  unfold withoutVictim
  split <;> rename_i all
  · rw [if_pos all] at named
    rw [List.length_eraseP_of_mem (List.mem_of_find?_eq_some named) (List.find?_some named)]
    omega
  · rw [List.length_dropLast]; omega

theorem keeps_sendShare (f : TxFrame) (share : f.kind.isShare = true) (h : Keeps wf loose s t) :
    Keeps wf loose s (sendShare f t) := by
  refine keeps_ite (fun room => keeps_armWait (h.setLink rfl fun _ d => ?_)) fun full => ?_
  · obtain ⟨_, first, d'⟩ := d
    exact ⟨by rw [length_insertShare]; exact room, shareFirst_insertShare f _ share first, d'⟩
  · split
    · exact h
    · rename_i v named
      refine keeps_reportDropped _ (Keeps.setLink (h.counted (u := { t with
        lkc.queueFullDrops := bump16 t.lkc.queueFullDrops }) 15 rfl) rfl fun _ d => ?_)
      obtain ⟨len, first, d'⟩ := d
      refine ⟨?_, shareFirst_insertShare f _ share (first.sublist (withoutVictim_sublist _)), d'⟩
      have := length_withoutVictim _ _ named
      simp only [length_insertShare, this]
      exact len

theorem isBeacon_isShare (f : TxFrame) (beacon : isBeacon f = true) : f.kind.isShare = true := by
  have kind : f.kind = .beacon := by simpa [isBeacon] using beacon
  rw [kind]; rfl

/-- A beacon that takes another's place is a share frame too. -/
theorem shareFirst_replaceBeacon (b : TxFrame) (q : List TxFrame) (share : b.kind.isShare = true) (h : shareFirst q) :
    shareFirst (q.map fun f => if isBeacon f then b else f) := by
  have same : ∀ f : TxFrame, (if isBeacon f then b else f).kind.isShare = f.kind.isShare := by
    intro f
    by_cases beacon : isBeacon f
    · rw [if_pos beacon, share, isBeacon_isShare f beacon]
    · rw [if_neg beacon]
  simp only [shareFirst, List.pairwise_map, same]
  exact h

theorem keeps_queueBeacon (h : Keeps wf loose s t) : Keeps wf loose s (queueBeacon t) := by
  refine keeps_ite (fun _ => h.setLink rfl fun _ d => ?_) fun _ => keeps_ite (fun _ => h.setLink rfl fun _ d => ?_)
    fun _ => keeps_sendShare _ rfl h
  · obtain ⟨len, first, d'⟩ := d
    exact ⟨by simpa using len, shareFirst_replaceBeacon _ _ rfl first, d'⟩
  · obtain ⟨len, first, waiting, _, run⟩ := d
    exact ⟨len, first, waiting, fun _ => rfl, run⟩

theorem keeps_sendAnswer (dest code tag result : Nat) (reason : Reason) (data : List Byte) (p : Purpose)
    (h : Keeps wf loose s t) : Keeps wf loose s (sendAnswer dest code tag result reason data p t) :=
  keeps_sendOther _ rfl h

theorem keeps_refuse (dest code tag : Nat) (reason : Reason) (h : Keeps wf loose s t) :
    Keeps wf loose s (refuse dest code tag reason t) := keeps_sendAnswer _ _ _ _ _ _ _ h

theorem keeps_accept (dest code tag : Nat) (h : Keeps wf loose s t) : Keeps wf loose s (accept dest code tag t) :=
  keeps_sendAnswer _ _ _ _ _ _ _ h

theorem keeps_stopNotice (h : Keeps wf loose s t) : Keeps wf loose s (stopNotice t) :=
  keeps_ite (fun _ => h) fun _ => keeps_sendOther _ rfl h

end
end Sys2Proof.Machine

/-! Operations of PCU, SHT, STL and CDR. -/

namespace Sys2Proof.Machine

/-! ### The claim list -/

theorem Claim.ahead_iff (a b : Claim) :
    a.ahead b = true ↔ a.number < b.number ∨ (a.number = b.number ∧ a.station < b.station) := by
  simp [Claim.ahead]

theorem Claim.ahead_trans {a b c : Claim} (hab : a.ahead b = true) (hbc : b.ahead c = true) : a.ahead c = true := by
  rw [Claim.ahead_iff] at *; omega

/-- The order is total among claims of different stations (R129). -/
theorem Claim.ahead_total {a b : Claim} (station : a.station ≠ b.station) (h : ¬a.ahead b = true) :
    b.ahead a = true := by
  rw [Claim.ahead_iff] at *; omega

theorem mem_insertClaim {c x : Claim} {l : List Claim} : x ∈ insertClaim c l ↔ x = c ∨ x ∈ l := by
  induction l with
  | nil => simp [insertClaim]
  | cons d l ih =>
    unfold insertClaim
    split
    · exact List.mem_cons
    · simp only [List.mem_cons, ih]; exact or_left_comm

theorem insertClaim_pairwise (c : Claim) (l : List Claim) (other : ∀ d ∈ l, d.station ≠ c.station)
    (h : l.Pairwise fun a b => a.ahead b = true ∧ a.station ≠ b.station) :
    (insertClaim c l).Pairwise fun a b => a.ahead b = true ∧ a.station ≠ b.station := by
  induction l with
  | nil => simp [insertClaim]
  | cons d l ih =>
    obtain ⟨behind, rest⟩ := List.pairwise_cons.mp h
    have other_d : d.station ≠ c.station := other d List.mem_cons_self
    unfold insertClaim
    split <;> rename_i ahead
    · refine List.pairwise_cons.mpr ⟨fun x hx => ?_, h⟩
      obtain rfl | hx := List.mem_cons.mp hx
      · exact ⟨ahead, other_d.symm⟩
      · exact ⟨Claim.ahead_trans ahead (behind x hx).1, (other x (List.mem_cons_of_mem _ hx)).symm⟩
    · refine List.pairwise_cons.mpr ⟨fun x hx => ?_, ih (fun x hx => other x (List.mem_cons_of_mem _ hx)) rest⟩
      obtain rfl | hx := mem_insertClaim.mp hx
      · exact ⟨Claim.ahead_total other_d.symm ahead, other_d⟩
      · exact behind x hx

theorem claimListSound_removeClaim (n : Nat) (l : List Claim) (h : claimListSound l) :
    claimListSound (removeClaim n l) :=
  ⟨h.1.sublist List.filter_sublist, fun c hc => h.2 c (List.mem_filter.mp hc).1⟩

theorem claimListSound_putClaim (c : Claim) (l : List Claim) (h : claimListSound l)
    (ok : c.station ≤ 7 ∧ 1 ≤ c.number ∧ c.number ≤ top32 ∧ (c.drain.isSome ↔ c.state = .stale)) :
    claimListSound (putClaim c l) := by
  obtain ⟨order, each⟩ := claimListSound_removeClaim c.station l h
  refine ⟨insertClaim_pairwise c _ (fun d hd => by simpa [removeClaim] using (List.mem_filter.mp hd).2) order, fun d hd => ?_⟩
  obtain rfl | hd := mem_insertClaim.mp hd
  · exact ok
  · exact each d hd

theorem claimListSound_updateClaim (n : Nat) (f : Claim → Claim) (l : List Claim) (h : claimListSound l)
    (place : ∀ c, (f c).station = c.station ∧ (f c).number = c.number)
    (drain : ∀ c ∈ l, c.station = n → ((f c).drain.isSome ↔ (f c).state = .stale)) :
    claimListSound (updateClaim n f l) := by
  have place' : ∀ c : Claim, (if (c.station == n) = true then f c else c).station = c.station ∧
      (if (c.station == n) = true then f c else c).number = c.number := by
    intro c; split
    · exact place c
    · exact ⟨rfl, rfl⟩
  refine ⟨?_, fun c hc => ?_⟩
  · simp only [updateClaim, List.pairwise_map, Claim.ahead, fun c => (place' c).1, fun c => (place' c).2]
    exact h.1
  · obtain ⟨d, hd, rfl⟩ := List.mem_map.mp hc
    obtain ⟨station, low, high, stale⟩ := h.2 d hd
    rw [(place' d).1, (place' d).2]
    refine ⟨station, low, high, ?_⟩
    split
    · exact drain d hd (by simpa using ‹(d.station == n) = true›)
    · exact stale

/-- Each station has one claim (R129). -/
theorem find_claim_of_mem {c : Claim} {l : List Claim} (h : claimListSound l) (hc : c ∈ l) :
    l.find? (·.station == c.station) = some c := by
  have order := h.1
  clear h
  induction l with
  | nil => simp at hc
  | cons d l ih =>
    obtain ⟨behind, rest⟩ := List.pairwise_cons.mp order
    obtain rfl | hc := List.mem_cons.mp hc
    · simp
    · have other := (behind c hc).2
      rw [List.find?_cons_of_neg (by simpa using other)]
      exact ih hc rest

section
variable {n : Nat} {l : List Claim}

theorem find_removeClaim_other {m : Nat} (other : m ≠ n) :
    (removeClaim m l).find? (·.station == n) = l.find? (·.station == n) := by
  rw [removeClaim, List.find?_filter]
  congr 1
  funext c
  by_cases here : c.station = n
  · simp [here, other.symm]
  · simp [here]

theorem find_removeClaim_self : (removeClaim n l).find? (·.station == n) = none := by
  simp [removeClaim, List.find?_eq_none]

theorem find_insertClaim_other {c : Claim} (other : c.station ≠ n) :
    (insertClaim c l).find? (·.station == n) = l.find? (·.station == n) := by
  induction l with
  | nil => simp [insertClaim, other]
  | cons d l ih =>
    unfold insertClaim
    split
    · simp [other]
    · simp [List.find?_cons, ih]

theorem find_putClaim_other {c : Claim} (other : c.station ≠ n) :
    (putClaim c l).find? (·.station == n) = l.find? (·.station == n) := by
  rw [putClaim, find_insertClaim_other other, find_removeClaim_other other]

theorem find_updateClaim_other {m : Nat} {f : Claim → Claim} (other : m ≠ n) (place : ∀ c, (f c).station = c.station) :
    (updateClaim m f l).find? (·.station == n) = l.find? (·.station == n) := by
  induction l with
  | nil => rfl
  | cons d l ih =>
    have cons : updateClaim m f (d :: l) = (if (d.station == m) = true then f d else d) :: updateClaim m f l := rfl
    rw [cons, List.find?_cons, List.find?_cons, ih]
    by_cases here : d.station = m
    · have not_here : (m == n) = false := beq_false_of_ne other
      simp [here, place, not_here]
    · simp [here]

end

section
variable {wf loose loose' : Prop} {s t : State}

/-- Drawing is a matter of the own claim. -/
theorem drawing_congr {u : State} (own : u.ownClaim = t.ownClaim) : u.drawing = t.drawing := by
  rw [State.drawing, State.drawing, own]

/-! ### PCU -/

theorem keeps_clampMove (st : ClampState) (v : ClampValve) (r : Bool) (h : Keeps wf loose s t)
    (closed : t.pcu.clamp = some .closed → loose) : Keeps wf loose s (clampMove st v r t) :=
  h.setClamp rfl fun c => .inr (closed c)

theorem keeps_closeRequest (r : Bool) (h : Keeps wf loose s t) : Keeps wf loose s (closeRequest r t) := by
  have move (c : t.pcu.clamp ≠ some .closed) : Keeps wf loose s (clampMove .closing .close r t) :=
    keeps_clampMove _ _ _ h fun closed => absurd closed c
  unfold closeRequest
  split <;> rename_i clamp
  · exact move (by simp [clamp])
  · exact move (by simp [clamp])
  · exact keeps_ite (fun _ => move (by simp [clamp])) fun _ => h
  · exact h
  · exact h

theorem keeps_openRequest (r : Bool) (h : Keeps wf loose s t) (closed : t.pcu.clamp = some .closed → loose) :
    Keeps wf loose s (openRequest r t) := by
  have move : Keeps wf loose s (clampMove .opening .open r t) := keeps_clampMove _ _ _ h closed
  unfold openRequest
  split
  · exact move
  · exact move
  · exact keeps_ite (fun _ => move) fun _ => h
  · exact h
  · exact h

theorem keeps_settleClamp (h : Keeps wf loose s t) (closed : t.pcu.clamp ≠ some .closed) :
    Keeps wf loose s (settleClamp t) :=
  keeps_ite (fun _ => h.setClamp rfl fun c => absurd c closed) fun _ => h.setClamp rfl fun c => absurd c closed

theorem keeps_advanceCommand (h : Keeps wf loose s t) : Keeps wf loose s (advanceCommand t) := by
  unfold advanceCommand
  split
  · exact h
  · exact keeps_ite (fun _ => h) fun _ => h.still rfl
  · exact h.still rfl
  · exact h.still rfl
  · exact h.still rfl

/-! ### SHT -/

theorem keeps_raiseClock (n : Nat) (h : Keeps wf loose s t) : Keeps wf loose s (raiseClock n t) := by
  refine h.setTable rfl (Nat.le_max_left _ _) (fun top => Nat.max_le.mpr ⟨top, Nat.min_le_right _ _⟩) (fun _ d => ?_) fun _ _ _ => .inl
  obtain ⟨node, clock, claims⟩ := d
  exact ⟨node, Nat.max_le.mpr ⟨clock, Nat.min_le_right _ _⟩, claims⟩

/-- A peer's entry in the claim list is changed. -/
theorem Keeps.setPeerClaim (h : Keeps wf loose s t) (l : List Claim) (sound : wf → t.tableSound → claimListSound l)
    (own : l.find? (·.station == t.node) = t.ownClaim) : Keeps wf loose s { t with sht.claims := l } :=
  h.setTable rfl (Nat.le_refl _) id (fun w d => ⟨d.1, d.2.1, sound w d⟩) fun _ _ _ drawing =>
    .inl ((drawing_congr (u := { t with sht.claims := l }) own).trans drawing)

theorem keeps_enterClaim (src number demand : Nat) (h : Keeps wf loose s t) (other : src ≠ t.node)
    (ok : wf → src ≤ 7 ∧ 1 ≤ number ∧ number ≤ top32) : Keeps wf loose s (enterClaim src number demand t) := by
  have entered := h.setPeerClaim (putClaim ⟨src, number, demand, .queued, none⟩ t.sht.claims)
    (fun w d => claimListSound_putClaim _ _ d.2.2 (by simpa using ok w)) (find_putClaim_other other)
  exact keeps_ite (fun _ => entered.still rfl) fun _ => entered

theorem keeps_claimEffect (src number demand : Nat) (h : Keeps wf loose s t) (other : src ≠ t.node)
    (ok : wf → src ≤ 7 ∧ 1 ≤ number ∧ number ≤ top32) : Keeps wf loose s (claimEffect src number demand t) := by
  unfold claimEffect
  split
  · exact keeps_ite (fun _ => keeps_enterClaim _ _ _ h other ok) fun _ => h
  · exact keeps_enterClaim _ _ _ h other ok

theorem keeps_removePeerClaim (n : Nat) (h : Keeps wf loose s t) (other : n ≠ t.node) :
    Keeps wf loose s { t with sht.claims := removeClaim n t.sht.claims } :=
  h.setPeerClaim _ (fun _ d => claimListSound_removeClaim _ _ d.2.2) (find_removeClaim_other other)

theorem keeps_yieldEffect (src number : Nat) (h : Keeps wf loose s t) (other : src ≠ t.node) :
    Keeps wf loose s (yieldEffect src number t) :=
  keeps_ite (fun _ => keeps_removePeerClaim src h other) fun _ => h.counted 8 rfl

theorem stateOfFlag_ne_stale (b : Bool) : stateOfFlag b ≠ .stale := by cases b <;> simp [stateOfFlag]

theorem keeps_reconcile (src : Nat) (b : BeaconBody) (h : Keeps wf loose s t) (other : src ≠ t.node)
    (ok : wf → src ≤ 7 ∧ b.claimNumber ≤ top32) : Keeps wf loose s (reconcile src b t) := by
  refine keeps_ite (fun named => keeps_ite (fun _ => ?_) fun _ => ?_) fun _ => keeps_removePeerClaim src h other
  · refine h.setPeerClaim _ (fun _ d => ?_) (find_updateClaim_other other fun _ => rfl)
    exact claimListSound_updateClaim _ _ _ d.2.2 (fun _ => ⟨rfl, rfl⟩) fun _ _ _ => by simp [stateOfFlag_ne_stale]
  · refine h.setPeerClaim _ (fun w d => claimListSound_putClaim _ _ d.2.2 ?_) (find_putClaim_other other)
    obtain ⟨station, high⟩ := ok w
    have low : 1 ≤ b.claimNumber := by
      simp only [beaconNames, Bool.and_eq_true, bne_iff_ne] at named; omega
    exact ⟨station, low, high, by simp [stateOfFlag_ne_stale]⟩

theorem keeps_raiseFromBeacon (b : BeaconBody) (h : Keeps wf loose s t) : Keeps wf loose s (raiseFromBeacon b t) :=
  keeps_raiseClock _ (keeps_ite (fun _ => keeps_raiseClock _ h) fun _ => h)

theorem keeps_beaconEffect (src : Nat) (b : BeaconBody) (h : Keeps wf loose s t) (other : src ≠ t.node)
    (ok : wf → src ≤ 7 ∧ b.claimNumber ≤ top32) : Keeps wf loose s (beaconEffect src b t) := by
  have reconciled : Keeps wf loose s (reconcile src b (raiseFromBeacon b (onPeer src (Peer.afterBeacon t b) t))) :=
    keeps_reconcile src b (keeps_raiseFromBeacon b (h.still rfl)) (by simpa using other) ok
  exact keeps_ite (fun _ => reconciled.counted 6 rfl) fun _ => reconciled

theorem keeps_staleEffect (src : Nat) (h : Keeps wf loose s t) (other : src ≠ t.node) :
    Keeps wf loose s (staleEffect src t) := by
  unfold staleEffect
  split
  · exact h
  · refine keeps_ite (fun _ => keeps_removePeerClaim src h other) fun _ => keeps_ite (fun _ => ?_) fun _ => h
    refine h.setPeerClaim _ (fun _ d => ?_) (find_updateClaim_other other fun _ => rfl)
    exact claimListSound_updateClaim _ _ _ d.2.2 (fun _ => ⟨rfl, rfl⟩) fun _ _ _ => by simp

theorem keeps_lossEffect (p : Nat) (h : Keeps wf loose s t) (other : p ≠ t.node) :
    Keeps wf loose s (lossEffect p t) := by
  refine keeps_ite (fun _ => h.still rfl) fun _ => keeps_staleEffect p (keeps_ite (fun _ => h.still rfl) fun _ => ?_) ?_
  · exact Keeps.counted (h.still (u := onPeer p (fun e => { e with
      missed := (peerOf t p).missed + 1, lossTimer := none, presence := .absent }) t) rfl) 4 rfl
  · split <;> simpa using other

theorem keeps_drainEffect (n : Nat) (h : Keeps wf loose s t) (stale : ∀ c, claimOf t n = some c → c.state = .stale) :
    Keeps wf loose s (drainEffect n t) := by
  refine Keeps.counted (t := { t with sht.claims := removeClaim n t.sht.claims }) ?_ 5 rfl
  refine h.setTable rfl (Nat.le_refl _) id (fun _ d => ⟨d.1, d.2.1, claimListSound_removeClaim _ _ d.2.2⟩) fun _ _ _ drawing => .inl ?_
  have other : n ≠ t.node := by
    rintro rfl
    obtain ⟨c, own, draws⟩ : ∃ c, t.ownClaim = some c ∧ c.state = .drawing := by
      simpa [State.drawing, Option.any_eq_true] using drawing
    rw [stale c own] at draws
    cases draws
  exact (drawing_congr (u := { t with sht.claims := removeClaim n t.sht.claims }) (find_removeClaim_other other)).trans drawing

/-- A new claim is QUEUED: what was drawn before is drawn no more. -/
theorem keeps_makeClaim (demand : Nat) (h : Keeps wf loose s t) (unspent : clockSpent t = false) :
    Keeps wf True s (makeClaim demand t) := by
  have low : t.sht.clock < top32 := by simpa [clockSpent] using unspent
  refine keeps_queueBeacon (keeps_sendShare _ rfl (h.loosen.setTable rfl (Nat.le_succ _) (fun _ => low) (fun _ d => ?_)
    fun _ _ _ _ => .inr trivial))
  obtain ⟨node, _, claims⟩ := d
  exact ⟨node, low, claimListSound_putClaim _ _ claims ⟨node, Nat.succ_pos _, low, by simp⟩⟩

theorem keeps_dropOwnClaim (h : Keeps wf loose s t)
    (off : s.inReset = false → s.driveSound → t.cdr.drive = .running → loose) : Keeps wf loose s (dropOwnClaim t) :=
  h.setTable rfl (Nat.le_refl _) id (fun _ d => ⟨d.1, d.2.1, claimListSound_removeClaim _ _ d.2.2⟩) fun awake d running _ =>
    .inr (off awake d running)

theorem keeps_yieldFrames (n : Nat) (h : Keeps wf loose s t) : Keeps wf loose s (yieldFrames n t) :=
  keeps_queueBeacon (keeps_sendShare _ rfl h)

theorem keeps_admitClaim (h : Keeps wf loose s t) (queued : t.ownClaim.any (·.state == .queued) = true) :
    Keeps wf loose s (admitClaim t) := by
  obtain ⟨own, is_own, state⟩ : ∃ c, t.ownClaim = some c ∧ c.state = .queued := by
    simpa [Option.any_eq_true] using queued
  refine keeps_queueBeacon (Keeps.counted (t := { t with
    sht.claims := updateClaim t.node (fun c => { c with state := .drawing }) t.sht.claims }) (h.setTable rfl (Nat.le_refl _) id
      (fun _ d => ?_) ?_) 2 rfl)
  · obtain ⟨node, clock, claims⟩ := d
    refine ⟨node, clock, claimListSound_updateClaim _ _ _ claims (fun _ => ⟨rfl, rfl⟩) fun c hc station => ?_⟩
    have same : c = own := by
      have found := find_claim_of_mem claims hc
      rw [station] at found
      exact Option.some.inj (found.symm.trans is_own)
    have undrained := (claims.2 c hc).2.2.2
    rw [same, state] at undrained
    simpa [same] using undrained
  · intro _ _ _ drawing
    simp [State.drawing, is_own, state] at drawing

/-! ### STL -/

theorem keeps_flashResume (h : Keeps wf loose s t) : Keeps wf loose s (flashResume t) := h.still (by simp)

theorem keeps_resumeRecovered (h : Keeps wf loose s t) : Keeps wf loose s (resumeRecovered t) :=
  keeps_flashResume (h.setPause rfl (.inr rfl))

theorem keeps_resumeForced (h : Keeps wf loose s t) : Keeps wf loose s (resumeForced t) :=
  keeps_flashResume (h.setPause rfl (.inr (by simp only [State.paused]; split <;> rfl)))

theorem keeps_endPause (h : Keeps wf loose s t) : Keeps wf loose s (endPause t) :=
  keeps_ite (fun _ => keeps_resumeForced h) fun _ => h

theorem keeps_drawingEnded (h : Keeps wf loose s t) : Keeps wf loose s (drawingEnded t) :=
  keeps_ite (fun _ => keeps_resumeForced h) fun _ => h

theorem keeps_timingStopped (h : Keeps wf loose s t) : Keeps wf loose s (timingStopped t) :=
  keeps_ite (fun _ => keeps_resumeRecovered h) fun _ => h

theorem keeps_takeVolts (volts : Nat) (h : Keeps wf loose s t) : Keeps wf loose s (takeVolts volts t) := by
  have taken : Keeps wf loose s { t with stl.volts := volts } := h.still rfl
  unfold takeVolts
  split <;> rename_i pause
  · exact keeps_ite (fun _ => taken.setPause rfl (.inr rfl)) fun _ => taken
  · refine keeps_ite (fun _ => keeps_ite (fun _ => ?_) fun _ => taken) fun _ => keeps_ite (fun _ => taken) fun _ => ?_
    · exact taken.setPause rfl (.inr rfl)
    · exact taken.setPause rfl (.inr rfl)
  · refine keeps_ite (fun _ => keeps_ite (fun _ => keeps_resumeRecovered taken) fun _ => ?_) fun _ => taken
    exact taken.setPause rfl (.inl (by simp [State.paused, pause]))
  · exact keeps_ite (fun _ => taken.setPause rfl (.inl (by simp [State.paused, pause]))) fun _ => taken

theorem keeps_detectorReset (h : Keeps wf loose s t) : Keeps wf loose s (detectorReset t) :=
  h.setPause rfl (.inr rfl)

/-! ### CDR -/

theorem keeps_rampStep (h : Keeps wf loose s t) : Keeps wf loose s (rampStep t) := by
  unfold rampStep
  split
  · exact h
  · exact keeps_ite (fun _ => h.still rfl) fun _ => h.still rfl

theorem keeps_setTarget (trip : Nat) (h : Keeps wf loose s t) : Keeps wf loose s (setTarget trip t) :=
  keeps_ite (fun _ => h) fun _ => h.still rfl

/-- A cycle begins driven only where the run conditions hold (R54); a drive that was BLOCKED before has just got its mode. -/
theorem keeps_beginCycle (before : DriveMode) (h : Keeps wf loose s { t with cdr.mode := before })
    (on : t.cdr.mode ≠ .off) : Keeps wf loose s (beginCycle t) := by
  have begun : Keeps wf loose s { t with
      cdr.half := .positive
      cdr.sums := .zero
      cdr.sampled := 0
      cdr.lockout := false
      cdr.drive := if t.runConditions then .running else .ready
      cdr.whole := t.runConditions } := by
    refine h.setDrive rfl fun _ _ ⟨awake, _, _⟩ => ⟨awake, ?_, ?_⟩
    · refine ⟨fun blocked => ?_, fun off => absurd off on⟩
      by_cases r : t.runConditions = true <;> simp [r] at blocked
    · intro running
      by_cases r : t.runConditions = true
      · exact .inl r
      · simp [r] at running
  have stepped := keeps_ite (c := t.runConditions = true) (fun _ => keeps_rampStep begun) fun _ => begun
  exact stepped.still rfl

/-- RUNNING ends, carrier timing goes on (R54). -/
theorem keeps_cutRunning (h : Keeps wf loose s t) (running : t.cdr.drive = .running) :
    Keeps wf loose' s (cutRunning t) := by
  refine h.setDrive rfl fun _ _ ⟨awake, off, _⟩ => ⟨awake, ?_, fun r => ?_⟩
  · refine ⟨fun blocked => ?_, fun mode => ?_⟩
    · cases (cutRunning_drive t).symm.trans blocked
    · cases running.symm.trans (off.mpr mode)
  · cases (cutRunning_drive t).symm.trans r

theorem keeps_blockDrive (h : Keeps wf loose s t) : Keeps wf loose' s (blockDrive t) := by
  have e : (blockDrive t).watched = { t.watched with drive := .blocked, mode := .off } := by
    unfold blockDrive
    by_cases running : t.cdr.drive = .running
    · rw [if_pos running]; rfl
    · rw [if_neg running]; rfl
  refine h.setDrive (by rw [e, blockDrive_drive, blockDrive_mode]; simp) fun _ _ ⟨awake, _, _⟩ => ⟨?_, ?_, fun r => ?_⟩
  · exact (congrArg Watched.inReset e).trans awake
  · simp
  · cases (blockDrive_drive t).symm.trans r

theorem keeps_weldContext (trip : Nat) (h : Keeps wf loose s t) : Keeps wf loose s (weldContext trip t) :=
  h.setFlux rfl fun _ => (by decide : (-16 : Int) ≤ 0 ∧ (0 : Int) ≤ 16)

theorem keeps_setRuns (mode : DriveMode) (h : Keeps wf loose s t) : Keeps wf loose s (setRuns mode t) :=
  keeps_ite (fun _ => h) fun _ => h.still rfl

theorem keeps_requestCurrent (mode : DriveMode) (trip hz : Nat) (weldStart : Bool) (h : Keeps wf loose s t)
    (current : mode ≠ .off) : Keeps wf loose s (requestCurrent mode trip hz weldStart t) := by
  have runs := keeps_setRuns mode
    (keeps_ite (c := t.cdr.drive = .running ∧ t.cdr.mode ≠ mode) (fun _ => h.still (u := divideCycle t) rfl) fun _ => h)
  have targeted := keeps_ite (c := weldStart = true) (fun _ => keeps_weldContext trip runs) fun _ => keeps_setTarget trip runs
  unfold requestCurrent
  extract_lets split runs _ _ asked
  have drive : asked.cdr.drive = t.cdr.drive := calc
    asked.cdr.drive = runs.cdr.drive := by
      show (if weldStart = true then weldContext trip runs else setTarget trip runs).cdr.drive = runs.cdr.drive
      by_cases first : weldStart = true <;> simp [first]
    _ = split.cdr.drive := by simp [runs]
    _ = t.cdr.drive := by
      by_cases divides : t.cdr.drive = .running ∧ t.cdr.mode ≠ mode <;> simp [split, divides]
  refine keeps_ite (fun _ => keeps_beginCycle _ (targeted.still rfl) current) fun unblocked => ?_
  refine targeted.setDrive rfl fun _ _ ⟨awake, _, runs⟩ => ⟨awake, ?_, runs⟩
  exact ⟨fun blocked => absurd (drive.symm.trans blocked) unblocked, fun off => absurd off current⟩

theorem keeps_takeSamples (l : List DriveSample) (h : Keeps wf loose s t) : Keeps wf loose s (takeSamples l t) :=
  keeps_ite (fun _ => h.still rfl) fun _ => h

theorem keeps_takeIntegral (n : Nat) (h : Keeps wf loose s t) : Keeps wf loose s (takeIntegral n t) :=
  keeps_ite (fun _ => h.still rfl) fun _ => h

theorem fluxAfter_bounds (flux : Int) (pos neg : Nat) (h : -16 ≤ flux ∧ flux ≤ 16) :
    -16 ≤ fluxAfter flux pos neg ∧ fluxAfter flux pos neg ≤ 16 := by
  unfold fluxAfter
  split
  · omega
  · split <;> omega

theorem keeps_evaluateRuns (k : CycleClass) (h : Keeps wf loose s t) : Keeps wf loose s (evaluateRuns k t).2 :=
  h.setFlux rfl (fluxAfter_bounds _ _ _)

theorem keeps_cycleClass (h : Keeps wf loose s t) : Keeps wf loose s (cycleClass t).2 := by
  unfold cycleClass
  dsimp only
  split
  · exact h.still rfl
  · exact h

end
end Sys2Proof.Machine

/-! Operations of WSQ: the end of an order, yields and the drive off report, the abort path, the weld phases. -/

namespace Sys2Proof.Machine

section
variable {wf loose loose' : Prop} {s t : State}

/-! ### Orders -/

theorem ordersSound_setHead (st : OrderStatus) (h : t.ordersSound) :
    ({ t with orq.queue := setHead st t.orq.queue } : State).ordersSound := by
  obtain ⟨len, tags, waiting, d⟩ := h
  cases q : t.orq.queue with
  | nil => simpa [State.ordersSound, setHead, q] using d
  | cons o l =>
    rw [q] at len tags waiting
    refine ⟨by simpa [setHead] using len, ?_, by simpa [setHead] using waiting, d⟩
    simpa [setHead] using tags

theorem keeps_endOrder (outcome : OrderOutcome) (reason : Reason) (weldNo : Option Nat) (h : Keeps wf loose s t) :
    Keeps wf loose s (endOrder outcome reason weldNo t) := by
  unfold endOrder
  split
  · exact h
  · exact keeps_sendOther _ rfl (h.setOrders rfl fun _ => ordersSound_setHead .ended)

theorem keeps_endWeld (outcome : OrderOutcome) (reason : Reason) (weldNo : Option Nat) (h : Keeps wf loose s t) :
    Keeps wf loose s (endWeld outcome reason weldNo t) := keeps_endOrder _ _ _ (h.still (by simp))

/-! ### Yield and drive off -/

/-- The drive is not RUNNING, or a run condition may be lost. -/
def Off (loose : Prop) (s t : State) : Prop := s.inReset = false → s.driveSound → t.cdr.drive = .running → loose

theorem keeps_yieldClaim (h : Keeps wf loose s t) (off : Off loose s t) : Keeps wf loose s (yieldClaim t) := by
  unfold yieldClaim
  split
  · exact h
  · have yielded := keeps_yieldFrames ‹Claim›.number (keeps_dropOwnClaim h off)
    exact keeps_ite (fun _ => keeps_drawingEnded yielded) fun _ => yielded

theorem keeps_driveOffReport (h : Keeps wf loose s t) (off : Off loose s t) : Keeps wf loose s (driveOffReport t) := by
  have stepped : Keeps wf loose s (contactStepEnds t) := h.still (by simp)
  refine keeps_ite (fun _ => ?_) fun _ => stepped
  exact (keeps_yieldClaim stepped fun awake d running => off awake d (by simpa using running)).still (by simp)

theorem keeps_driveOff (h : Keeps wf loose s t) : Keeps wf loose' s (driveOff t) :=
  keeps_driveOffReport (keeps_timingStopped (keeps_blockDrive h)) fun _ _ running => by simp at running

theorem keeps_normalOff (h : Keeps wf loose s t) : Keeps wf loose s (normalOff t) := by
  unfold normalOff
  split <;> rename_i drive
  · exact h.still rfl
  · exact keeps_driveOff h
  · exact keeps_ite (fun _ => h) fun _ => keeps_driveOffReport h fun _ _ running => by simp [drive] at running

theorem keeps_immediateOff (h : Keeps wf loose s t) : Keeps wf loose' s (immediateOff t) := keeps_driveOff h

/-- loseRun ends what an operation has begun that took a run condition. -/
theorem keeps_loseRun (h : Keeps wf loose s t) : Keeps wf loose' s (loseRun t) := by
  refine keeps_ite (fun lost => keeps_ite (fun _ => ?_) fun _ => keeps_cutRunning h lost.1) fun kept => ?_
  · exact keeps_driveOff (loose := loose) (keeps_cutRunning h lost.1)
  · refine h.setDrive rfl fun _ _ ⟨awake, off, _⟩ => ⟨awake, off, fun running => .inl ?_⟩
    cases conditions : t.runConditions with
    | true => rfl
    | false => exact absurd ⟨running, conditions⟩ kept

theorem keeps_yieldOwn (h : Keeps wf loose s t) : Keeps wf loose' s (yieldOwn t) :=
  keeps_loseRun (keeps_yieldClaim h.loosen fun _ _ _ => trivial)

theorem keeps_driveRequest (mode : DriveMode) (trip : Nat) (h : Keeps wf loose s t) (current : mode ≠ .off) :
    Keeps wf loose s (driveRequest mode trip t) := by
  refine keeps_ite (fun _ => (keeps_requestCurrent mode trip _ _ h current).still rfl) fun stopped => ?_
  refine keeps_driveOffReport h fun awake d running => ?_
  obtain ⟨_, _, runs⟩ := h.drive awake d
  exact (runs running).resolve_left fun r => stopped (by
    simp only [State.runConditions, Bool.and_eq_true, beq_iff_eq] at r; exact r.1.1.2)

theorem keeps_endUpsetCurrent (h : Keeps wf loose s t) : Keeps wf loose s (endUpsetCurrent t) :=
  keeps_ite (fun _ => keeps_yieldOwn (keeps_normalOff (h.still rfl))) fun _ => h

/-! ### The abort path -/

theorem keeps_abortCheck (cause : FaultCode) (h : Keeps wf loose s t) : Keeps wf loose s (abortCheck cause t) :=
  keeps_ite (fun _ => h.still rfl) fun _ => keeps_ite (fun _ => h.still (by simp)) fun _ =>
    keeps_endWeld _ _ _ (h.still rfl)

theorem keeps_abortBeforeCurrent (cause : FaultCode) (h : Keeps wf loose s t) :
    Keeps wf loose s (abortBeforeCurrent cause t) :=
  keeps_ite (fun _ => keeps_endWeld _ _ _ h) fun _ => keeps_ite (fun _ => h.still rfl) fun _ => h.still (by simp)

theorem keeps_abortFlash (h : Keeps wf loose s t) : Keeps wf loose s (abortFlash t) :=
  keeps_ite (fun _ => keeps_normalOff (h.still rfl)) fun _ =>
    Keeps.still (keeps_yieldOwn (h.still (u := platenHold t) rfl)) (by simp)

theorem keeps_abortUpset (h : Keeps wf loose s t) : Keeps wf loose s (abortUpset t) :=
  (keeps_endUpsetCurrent h).still rfl

theorem keeps_beginPath (cause : FaultCode) (phase : WeldPhase) (h : Keeps wf loose s t) :
    Keeps wf loose s (beginPath cause phase t) := by
  cases phase with
  | check => exact keeps_abortCheck cause h
  | touch => exact keeps_abortBeforeCurrent cause (h.still rfl)
  | claimWait => exact keeps_abortBeforeCurrent cause (keeps_yieldOwn h)
  | preheat | flash | boost => exact keeps_abortFlash h
  | upset => exact keeps_abortUpset h
  | trim => exact h.still (by simp [beginPath])
  | hold | cool | closing => exact h

theorem keeps_tryAbort (cause : FaultCode) (h : Keeps wf loose s t) : Keeps wf loose s (tryAbort cause t) := by
  unfold tryAbort
  split
  · exact h
  · exact keeps_ite (fun _ => keeps_beginPath _ _ (h.still (by simp))) fun _ => h

theorem keeps_reportFault (code : FaultCode) (h : Keeps wf loose s t) : Keeps wf loose s (reportFault code t) := by
  have filed : Keeps wf loose s (fileFault code t) := h.still (by simp)
  exact keeps_ite (fun _ => keeps_tryAbort code filed) fun _ => filed

/-! ### Pause -/

theorem keeps_cutUpset (h : Keeps wf loose s t) : Keeps wf loose s (cutUpset t) :=
  keeps_ite (fun _ => keeps_endUpsetCurrent (keeps_reportFault _ h)) fun _ => h

theorem keeps_flashPause (h : Keeps wf loose s t) : Keeps wf loose s (flashPause t) := h.still (by simp)

/-- A pause takes a run condition from the drive, and loseRun tells it (R90, R113). -/
theorem keeps_beginPause (h : Keeps wf loose s t) : Keeps wf loose s (beginPause t) := by
  have counted := h.counted (u := { t with stl.pauseCount := bump16 t.stl.pauseCount }) 1 rfl
  show Keeps wf loose s (reportFault .supplySag (cutUpset (flashPause (loseRun _))))
  refine keeps_reportFault _ (keeps_cutUpset (keeps_flashPause (keeps_loseRun (loose := True) ?_)))
  exact counted.setDrive rfl fun _ _ ⟨awake, off, _⟩ => ⟨awake, off, fun _ => .inr trivial⟩

/-! ### The phases of a weld -/

theorem keeps_readPull (h : Keeps wf loose s t) : Keeps wf loose s (readPull t) :=
  keeps_ite (fun _ => keeps_ite (fun _ => h.still rfl) fun _ => keeps_reportFault _ (h.still rfl)) fun _ => h

theorem keeps_endHold (h : Keeps wf loose s t) : Keeps wf loose s (endHold t) := by
  have read := keeps_readPull (h.still (u := { t with wsq.holdTimer := none, wsq.expired := false }) rfl)
  exact keeps_ite (fun _ => read.still (by simp)) fun _ => read.still (by simp)

theorem keeps_checkUpset (distance : Int) (h : Keeps wf loose s t) : Keeps wf loose s (checkUpset distance t) :=
  keeps_ite (fun _ => keeps_reportFault _ h) fun _ => keeps_ite (fun _ => keeps_reportFault _ h) fun _ => h

theorem keeps_upsetTimer (timer : Timer) (h : Keeps wf loose s t) :
    Keeps wf loose s { t with wsq.upsetTimer := timer } := h.still rfl

theorem keeps_enterUpset (h : Keeps wf loose s t) : Keeps wf loose s (enterUpset t) := by
  have requested : Keeps wf loose s (driveRequest .upsetCurrent (enterPhase .upset (flashEnds (stopFlashTime t))).wsq.active.trip
      { requestUpset (enterPhase .upset (flashEnds (stopFlashTime t))) with
        wsq.upsetStart := some t.pcu.plausPosition
        wsq.upsetMark := true
        wsq.upsetDistance := none
        wsq.upsetPeak := none }) := keeps_driveRequest _ _ (h.still (by simp)) (by decide)
  exact keeps_ite (fun _ => keeps_cutUpset (keeps_upsetTimer _ requested)) fun _ => keeps_upsetTimer _ requested

theorem keeps_enterHold (h : Keeps wf loose s t) : Keeps wf loose s (enterHold t) := h.still (by simp)

theorem keeps_openWindow (h : Keeps wf loose s t) : Keeps wf loose s (openWindow t) := h.still (by simp)

theorem keeps_endUpset (position peak : Int) (h : Keeps wf loose s t) : Keeps wf loose s (endUpset position peak t) := by
  have ended := keeps_endUpsetCurrent (h.still (u := { t with wsq.upsetTimer := none }) rfl)
  exact keeps_enterHold (keeps_openWindow (keeps_checkUpset _ (ended.still rfl)))

theorem keeps_enterBoost (h : Keeps wf loose s t) : Keeps wf loose s (enterBoost t) :=
  keeps_driveRequest _ _ (h.still (by simp)) (by decide)

theorem keeps_endFlash (h : Keeps wf loose s t) : Keeps wf loose s (endFlash t) :=
  keeps_ite (fun _ => keeps_enterUpset h) fun _ => keeps_enterBoost h

theorem keeps_shortEvent (h : Keeps wf loose s t) : Keeps wf loose s (shortEvent t) :=
  keeps_ite (fun _ => keeps_ite (fun _ => keeps_reportFault _ (h.still rfl)) fun _ => h.still (by simp)) fun _ => h

theorem keeps_openEvent (mode : DriveMode) (h : Keeps wf loose s t) : Keeps wf loose s (openEvent mode t) :=
  keeps_ite (fun _ => keeps_ite (fun _ => h.still rfl) fun _ => h) fun _ => keeps_reportFault _ h

theorem keeps_contactRegained (h : Keeps wf loose s t) : Keeps wf loose s (contactRegained t) := h.still (by simp)

theorem keeps_deliverReports (mode : DriveMode) (r : CycleReports) (h : Keeps wf loose s t) :
    Keeps wf loose s (deliverReports mode r t) := by
  have a := keeps_ite (c := r.short = true) (fun _ => keeps_shortEvent h) fun _ => h
  have b := keeps_ite (c := r.openReached = true) (fun _ => keeps_openEvent mode a) fun _ => a
  have c := keeps_ite (c := r.regained = true) (fun _ => keeps_contactRegained b) fun _ => b
  exact keeps_ite (fun _ => keeps_reportFault _ c) fun _ => c

theorem keeps_evaluateCycle (h : Keeps wf loose s t) : Keeps wf loose s (evaluateCycle t) := by
  rw [evaluateCycle_eq]
  exact keeps_deliverReports _ _ (keeps_evaluateRuns _ (keeps_cycleClass h))

/-! ### Admission, CHECK, TOUCH, CLAIM_WAIT -/

theorem keeps_pauseAtAdmission (h : Keeps wf loose s t) : Keeps wf loose s (pauseAtAdmission t) :=
  keeps_ite (fun _ => keeps_beginPause h) fun _ => h

theorem keeps_enterFirstPhase (h : Keeps wf loose s t) : Keeps wf loose s (enterFirstPhase t) := h.still (by simp)

theorem keeps_evaluateAdmission (h : Keeps wf loose s t) : Keeps wf loose s (evaluateAdmission t) := by
  refine keeps_ite (fun fits => keeps_pauseAtAdmission (keeps_enterFirstPhase (keeps_admitClaim h ?_))) fun _ => h
  obtain ⟨own, is_own, ok⟩ := (Option.any_eq_true _ _).mp fits
  simp only [Bool.and_eq_true] at ok
  obtain ⟨⟨⟨⟨queued, _⟩, _⟩, _⟩, _⟩ := ok
  exact (Option.any_eq_true _ _).mpr ⟨own, is_own, queued⟩

theorem keeps_evaluateOversubscription (h : Keeps wf loose s t) : Keeps wf loose s (evaluateOversubscription t) := by
  have counted : Keeps wf loose s { t with
      sht.oversubscriptions :=
        if oversubscribed t && !t.sht.oversubscribed then bump16 t.sht.oversubscriptions else t.sht.oversubscriptions
      sht.oversubscribed := oversubscribed t } := by
    split
    · exact h.counted 7 rfl
    · exact h.still rfl
  exact keeps_ite (fun _ => keeps_yieldOwn (loose := loose) (keeps_reportFault _ counted)) fun _ => counted

theorem keeps_evaluateShare (h : Keeps wf loose s t) : Keeps wf loose s (evaluateShare t) :=
  keeps_evaluateOversubscription (keeps_evaluateAdmission h)

theorem keeps_discordYield (h : Keeps wf loose s t) : Keeps wf loose s (discordYield t) := by
  have yielded : Keeps wf loose s (yieldOwn t) := keeps_yieldOwn h
  exact keeps_ite (fun _ => keeps_ite (fun _ => yielded.still (by simp)) fun _ => yielded) fun _ => h

theorem keeps_enterClaimWait (h : Keeps wf loose s t) : Keeps wf loose s (enterClaimWait t) := by
  have entered : Keeps wf loose s { enterPhase .claimWait t with wsq.claimWaitAt := t.now } := h.still (by simp)
  refine keeps_ite (fun _ => entered.still (by simp)) fun unspent => keeps_ite (fun _ => entered.still (by simp)) fun _ => ?_
  exact keeps_evaluateShare (keeps_loseRun (keeps_makeClaim _ entered (by simpa [clockSpent] using unspent)))

theorem keeps_budgetTests (touchPos : Int) (h : Keeps wf loose s t) : Keeps wf loose s (budgetTests touchPos t) :=
  keeps_ite (fun _ => h.still (by simp)) fun _ => keeps_ite (fun _ => h.still (by simp)) fun _ => keeps_enterClaimWait h

theorem keeps_completeTouch (h : Keeps wf loose s t) : Keeps wf loose s (completeTouch t) :=
  keeps_budgetTests _ (h.still rfl)

theorem keeps_runCheck (h : Keeps wf loose s t) : Keeps wf loose s (runCheck t) := by
  unfold runCheck
  split
  · exact keeps_endWeld _ _ _ h
  · exact keeps_ite (fun _ => h.still rfl) fun _ => h.still rfl

theorem keeps_takeWeld (sched : Nat) (kind : WeldKind) (neutral : Int) (temp : Option Int) (h : Keeps wf loose s t) :
    Keeps wf loose s (takeWeld sched kind neutral temp t) := by
  have begun : Keeps wf loose s (beginCheck sched kind neutral temp t) := h.still rfl
  refine keeps_ite (fun _ => keeps_runCheck (begun.still (by simp))) fun _ => keeps_endOrder _ _ _ (begun.still (by simp))

theorem keeps_movementDone (h : Keeps wf loose s t) : Keeps wf loose s (movementDone t) := by
  unfold movementDone
  split
  · exact keeps_ite (fun _ => keeps_endWeld _ _ _ h) fun _ => h
  · split
    · split
      · exact h.still (by simp)
      · exact h
    · exact keeps_ite (fun _ => h.still rfl) fun _ => keeps_ite (fun _ => h.still (by simp)) fun _ => h

theorem keeps_advanceDone (h : Keeps wf loose s t) : Keeps wf loose s (advanceDone t) := by
  refine keeps_ite (fun _ => ?_) fun _ => keeps_ite (fun _ => ?_) fun _ => h.still rfl
  · exact Keeps.still (keeps_driveRequest .preheatContact t.wsq.active.trip
      (h.still (u := { platenHold t with flash.step := some .contact }) rfl) (by decide)) rfl
  · have requested : Keeps wf loose s (driveRequest .flash t.wsq.active.trip
        { platenHold t with
          flash.startPos := some t.pcu.position
          flash.highMark := some t.pcu.position
          flash.burnOff := some 0 }) := keeps_driveRequest _ _ (h.still rfl) (by decide)
    exact keeps_ite (fun _ => requested.still rfl) fun _ => requested.still (by simp)

theorem keeps_openStepEnds (h : Keeps wf loose s t) : Keeps wf loose s (openStepEnds t) :=
  keeps_ite (fun _ => h.still (by simp)) fun _ => h.still (by simp)

end
end Sys2Proof.Machine

/-! FAULT_HOLD, the emergency stop, CLEAR, the orders and their lists, received share frames. -/

namespace Sys2Proof.Machine

section
variable {wf loose loose' : Prop} {s t : State}

/-! ### Clamp reports -/

theorem keeps_setStation (st : StationState) (h : Keeps wf loose s t) : Keeps wf loose s (setStation st t) :=
  h.still (by simp)

theorem keeps_endClampOrder (h : Keeps wf loose s t) : Keeps wf loose s (endClampOrder t) := by
  unfold endClampOrder
  split
  · exact keeps_endOrder _ _ _ h
  · exact keeps_endOrder _ _ _ (h.still rfl)

theorem keeps_failClampOrder (reason : Reason) (h : Keeps wf loose s t) : Keeps wf loose s (failClampOrder reason t) :=
  keeps_ite (fun _ => keeps_endOrder _ _ _ (h.still rfl)) fun _ => h

theorem keeps_clampReport (st : StationState) (h : Keeps wf loose s t) : Keeps wf loose s (clampReport st t) :=
  keeps_ite (fun _ => keeps_endClampOrder (keeps_setStation st h)) fun _ => h

theorem keeps_clampsClosed (h : Keeps wf loose s t) : Keeps wf loose s (clampsClosed t) :=
  keeps_clampReport _ (h.setClamp rfl fun _ => .inl rfl)

theorem keeps_clampsOpen (h : Keeps wf loose s t) (closed : t.pcu.clamp ≠ some .closed) :
    Keeps wf loose s (clampsOpen t) :=
  keeps_clampReport _ (h.setClamp rfl fun c => absurd c closed)

/-! ### FAULT_HOLD and the emergency stop -/

theorem faultStation_watched (s : State) : (faultStation s).watched = s.watched := by
  unfold faultStation; split
  · rfl
  · split <;> rfl

theorem holdWeld_watched (s : State) : (holdWeld s).watched = s.watched := by
  unfold holdWeld stopEnding stopStep
  split <;> rfl

theorem keeps_holdWeld (h : Keeps wf loose s t) : Keeps wf loose s (holdWeld t) := h.still (holdWeld_watched t)

theorem keeps_truHold (h : Keeps wf loose s t) : Keeps wf loose s (truHold t) := h.still (by simp)

theorem keeps_clampsStop (h : Keeps wf loose s t) : Keeps wf loose s (clampsStop t) := h.still (by simp)

theorem keeps_faultHoldEntry (h : Keeps wf loose s t) : Keeps wf loose s (faultHoldEntry t) := by
  have entered : Keeps wf loose s (stopShoes (platenHold (faultStation t))) :=
    (h.still (faultStation_watched t)).still rfl
  exact keeps_immediateOff (keeps_endPause (keeps_truHold (keeps_holdWeld (entered.still rfl))))

theorem keeps_endBegunEnding (h : Keeps wf loose s t) : Keeps wf loose s (endBegunEnding t) := by
  unfold endBegunEnding
  split
  · exact keeps_ite (fun _ => keeps_endWeld _ _ _ h) fun _ => h
  · exact h

theorem keeps_reportHold (code : FaultCode) (h : Keeps wf loose s t) : Keeps wf loose s (reportHold code t) :=
  keeps_ite (fun _ => h.still (by simp)) fun _ => keeps_ite (fun _ => keeps_reportFault code h) fun _ =>
    keeps_endBegunEnding (keeps_reportFault code (keeps_faultHoldEntry (keeps_clampsStop
      (keeps_failClampOrder _ h))))

theorem keeps_lastFault (reason : Reason) (h : Keeps wf loose s t) :
    Keeps wf loose s { t with wsq.lastFault := reason } := h.still rfl

theorem keeps_reversalTimeout (h : Keeps wf loose s t) : Keeps wf loose s (reversalTimeout t) :=
  keeps_lastFault _ (keeps_faultHoldEntry (keeps_failClampOrder .clampTimeout (h.still rfl)))

theorem keeps_powerField (h : Keeps wf loose s t) : Keeps wf loose s (powerField t) :=
  keeps_detectorReset (h.still rfl)

theorem keeps_truFirstSample (back : Bool) (h : Keeps wf loose s t) : Keeps wf loose s (truFirstSample back t) :=
  h.still (by simp)

theorem keeps_stopStation (back : Bool) (h : Keeps wf loose s t) : Keeps wf loose s (stopStation back t) := by
  unfold stopStation
  split
  case h_5 => exact keeps_truFirstSample back (keeps_powerField (h.still rfl))
  all_goals first | exact h | exact h.still rfl

theorem keeps_stopOrders (left : StationState) (h : Keeps wf loose s t) : Keeps wf loose s (stopOrders left t) := by
  have weld : Keeps wf loose s (stopWeld t) := keeps_ite (fun _ => keeps_reportFault _ h) fun _ => h
  cases left with
  | clamping | unclamping => exact keeps_endOrder _ _ _ (h.still rfl)
  | welding | faultHold => exact weld
  | loading | unconfigured | listening | recover | idle | clamped | stopped | dormant | waking => exact h

/-- ACTIVE takes a run condition; before anything else looks at the drive it is BLOCKED (R55, R108). -/
theorem keeps_enterActive (back : Bool) (h : Keeps wf loose s t) : Keeps wf loose s (enterActive back t) := by
  have stopped : Keeps wf True s { t with stl.stop := .active, stl.debounce := none } :=
    h.setDrive rfl fun _ _ ⟨awake, off, _⟩ => ⟨awake, off, fun _ => .inr trivial⟩
  have held := keeps_holdWeld (Keeps.still (u := stopShoes (platenHold (stopStation back _)))
    (keeps_stopStation back stopped) rfl)
  exact keeps_stopNotice (keeps_stopOrders _ (keeps_immediateOff (loose := True)
    (keeps_endPause (keeps_truHold (keeps_clampsStop held)))))

/-! ### CLEAR -/

theorem keeps_resumeWeld (h : Keeps wf loose s t) : Keeps wf loose s (resumeWeld t) := by
  have ending (e : Ending) : Keeps wf loose s (resumeEnding e t) :=
    keeps_ite (fun _ => keeps_endWeld _ _ _ h) fun _ => h.still (by simp)
  have upset : Keeps wf loose s (resumeUpset t) :=
    keeps_ite (fun _ => keeps_endUpset _ _ h) fun _ => h.still rfl
  have phase : Keeps wf loose s (resumePhase t) := by
    unfold resumePhase
    split
    · exact upset
    · exact keeps_ite (fun _ => keeps_endHold h) fun _ => h
    · exact keeps_ite (fun _ => h) fun _ => h.still (by simp)
    · exact keeps_ite (fun _ => h.still (by simp)) fun _ => h
    · exact h
  have abort (a : Abort) : Keeps wf loose s (resumeAbort a t) := by
    unfold resumeAbort
    split
    · exact h
    · exact h.still (by simp)
    · exact h
    · exact keeps_ite (fun _ => h.still (by simp)) fun _ => h.still (by simp)
    · exact phase
  refine keeps_ite (fun _ => h) fun _ => ?_
  split
  · exact ending _
  · split
    · exact abort _
    · exact h

theorem keeps_returnSettled (h : Keeps wf loose s t) : Keeps wf loose s (returnByClamp.returnSettled t) :=
  keeps_ite (fun _ => keeps_setStation _ h) fun _ => keeps_setStation _ h

theorem keeps_returnByClamp (h : Keeps wf loose s t) : Keeps wf loose s (returnByClamp t) := by
  unfold returnByClamp
  split <;> rename_i clamp
  · exact keeps_setStation _ h
  · exact keeps_setStation _ h
  · exact keeps_ite (fun _ => keeps_openRequest _ (keeps_setStation _ h) fun c => by simp [clamp] at c) fun _ =>
      keeps_returnSettled (keeps_settleClamp h (by simp [clamp]))
  · exact keeps_ite (fun _ => keeps_closeRequest _ (keeps_setStation _ h)) fun _ =>
      keeps_returnSettled (keeps_settleClamp h (by simp [clamp]))
  · exact keeps_setStation _ h

theorem keeps_returnFromHold (h : Keeps wf loose s t) : Keeps wf loose s (returnFromHold t) := by
  refine keeps_ite (fun _ => keeps_resumeWeld (h.still rfl)) fun _ => keeps_ite (fun _ => ?_) fun _ =>
    keeps_returnByClamp (h.still rfl)
  exact keeps_ite (fun _ => keeps_setStation _ (h.still rfl)) fun _ => keeps_setStation _ (h.still rfl)

theorem keeps_truTakeUp (h : Keeps wf loose s t) : Keeps wf loose s (truTakeUp t) := h.still (by simp)

theorem keeps_wsqClear (h : Keeps wf loose s t) : Keeps wf loose s (wsqClear t) :=
  keeps_ite (fun _ => keeps_returnFromHold h) fun _ => h

theorem keeps_actClear (h : Keeps wf loose s t) : Keeps wf loose s (actClear t) := by
  have running : Keeps wf loose s { t with stl.stop := .run } := by
    refine h.eased rfl fun r => .inl ?_
    simp only [State.runConditions, State.drawing, State.ownClaim, State.paused, Bool.and_eq_true] at r ⊢
    exact ⟨⟨⟨r.1.1.1, rfl⟩, r.1.2⟩, r.2⟩
  have cleared := keeps_wsqClear (keeps_truTakeUp running)
  exact keeps_ite (fun _ => keeps_stopNotice cleared) fun _ => cleared

/-! ### Orders handled at once -/

theorem keeps_enterDormant (h : Keeps wf loose s t) : Keeps wf loose s (enterDormant t) :=
  keeps_setStation .dormant (Keeps.still (keeps_detectorReset (Keeps.still
    (u := stopShoes (platenHold (blockDrive t))) (keeps_blockDrive (loose := loose) h) rfl)) rfl)

theorem queuedRefusal_none {tag : Nat} {kind : QueuedKind} {u : State} (ok : queuedRefusal tag kind u = none) :
    u.orq.queue.length < 4 ∧ ∀ o ∈ u.orq.queue, o.tag ≠ tag := by
  unfold queuedRefusal at ok
  repeat' split at ok
  all_goals cases ok
  rename_i _ _ room free _ _ _
  exact ⟨by omega, fun o ho same => free (by simpa using ⟨o, ho, same⟩)⟩

theorem keeps_handleQueued (src tag : Nat) (kind : QueuedKind) (h : Keeps wf loose s t) :
    Keeps wf loose s (handleQueued src tag kind t) := by
  unfold handleQueued
  split
  · exact keeps_refuse _ _ _ _ h
  · rename_i ok
    obtain ⟨room, free⟩ := queuedRefusal_none ok
    refine keeps_accept _ _ _ (h.setOrders rfl fun _ ⟨_, tags, waiting, d⟩ => ?_)
    refine ⟨by rw [List.length_append]; exact room, ?_, fun o ho => ?_, d⟩
    · simp only [List.pairwise_append, List.pairwise_singleton, List.mem_singleton, true_and]
      exact ⟨tags, fun a ha b hb => by rw [hb]; exact free a ha⟩
    · have mem : o ∈ t.orq.queue.tail ∨ o = ⟨src, tag, kind, .waiting⟩ := by
        cases q : t.orq.queue with
        | nil => simp [q] at ho
        | cons a l => simpa [q] using ho
      obtain ho | rfl := mem
      · exact waiting o ho
      · rfl

theorem keeps_passAbort (target : Nat) (h : Keeps wf loose s t) : Keeps wf loose s (passAbort target t) := by
  have filed : Keeps wf loose s (fileAbortOrder t) := h.still (by simp)
  have clamp : Keeps wf loose s (abortClamp t) :=
    keeps_ite (fun _ => keeps_loseRun (keeps_openRequest true (h.still
      (u := { t with wsq.clampFail := none }) rfl).loosen fun _ => trivial)) fun _ => keeps_closeRequest _ (h.still rfl)
  unfold passAbort
  split
  · exact h
  · exact keeps_ite (fun _ => h) fun _ => keeps_ite (fun _ => keeps_ite (fun _ => h) fun _ => keeps_tryAbort _ filed)
      fun _ => clamp

/-- What is left of a sound queue when waiting orders are taken out of it is sound. -/
theorem keeps_removeWaiting (p : QueuedOrder → Bool) (waits : ∀ o, p o = false → o.status = .waiting)
    (h : Keeps wf loose s t) : Keeps wf loose s { t with orq.queue := t.orq.queue.filter p } := by
  refine h.setOrders rfl fun _ => ordersSound_sublist _ _ List.filter_sublist ?_ rfl rfl rfl
  cases q : t.orq.queue with
  | nil => simp
  | cons a l =>
    rw [List.filter_cons]
    split
    · exact List.filter_sublist
    · exact (List.tail_sublist _).trans List.filter_sublist

theorem keeps_sendCancelled (l : List QueuedOrder) (h : Keeps wf loose s t) :
    Keeps wf loose s (sendCancelled l t) := by
  induction l generalizing t with
  | nil => exact h
  | cons o l ih => exact ih (keeps_sendOther _ rfl h)

theorem keeps_endAborted (outcome : Option OrderOutcome) (h : Keeps wf loose s t) :
    Keeps wf loose s (endAborted outcome t) := by
  cases outcome with
  | none => exact h
  | some o => exact keeps_endOrder _ _ _ h

theorem keeps_handleAbort (src tag target : Nat) (h : Keeps wf loose s t) :
    Keeps wf loose s (handleAbort src tag target t) := by
  refine keeps_ite (fun _ => keeps_refuse _ _ _ _ h) fun _ => keeps_endAborted _ (keeps_sendCancelled _
    (keeps_sendAnswer _ _ _ _ _ _ _ (keeps_passAbort _ (keeps_removeWaiting _ ?_ h))))
  intro o removed
  simp only [removable, Bool.not_eq_false', Bool.and_eq_true, beq_iff_eq] at removed
  exact removed.2

theorem keeps_handleClear (src tag : Nat) (h : Keeps wf loose s t) : Keeps wf loose s (handleClear src tag t) :=
  keeps_ite (fun _ => keeps_accept _ _ _ (keeps_actClear h)) fun _ => keeps_refuse _ _ _ _ h

theorem keeps_handleStatus (src tag selector part : Nat) (h : Keeps wf loose s t) :
    Keeps wf loose s (handleStatus src tag selector part t) := by
  unfold handleStatus
  split
  · exact keeps_refuse _ _ _ _ h
  · exact keeps_sendAnswer _ _ _ _ _ _ _ h

theorem keeps_handleAdjust (src tag : Nat) (trip speed force : Int) (h : Keeps wf loose s t) :
    Keeps wf loose s (handleAdjust src tag trip speed force t) :=
  keeps_ite (fun _ => keeps_accept _ _ _ (h.still rfl)) fun _ => keeps_refuse _ _ _ _ h

theorem keeps_handleRead (src tag weldNo : Nat) (h : Keeps wf loose s t) :
    Keeps wf loose s (handleRead src tag weldNo t) := by
  unfold handleRead
  split
  · exact keeps_refuse _ _ _ _ h
  · exact keeps_sendAnswer _ _ _ _ _ _ _ (h.still rfl)

theorem keeps_handleRelease (src tag weldNo : Nat) (h : Keeps wf loose s t) :
    Keeps wf loose s (handleRelease src tag weldNo t) := by
  unfold handleRelease
  split
  · exact keeps_refuse _ _ _ _ h
  · exact keeps_accept _ _ _ (h.still rfl)
  · exact keeps_refuse _ _ _ _ h

theorem keeps_handleRest (src tag : Nat) (h : Keeps wf loose s t) : Keeps wf loose s (handleRest src tag t) :=
  keeps_ite (fun _ => keeps_enterDormant (keeps_accept _ _ _ h)) fun _ => keeps_refuse _ _ _ _ h

theorem keeps_handleRestart (src tag : Nat) (h : Keeps wf loose s t) : Keeps wf loose s (handleRestart src tag t) :=
  keeps_ite (fun _ => keeps_sendAnswer _ _ _ _ _ _ _ (h.still rfl)) fun _ => keeps_refuse _ _ _ _ h

theorem keeps_refuseBody (d : Delivered) (reason : Reason) (h : Keeps wf loose s t) :
    Keeps wf loose s (refuseBody d reason t) := by
  unfold refuseBody
  split
  · exact keeps_refuse _ _ _ _ h
  · exact keeps_refuse _ _ _ _ (h.still rfl)

theorem keeps_dispatchOrder (src : Nat) (b : OrderBody) (h : Keeps wf loose s t) :
    Keeps wf loose s (dispatchOrder src b t) := by
  cases b with
  | queued tag kind => exact keeps_handleQueued _ _ _ h
  | abort tag target => exact keeps_handleAbort _ _ _ h
  | clear tag => exact keeps_handleClear _ _ h
  | status tag selector part => exact keeps_handleStatus _ _ _ _ h
  | adjust tag trip speed force => exact keeps_handleAdjust _ _ _ _ _ h
  | readRecord tag weldNo => exact keeps_handleRead _ _ _ h
  | releaseHold tag weldNo => exact keeps_handleRelease _ _ _ h
  | rest tag => exact keeps_handleRest _ _ h
  | restart tag => exact keeps_handleRestart _ _ h
  | malformed body => exact keeps_refuseBody _ _ h

theorem keeps_handleOrder (d : Delivered) (h : Keeps wf loose s t) : Keeps wf loose s (handleOrder d t) :=
  keeps_ite (fun _ => keeps_refuseBody _ _ h) fun _ => keeps_ite (fun _ => keeps_refuseBody _ _ h) fun _ =>
    keeps_ite (fun _ => keeps_refuseBody _ _ h) fun _ => keeps_dispatchOrder _ _ (h.still (by simp))

/-! ### The held list and the arrival list -/

theorem keeps_startWake (h : Keeps wf loose s t) : Keeps wf loose s (startWake t) :=
  (keeps_powerField h).still rfl

theorem keeps_wakeUp (h : Keeps wf loose s t) : Keeps wf loose s (wakeUp t) :=
  keeps_ite (fun _ => keeps_startWake h) fun _ => h

theorem wakeUp_orq (u : State) : (wakeUp u).orq = u.orq := by simp

theorem keeps_takeOrder (d : Delivered) (h : Keeps wf loose s t) : Keeps wf loose s (takeOrder d t) := by
  refine keeps_ite (fun _ => keeps_ite (fun room => ?_) fun _ => keeps_refuseBody _ _ (keeps_wakeUp h)) fun _ =>
    keeps_handleOrder _ h
  refine (keeps_wakeUp h).setOrders rfl fun _ ⟨len, tags, waiting, _, arrivals⟩ => ⟨len, tags, waiting, ?_, arrivals⟩
  exact Nat.le_trans (Nat.le_of_eq (by simp [holdOrder, wakeUp_orq])) (Nat.succ_le_of_lt room)

theorem keeps_deliverOrder (d : Delivered) (h : Keeps wf loose s t) : Keeps wf loose s (deliverOrder d t) := by
  refine keeps_ite (fun _ => keeps_takeOrder d h) fun _ => keeps_ite (fun room => ?_) fun _ => h.counted 16 rfl
  exact h.setOrders rfl fun _ ⟨len, tags, waiting, held, _⟩ => ⟨len, tags, waiting, held, by rw [List.length_append]; exact room⟩

theorem keeps_deliverEach (l : List Delivered) (h : Keeps wf loose s t) :
    Keeps wf loose s (l.foldl (fun u d => deliverOrder d u) t) := by
  induction l generalizing t with
  | nil => exact h
  | cons d l ih => exact ih (keeps_deliverOrder d h)

theorem keeps_takeHeldOrders (h : Keeps wf loose s t) : Keeps wf loose s (takeHeldOrders t) := by
  refine keeps_ite (fun _ => keeps_deliverEach _ (h.setOrders rfl fun _ d => ?_)) fun _ => h
  obtain ⟨len, tags, waiting, _, arrivals⟩ := d
  exact ⟨len, tags, waiting, Nat.zero_le _, arrivals⟩

theorem keeps_receiveOrder (src : Nat) (b : OrderBody) (h : Keeps wf loose s t) :
    Keeps wf loose s (receiveOrder src b t) :=
  keeps_ite (fun _ => h) fun _ => keeps_takeHeldOrders (keeps_deliverOrder _ (keeps_lineFree h))

/-- What is left of the arrivals goes back to the list they came from, which handling them has left empty (R160). -/
theorem keeps_handleArrivals (l : List Delivered) (h : Keeps wf loose s t)
    (room : s.ordersSound → t.orq.arrivals.length + l.length ≤ listCapacity) :
    Keeps wf loose s (handleArrivals l t) := by
  induction l generalizing t with
  | nil => exact h
  | cons d l ih =>
    refine keeps_ite (fun _ => ih (keeps_takeOrder d h) fun sound => ?_) fun _ => ?_
    · have := room sound
      simp only [List.length_cons] at this
      simp only [takeOrder_frame]
      omega
    · refine h.setOrders rfl fun sound ⟨len, tags, waiting, held, _⟩ => ⟨len, tags, waiting, held, ?_⟩
      simpa using room sound

theorem keeps_workArrivals (h : Keeps wf loose s t) : Keeps wf loose s (workArrivals t) := by
  refine keeps_takeHeldOrders (keeps_handleArrivals _ (h.setOrders rfl fun _ d => ?_) fun sound => ?_)
  · obtain ⟨len, tags, waiting, held, _⟩ := d
    exact ⟨len, tags, waiting, held, Nat.zero_le _⟩
  · obtain ⟨_, _, _, _, arrivals⟩ := h.orders sound
    simpa using arrivals

/-! ### Share frames -/

theorem keeps_shareClaim (src number demand : Nat) (h : Keeps wf loose s t) (ok : wf → number ≤ top32) :
    Keeps wf loose s (shareClaim src number demand t) := by
  refine keeps_ite (fun _ => h) fun low => keeps_ite (fun _ => (keeps_raiseClock number h).still rfl) fun other =>
    keeps_ite (fun _ => h) fun pos => ?_
  refine keeps_evaluateShare (keeps_claimEffect _ _ _ ((keeps_raiseClock number h).still rfl) (by simpa using other) fun w => ?_)
  exact ⟨by omega, by omega, ok w⟩

theorem keeps_shareYield (src number : Nat) (h : Keeps wf loose s t) :
    Keeps wf loose s (shareYield src number t) :=
  keeps_ite (fun _ => h) fun _ => keeps_ite (fun _ => (keeps_raiseClock number h).still rfl) fun other =>
    keeps_ite (fun _ => h) fun _ =>
      keeps_evaluateShare (keeps_yieldEffect _ _ ((keeps_raiseClock number h).still rfl) (by simpa using other))

theorem keeps_shareBeacon (src : Nat) (b : BeaconBody) (h : Keeps wf loose s t) (ok : wf → b.claimNumber ≤ top32) :
    Keeps wf loose s (shareBeacon src b t) := by
  refine keeps_ite (fun _ => h) fun low => keeps_ite (fun _ => (keeps_raiseFromBeacon b h).still rfl) fun other => ?_
  have received := keeps_beaconEffect src b h other fun w => ⟨by omega, ok w⟩
  exact keeps_ite (fun _ => keeps_evaluateShare (keeps_discordYield received)) fun _ => keeps_evaluateShare received

theorem keeps_receiveShare (effect : State → State) (h : Keeps wf loose s t)
    (each : ∀ u, Keeps wf loose s u → Keeps wf loose s (effect u)) : Keeps wf loose s (receiveShare effect t) :=
  keeps_ite (fun _ => each _ (keeps_lineFree h)) fun _ => keeps_lineFree h

theorem keeps_discardFrame (frame : List Byte) (h : Keeps wf loose s t) : Keeps wf loose s (discardFrame frame t) := by
  have free := keeps_lineFree h
  unfold discardFrame countDiscard
  split
  · exact free.counted 10 rfl
  · exact free.counted 9 rfl
  · exact free.counted 11 rfl
  · exact free.counted 12 rfl
  · exact free
  · exact free
  · exact free

end
end Sys2Proof.Machine

/-! The commands: what each keeps of the invariants. -/

namespace Sys2Proof.Machine

section
variable {wf loose loose' : Prop} {s t : State}

/-! ### Start-up and the station's timers -/

theorem keeps_listeningEnds (h : Keeps wf loose s t) : Keeps wf loose s (listeningEnds t) := by
  have found : Keeps wf loose s (foundClosed { t with wsq.listenTimer := none }) := h.still rfl
  have closed : Keeps wf loose s (joinClosed { t with wsq.listenTimer := none }) := by
    refine keeps_ite (fun _ => keeps_ite (fun _ => keeps_faultHoldEntry (found.still rfl)) fun _ => found.still rfl) fun _ =>
      keeps_ite (fun _ => keeps_faultHoldEntry (found.still rfl)) fun _ => keeps_setStation _ found
  exact keeps_ite (fun _ => closed) fun _ => h.still (by simp)

theorem keeps_recoveryEnds (h : Keeps wf loose s t) : Keeps wf loose s (recoveryEnds t) := h.still (by simp)

theorem keeps_idleExpires (h : Keeps wf loose s t) : Keeps wf loose s (idleExpires t) :=
  keeps_ite (fun _ => keeps_enterDormant h) fun _ => h.still rfl

theorem keeps_wakeEnds (back : Bool) (h : Keeps wf loose s t) : Keeps wf loose s (wakeEnds back t) := by
  have sampled := keeps_truFirstSample back (h.still (u := { t with wsq.wakeTimer := none }) rfl)
  exact keeps_ite (fun _ => keeps_takeHeldOrders (keeps_setStation _ sampled)) fun _ => sampled

theorem keeps_startOrder (o : QueuedOrder) (temp : Option Int) (h : Keeps wf loose s t) :
    Keeps wf loose s (startOrder o temp t) := by
  unfold startOrder
  split
  · exact keeps_ite (fun _ => keeps_closeRequest _ (keeps_setStation _ (h.still rfl))) fun _ => keeps_endOrder _ _ _ h
  · refine keeps_ite (fun _ => keeps_loseRun (keeps_openRequest false (keeps_setStation .unclamping
      (Keeps.still (u := { t with wsq.clampFail := none }) h.loosen rfl)) fun _ => trivial)) fun _ => keeps_endOrder _ _ _ h
  · exact keeps_takeWeld _ _ _ _ h

theorem keeps_takeHead (temp : Option Int) (h : Keeps wf loose s t) : Keeps wf loose s (takeHead temp t) := by
  unfold takeHead
  split
  · exact h
  · exact keeps_startOrder _ _ (h.setOrders rfl fun _ => ordersSound_setHead .executing)

/-! ### The lists of frames and records, the line, the share table's timers -/

theorem keeps_queueWaiter (h : Keeps wf loose s t) (room : queueRoom t = true) :
    Keeps wf loose s (queueWaiter t) := by
  unfold queueWaiter
  split
  · exact h
  · rename_i f l waiters
    refine keeps_armWait (keeps_placed _ (h.setLink rfl fun _ ⟨_, first, waiting, d⟩ => ?_))
    rw [waiters] at waiting
    refine ⟨by rw [List.length_append]; exact of_decide_eq_true room, shareFirst_concat f _ (waiting f List.mem_cons_self) first, fun g hg =>
      waiting g (List.mem_cons_of_mem _ hg), d⟩

theorem keeps_queueRecordPart (h : Keeps wf loose s t) : Keeps wf loose s (queueRecordPart t) := by
  unfold queueRecordPart
  split
  · exact h
  · split
    · exact keeps_sendOther _ rfl (h.still rfl)
    · exact keeps_sendOther _ rfl (h.still rfl)
    all_goals exact h

theorem keeps_writeEnds (h : Keeps wf loose s t) : Keeps wf loose s (writeEnds t) := by
  unfold writeEnds
  split
  · exact h
  · exact keeps_ite (fun _ => keeps_endWeld _ _ _ (h.still rfl)) fun _ => h.still rfl

/-- No collision yet. -/
theorem zero_lt_jamLimit : 0 < jamLimit := by decide

theorem keeps_startSending (h : Keeps wf loose s t) : Keeps wf loose s (startSending t) := by
  have filled : Keeps wf loose s (fillSlot t) := by
    refine keeps_ite (fun empty => h.setLink rfl fun _ ⟨len, first, waiting, sending, _⟩ => ?_) fun _ => h
    refine ⟨?_, first.sublist (List.tail_sublist _), waiting, fun sends => ?_, zero_lt_jamLimit⟩
    · exact Nat.le_trans (List.tail_sublist _).length_le len
    · rw [Option.isNone_iff_eq_none.mp empty] at sending
      cases sending sends
  exact filled.setLink rfl fun _ ⟨len, first, waiting, _, run⟩ => ⟨len, first, waiting, id, run⟩

theorem keeps_emptySlot (h : Keeps wf loose s t) : Keeps wf loose s (emptySlot t) :=
  h.setLink rfl fun _ ⟨len, first, waiting, _⟩ =>
    ⟨len, first, waiting, fun sends => (by cases sends), zero_lt_jamLimit⟩

theorem keeps_frameSent (h : Keeps wf loose s t) : Keeps wf loose s (frameSent t) := by
  unfold frameSent
  split
  · exact h
  · exact keeps_armWait (keeps_reportTransmitted _ (keeps_emptySlot h))

/-- The third collision in a row empties the slot, so a frame in it has had fewer (R153). -/
theorem keeps_sendingCollides (h : Keeps wf loose s t) (sending : t.lkc.sending = true) :
    Keeps wf loose s (sendingCollides t) := by
  have counted := h.counted (u := { t with lkc.collisions := bump16 t.lkc.collisions }) 13 rfl
  refine keeps_ite (fun few => counted.setLink rfl fun _ ⟨len, first, waiting, _⟩ => ?_) fun _ => ?_
  · exact ⟨len, first, waiting, fun sends => (by cases sends), few⟩
  · unfold dropJammed
    split
    · rename_i empty
      refine counted.setLink rfl fun _ ⟨_, _, _, slot, _⟩ => ?_
      have := slot sending
      simp [show t.lkc.slot = none from empty] at this
    · refine keeps_reportDropped _ (Keeps.counted (t := emptySlot (collided t)) ?_ 14 rfl)
      exact counted.setLink rfl fun _ ⟨len, first, waiting, _⟩ =>
        ⟨len, first, waiting, fun sends => (by cases sends), zero_lt_jamLimit⟩

theorem keeps_claimWaitEnds (h : Keeps wf loose s t) : Keeps wf loose s (claimWaitEnds t) := by
  have counted : Keeps wf loose s { yieldOwn t with
      sht.claimTimeouts := bump16 (yieldOwn t).sht.claimTimeouts } :=
    Keeps.counted (t := yieldOwn t) (keeps_yieldOwn h) 3 rfl
  exact keeps_ite (fun _ => counted.still (by simp)) fun _ => counted

/-! ### Clamps and platen -/

theorem keeps_clampForceHit (h : Keeps wf loose s t) : Keeps wf loose s (clampForceHit t) :=
  keeps_ite (fun _ => h.still rfl) fun _ => keeps_clampsClosed h

theorem keeps_clampTimesOut (h : Keeps wf loose s t) : Keeps wf loose s (clampTimesOut t) := by
  have noted : Keeps wf loose s (noteTimeout t) := h.still (by simp)
  refine keeps_ite (fun _ => h.still rfl) fun _ => keeps_ite (fun _ => keeps_reversalTimeout h) fun _ =>
    keeps_ite (fun closing => ?_) fun _ => keeps_ite (fun _ => keeps_closeRequest _ noted) fun _ => h
  exact keeps_openRequest _ noted fun closed => by simp [closing] at closed

theorem keeps_forceReport (h : Keeps wf loose s t) : Keeps wf loose s (forceReport t) :=
  keeps_ite (fun _ => keeps_endUpset _ _ (h.still rfl)) fun _ => h.still rfl

theorem keeps_shoeMeasured (microohm : Nat) (h : Keeps wf loose s t) : Keeps wf loose s (shoeMeasured microohm t) := by
  unfold shoeMeasured
  split
  · exact h
  · refine keeps_ite (fun _ => h.still rfl) fun _ => keeps_ite (fun _ => ?_) fun _ => ?_
    · exact keeps_endWeld _ _ _ (h.still rfl)
    · exact h.still (by simp)

theorem keeps_sampleTaken (f : FieldSample) (h : Keeps wf loose s t) : Keeps wf loose s (sampleTaken f t) := by
  have taken : Keeps wf loose s (takeSample f t) := h.still rfl
  have compared : Keeps wf loose s (compareWake f.pressure (takeSample f t)) :=
    keeps_ite (fun _ => keeps_ite (fun _ => keeps_reportHold _ (taken.still rfl)) fun _ => taken.still rfl) fun _ => taken
  exact keeps_advanceCommand (compared.still (by simp))

/-! ### The weld and the trimmer -/

theorem keeps_trimReport (result : TrimResult) (h : Keeps wf loose s t) : Keeps wf loose s (trimReport result t) :=
  h.still (by simp)

theorem keeps_platenHold (h : Keeps wf loose s t) : Keeps wf loose s (platenHold t) := h.still (by simp)

theorem keeps_upsetTimesOut (h : Keeps wf loose s t) : Keeps wf loose s (upsetTimesOut t) :=
  keeps_endUpset _ _ (keeps_platenHold (keeps_reportFault .upsetTimeout (h.still rfl)))

theorem keeps_holdTimeEnds (h : Keeps wf loose s t) : Keeps wf loose s (holdTimeEnds t) :=
  keeps_ite (fun _ => h.still rfl) fun _ => keeps_endHold h

theorem keeps_windowEnds (h : Keeps wf loose s t) : Keeps wf loose s (windowEnds t) :=
  keeps_trimReport _ (keeps_reportFault _ (h.still rfl))

theorem keeps_fileTrimFail (h : Keeps wf loose s t) : Keeps wf loose s (fileTrimFail t) :=
  keeps_ite (fun _ => h) fun _ => keeps_reportFault _ (h.still rfl)

theorem keeps_startReturn (h : Keeps wf loose s t) : Keeps wf loose s (startReturn t) := h.still rfl

theorem keeps_strokeTimesOut (h : Keeps wf loose s t) : Keeps wf loose s (strokeTimesOut t) :=
  keeps_ite (fun _ => keeps_startReturn (keeps_fileTrimFail h)) fun _ =>
    keeps_trimReport _ (keeps_fileTrimFail (h.still rfl))

/-! ### The drive -/

theorem keeps_cycleEnds (h : Keeps wf loose s t) : Keeps wf loose s (cycleEnds t) := by
  have credited := keeps_ite (c := driveRuns t = true) (fun _ => h.still (u := creditEnergy t) rfl) fun _ => h
  exact keeps_ite (fun _ => keeps_evaluateCycle credited) fun _ => credited

theorem keeps_cycleBoundary (h : Keeps wf loose s t) : Keeps wf loose s (cycleBoundary t) := by
  have ended := keeps_cycleEnds h
  refine keeps_ite (fun runs => ?_) fun _ => ended
  have resumed : Keeps wf loose s (if (cycleEnds t).stl.pause = .resuming then resumeRecovered (cycleEnds t) else cycleEnds t) :=
    keeps_ite (fun _ => keeps_resumeRecovered ended) fun _ => ended
  refine keeps_beginCycle _ (resumed.still rfl) ?_
  have on : (cycleEnds t).cdr.mode ≠ .off := by
    simp only [timingRuns, Bool.and_eq_true, bne_iff_ne] at runs
    exact runs.1
  split <;> simpa using on

theorem keeps_halfEnds (l : List DriveSample) (n : Nat) (h : Keeps wf loose s t) :
    Keeps wf loose s (halfEnds l n t) := by
  have taken := keeps_takeIntegral n (keeps_takeSamples l h)
  refine keeps_ite (fun _ => keeps_ite (fun _ => keeps_driveOff taken) fun _ => taken.still rfl) fun _ =>
    keeps_ite (fun _ => ?_) fun _ => taken.still rfl
  have ended : Keeps wf loose s (cycleEnds { takeIntegral n (takeSamples l t) with
      cdr.half := .boundary, cdr.pulse := .none }) := keeps_cycleEnds (taken.still rfl)
  exact keeps_ite (fun _ => keeps_driveOff ended) fun _ => ended

theorem keeps_takeReading (r : DriveReading) (h : Keeps wf loose s t) : Keeps wf loose s (takeReading r t) := by
  have taken := keeps_takeSamples r.samples h
  unfold takeReading
  dsimp only
  split
  · exact taken
  · exact keeps_ite (fun _ => taken.still rfl) fun _ => taken

theorem keeps_overcurrentTaken (h : Keeps wf loose s t) : Keeps wf loose s (overcurrentTaken t) :=
  keeps_reportFault _ (h.still rfl)

/-! ### Stops and pauses -/

theorem keeps_stopAsserted (back : Bool) (h : Keeps wf loose s t) : Keeps wf loose s (stopAsserted back t) :=
  keeps_ite (fun _ => h.still rfl) fun _ => keeps_ite (fun _ => h.still rfl) fun _ => keeps_enterActive back (h.still rfl)

theorem keeps_stopDeasserted (h : Keeps wf loose s t) : Keeps wf loose s (stopDeasserted t) :=
  keeps_ite (fun _ => h.still rfl) fun _ => h.still rfl

theorem keeps_releaseEnds (h : Keeps wf loose s t) (active : t.stl.stop = .active) :
    Keeps wf loose s (releaseEnds t) :=
  keeps_stopNotice (h.eased rfl fun r => by simp [State.runConditions, active] at r)

theorem keeps_sagCounts (h : Keeps wf loose s t) : Keeps wf loose s (sagCounts t) := by
  have counted := h.counted (u := { t with stl.sagCount := bump16 t.stl.sagCount, stl.deglitch := none }) 0 rfl
  exact keeps_ite (fun _ => keeps_beginPause counted) fun _ => counted.still rfl

theorem keeps_pauseTimesOut (h : Keeps wf loose s t) : Keeps wf loose s (pauseTimesOut t) := by
  have reported : Keeps wf loose s (reportFault .supplyLost { t with stl.pauseTimer := none, stl.lostReported := true }) :=
    keeps_reportFault _ (h.still rfl)
  exact keeps_ite (fun _ => reported) fun _ => keeps_drawingEnded reported

end
end Sys2Proof.Machine

/-! The invariants along a step (O6 to O10, but for the record store), and that every command answers (O4). -/

namespace Sys2Proof.Machine

/-! ### What a command answers -/

/-- An event that happened had to be possible. -/
theorem onEvent_cases {possible : Bool} {effect : State → State} {s t : State} (h : onEvent possible effect s = .next t) :
    t = s ∨ (s.inReset = false ∧ possible = true ∧ t = effect s) := by
  unfold onEvent at h
  split at h <;> cases h
  · rename_i taken
    simp only [Bool.and_eq_true, Bool.not_eq_true'] at taken
    exact .inr ⟨taken.1, taken.2, rfl⟩
  · exact .inl rfl

theorem receiveOrder_inReset (src : Nat) (b : OrderBody) (s : State) (h : s.inReset = true) :
    receiveOrder src b s = s := if_pos (.inl h)

/-- A station held in its reset state takes resets and the level of the emergency-stop input alone (R177). -/
theorem exec_inReset (c : Instr) (s : State) (held : s.inReset = true) (ordinary : isReset c = false)
    (asserted : ∀ r, c ≠ .eStopAsserted r) (deasserted : c ≠ .eStopDeasserted) : exec c s = .next s := by
  have received (src : Nat) (b : OrderBody) : Host.Outcome.next (receiveOrder src b s) = (.next s : Out) :=
    congrArg _ (receiveOrder_inReset src b s held)
  cases c with
  | powerOn | hardReset | resetEnd | restartReset => cases ordinary
  | eStopAsserted r => exact absurd rfl (asserted r)
  | eStopDeasserted => exact absurd rfl deasserted
  | orderClamp | orderWeld | orderUnclamp | abort | clear | status | adjust | readRecord | releaseHold | rest | restart
    | badOrder => exact received _ _
  | linkRestCleared | plausibilityRearm => unfold exec; exact onEvent_inReset _ _ s held
  | _ => exact onEvent_inReset _ _ s held

/-- Settles O4: each arm of exec is written as a next state, and in the reset state each event is shut out. -/
theorem everyCommandAnswersNext : Obligations.EveryCommandAnswersNext := by
  refine fun c s => ⟨?_, exec_inReset c s⟩
  cases c <;> exact ⟨_, rfl⟩

/-! ### Commands -/

section
variable {wf loose : Prop} {s t : State}

theorem keeps_onEvent {possible : Bool} {effect : State → State} (h : onEvent possible effect s = .next t)
    (each : possible = true → Keeps wf loose s (effect s)) : Keeps wf loose s t := by
  obtain rfl | ⟨_, taken, rfl⟩ := onEvent_cases h
  · exact .refl _
  · exact each taken

theorem keeps_received (src : Nat) (b : OrderBody) (h : (.next (receiveOrder src b s) : Out) = .next t) :
    Keeps wf loose s t := by
  cases h
  exact keeps_receiveOrder _ _ (.refl _)

theorem keeps_settleMarker (h : Keeps wf loose s t) : Keeps wf loose s (settleMarker t) := by
  unfold settleMarker
  split
  · exact h
  · exact h.still rfl

/-- Clamps known to be CLOSED stay so when the image is accepted. -/
theorem keeps_acceptImage (image : List Byte) (h : Keeps wf loose s t) : Keeps wf loose s (acceptImage image t) := by
  refine keeps_queueBeacon (keeps_settleMarker (h.setClamp rfl fun closed => .inl ?_))
  simp [closed]

theorem keeps_settingsRead (image : Option (List Byte)) (h : Keeps wf loose s t) :
    Keeps wf loose s (settingsRead image t) := by
  have failed : Keeps wf loose s (unconfigured t) := h.still rfl
  cases image with
  | none => exact failed
  | some l => exact keeps_ite (fun _ => keeps_acceptImage l h) fun _ => keeps_ite (fun _ => failed.still rfl) fun _ => failed

end

/-- Every command but a reset keeps the invariants. -/
theorem exec_keeps (c : Instr) (s t : State) (h : exec c s = .next t) (ordinary : isReset c = false) :
    Keeps (c.wf = true) False s t := by
  have same : Keeps (c.wf = true) False s s := .refl s
  have wf_claim (src number demand : Nat) (w : (Instr.claimReceived src number demand).wf = true) : number ≤ top32 := by
    simp only [Instr.wf, isLong, Bool.and_eq_true, decide_eq_true_eq] at w; exact w.1.2
  have wf_beacon (src : Nat) (b : BeaconBody) (w : (Instr.beaconReceived src b).wf = true) : b.claimNumber ≤ top32 := by
    simp only [Instr.wf, BeaconBody.wf, isLong, Bool.and_eq_true, decide_eq_true_eq] at w; exact w.2.1.1.1.1.2
  cases c with
  | powerOn | hardReset | resetEnd | restartReset => cases ordinary
  | orderClamp | orderWeld | orderUnclamp | abort | clear | status | adjust | readRecord | releaseHold | rest | restart
    | badOrder => exact keeps_received _ _ h
  | settingsReadComplete image => exact keeps_onEvent h fun _ => keeps_settingsRead image same
  | loadingTimeLimit => exact keeps_onEvent h fun _ => same.still rfl
  | listeningWindowEnd => exact keeps_onEvent h fun _ => keeps_listeningEnds same
  | recoveryCoolingExpiry => exact keeps_onEvent h fun _ => keeps_recoveryEnds same
  | idleTimerExpiry => exact keeps_onEvent h fun _ => keeps_idleExpires same
  | wakeTimeEnd back => exact keeps_onEvent h fun _ => keeps_wakeEnds back same
  | takeHeadOrder temp => exact keeps_onEvent h fun _ => keeps_takeHead temp same
  | arrivalListHandling => exact keeps_onEvent h fun _ => keeps_workArrivals same
  | outgoingFrameQueued => exact keeps_onEvent h fun room => keeps_queueWaiter same room
  | recordPartQueued => exact keeps_onEvent h fun _ => keeps_queueRecordPart same
  | beaconReceived src b =>
    exact keeps_onEvent h fun _ => keeps_receiveShare _ same fun _ k => keeps_shareBeacon src b k (wf_beacon src b)
  | claimReceived src number demand =>
    exact keeps_onEvent h fun _ => keeps_receiveShare _ same fun _ k =>
      keeps_shareClaim src number demand k (wf_claim src number demand)
  | yieldReceived src number =>
    exact keeps_onEvent h fun _ => keeps_receiveShare _ same fun _ k => keeps_shareYield src number k
  | frameDiscarded frame => exact keeps_onEvent h fun _ => keeps_discardFrame frame same
  | lineActivity => exact keeps_onEvent h fun _ => same.still rfl
  | mediumAccessWaitEnd => exact keeps_onEvent h fun _ => keeps_startSending same
  | linkRestCleared => unfold exec at h; exact keeps_onEvent h fun _ => same.still rfl
  | frameTransmitted => exact keeps_onEvent h fun _ => keeps_frameSent same
  | collision => exact keeps_onEvent h fun sending => keeps_sendingCollides same sending
  | beaconTimerExpiry => exact keeps_onEvent h fun _ => keeps_queueBeacon (same.still rfl)
  | settleWindowExpiry => exact keeps_onEvent h fun _ => keeps_evaluateShare (same.still rfl)
  | claimWaitExpiry => exact keeps_onEvent h fun _ => keeps_claimWaitEnds same
  | lossTimerExpiry peer =>
    refine keeps_onEvent h fun possible => keeps_evaluateShare (keeps_lossEffect peer same ?_)
    simp only [Bool.and_eq_true, bne_iff_ne] at possible; exact possible.1
  | drainExpiry station =>
    refine keeps_onEvent h fun possible => keeps_evaluateShare (keeps_drainEffect station same fun c found => ?_)
    simp only [drained, found, Option.any_some, Bool.and_eq_true, beq_iff_eq] at possible; exact possible.1
  | clampForceReached => exact keeps_onEvent h fun _ => keeps_clampForceHit same
  | clampReleased =>
    refine keeps_onEvent h fun possible => keeps_clampsOpen same fun closed => ?_
    simp [clampDriven, closed] at possible
  | clampTimerExpiry => exact keeps_onEvent h fun _ => keeps_clampTimesOut same
  | slipDetected => exact keeps_onEvent h fun _ => keeps_reportHold _ (same.still rfl)
  | slipRearmed => exact keeps_onEvent h fun _ => same.still rfl
  | implausibleSample => exact keeps_onEvent h fun _ => keeps_reportHold _ (same.still rfl)
  | plausibilityRearm => unfold exec at h; exact keeps_onEvent h fun _ => same.still rfl
  | movementTargetReached | movementTimerExpiry =>
    exact keeps_onEvent h fun _ => keeps_movementDone (keeps_platenHold same)
  | forceReached => exact keeps_onEvent h fun _ => keeps_forceReport same
  | shoeMeasurementEnd microohm => exact keeps_onEvent h fun _ => keeps_shoeMeasured microohm same
  | touchContact => exact keeps_onEvent h fun _ => keeps_completeTouch same
  | touchReserveReached | touchTimerExpiry => exact keeps_onEvent h fun _ => same.still (by simp [touchFail])
  | pullDrift => exact keeps_onEvent h fun _ => keeps_reportFault _ (same.still rfl)
  | advanceContact => exact keeps_onEvent h fun _ => keeps_advanceDone same
  | advanceTimerExpiry => exact keeps_onEvent h fun _ => keeps_reportFault _ (keeps_platenHold same)
  | contactIntervalExpiry => exact keeps_onEvent h fun _ => keeps_normalOff (same.still rfl)
  | openIntervalExpiry => exact keeps_onEvent h fun _ => keeps_openStepEnds same
  | burnOffReached => exact keeps_onEvent h fun _ => keeps_endFlash same
  | boostDistanceReached => exact keeps_onEvent h fun _ => keeps_enterUpset same
  | streakTimerExpiry => exact keeps_onEvent h fun _ => same.still rfl
  | flashLostExpiry => exact keeps_onEvent h fun _ => keeps_reportFault _ (same.still rfl)
  | flashTimeExpiry => exact keeps_onEvent h fun _ => keeps_reportFault _ (same.still (by simp))
  | upsetCurrentDistance => exact keeps_onEvent h fun _ => keeps_endUpsetCurrent same
  | upsetTimeExpiry => exact keeps_onEvent h fun _ => keeps_upsetTimesOut same
  | pullSettlePoint => exact keeps_onEvent h fun _ => same.still (by simp)
  | holdTimeExpiry => exact keeps_onEvent h fun _ => keeps_holdTimeEnds same
  | trimWindowExpiry => exact keeps_onEvent h fun _ => keeps_windowEnds same
  | endSwitchMade => exact keeps_onEvent h fun _ => same.still rfl
  | dwellEnd => exact keeps_onEvent h fun _ => same.still rfl
  | returnSwitchMade => exact keeps_onEvent h fun _ => same.still (by simp)
  | trimStrokeTimerExpiry => exact keeps_onEvent h fun _ => keeps_strokeTimesOut same
  | coolingTimeExpiry => exact keeps_onEvent h fun _ => same.still (by simp)
  | recordWriteComplete => exact keeps_onEvent h fun _ => keeps_writeEnds same
  | carrierCycleEnd => exact keeps_onEvent h fun _ => keeps_cycleBoundary same
  | halfCycleEnd l n => exact keeps_onEvent h fun _ => keeps_halfEnds l n same
  | pulseTrip => exact keeps_onEvent h fun _ => same.still rfl
  | blankingEnd r => exact keeps_onEvent h fun _ => keeps_takeReading r same
  | offTimeEnd => exact keeps_onEvent h fun _ => same.still rfl
  | conductionWindowEnd => exact keeps_onEvent h fun _ => same.still rfl
  | overcurrent => exact keeps_onEvent h fun _ => keeps_overcurrentTaken same
  | eStopAsserted back => cases h; exact keeps_stopAsserted back same
  | eStopDeasserted => cases h; exact keeps_stopDeasserted same
  | releaseDebounceExpiry =>
    refine keeps_onEvent h fun possible => keeps_releaseEnds same ?_
    simp only [Bool.and_eq_true, beq_iff_eq] at possible; exact possible.1
  | busVoltageSample volts => exact keeps_onEvent h fun _ => keeps_takeVolts volts same
  | sagDeglitchExpiry => exact keeps_onEvent h fun _ => keeps_sagCounts same
  | pauseTimerExpiry => exact keeps_onEvent h fun _ => keeps_pauseTimesOut same
  | pcuSample f => exact keeps_onEvent h fun _ => keeps_sampleTaken f same

/-- Settles O11: the chain of every command but a reset keeps or raises the claim clock, hard resets keep it. -/
theorem claimClockNeverDecreases : Obligations.ClaimClockNeverDecreases := by
  intro c s t h
  have kept (e : t.sht.clock = s.sht.clock) (other : c ≠ .powerOn) :
      (c ≠ .powerOn → s.sht.clock ≤ t.sht.clock) ∧ (c = .powerOn → t.sht.clock = 0) ∧
        (s.sht.clock ≤ top32 → t.sht.clock ≤ top32) := by
    rw [e]; exact ⟨fun _ => Nat.le_refl _, fun on => absurd on other, id⟩
  cases reset : isReset c with
  | false =>
    obtain ⟨rises, top⟩ := (exec_keeps c s t h reset).clock
    exact ⟨fun _ => rises, fun on => absurd reset (by rw [on]; decide), top⟩
  | true =>
    cases c with
    | powerOn => cases h; exact ⟨fun other => absurd rfl other, fun _ => rfl, fun _ => Nat.zero_le _⟩
    | hardReset => cases h; exact kept rfl nofun
    | resetEnd straps f back => cases h; exact kept (by split <;> simp) nofun
    | restartReset straps f back =>
      unfold exec execRestartReset at h
      obtain rfl | ⟨_, _, rfl⟩ := onEvent_cases h <;> exact kept rfl nofun
    | _ => cases reset

/-! ### Resets, the passing of time, and steps -/

/-- What a step asks of the states before and after it. -/
structure KeepsSound (wf : Prop) (s t : State) : Prop where
  drive : s.driveSound → t.driveSound
  table : wf → s.tableSound → t.tableSound
  link : s.linkSound → t.linkSound
  orders : s.ordersSound → t.ordersSound
  flux : s.fluxSound → t.fluxSound
  counters : s.countersSound → t.countersSound
  pending : t.pending = s.pending

theorem Keeps.sound {wf : Prop} {s t : State} (k : Keeps wf False s t) (drive : s.driveSound → t.driveSound) :
    KeepsSound wf s t := ⟨drive, k.table, k.link, k.orders, k.flux, k.counters, k.pending⟩

theorem KeepsSound.trans {wf : Prop} {s t u : State} (k : KeepsSound wf s t) (l : KeepsSound wf t u) :
    KeepsSound wf s u where
  drive := l.drive ∘ k.drive
  table w := l.table w ∘ k.table w
  link := l.link ∘ k.link
  orders := l.orders ∘ k.orders
  flux := l.flux ∘ k.flux
  counters := l.counters ∘ k.counters
  pending := l.pending.trans k.pending

/-- Both resets leave the drive BLOCKED, the lists of the link and of the orders empty, and no claim. -/
theorem emptied_sound {t : State} (cdr : t.cdr = .initial) (queue : t.lkc.queue = []) (waiters : t.lkc.waiters = [])
    (sending : t.lkc.sending = false) (run : t.lkc.collisionRun = 0) (orders : t.orq.queue = [])
    (held : t.orq.heldList = []) (arrivals : t.orq.arrivals = []) :
    t.driveSound ∧ t.linkSound ∧ t.ordersSound ∧ t.fluxSound := by
  refine ⟨?_, ?_, ?_, ?_⟩
  · simp [State.driveSound, cdr, Cdr.initial]
  · simp [State.linkSound, queue, waiters, sending, run, shareFirst, jamLimit]
  · simp [State.ordersSound, orders, held, arrivals]
  · simp [State.fluxSound, cdr, Cdr.initial]

theorem hardReset_keepsSound {wf : Prop} (s : State) : KeepsSound wf s (hardResetState s) := by
  obtain ⟨drive, link, orders, flux⟩ := emptied_sound (t := hardResetState s) rfl rfl rfl rfl rfl rfl rfl rfl
  refine ⟨fun _ => drive, fun _ ⟨_, clock, _⟩ => ?_, fun _ => link, fun _ => orders, fun _ => flux, fun d => ?_, rfl⟩
  · exact ⟨Nat.zero_le _, clock, by simp [claimListSound, hardResetState, Sht.initial]⟩
  · simp only [State.countersSound, List.forall_mem_cons] at d ⊢
    exact ⟨Nat.zero_le _, Nat.zero_le _, d.2.2⟩

theorem powerOn_keepsSound {wf : Prop} (s : State) : KeepsSound wf s (powerOnState s) := by
  obtain ⟨drive, link, orders, flux⟩ := emptied_sound (t := powerOnState s) rfl rfl rfl rfl rfl rfl rfl rfl
  refine ⟨fun _ => drive, fun _ _ => ?_, fun _ => link, fun _ => orders, fun _ => flux, fun _ => ?_, rfl⟩
  · exact ⟨Nat.zero_le _, Nat.zero_le _, by simp [claimListSound, powerOnState, State.reset, Sht.initial]⟩
  · exact (by decide : ∀ n ∈ List.replicate 17 0, n ≤ 65535)

/-- The drive of a station held in reset does not run, so the end of the reset may change what the run conditions read. -/
theorem releaseReset_keepsSound {wf : Prop} (straps : Nat) (f : FieldSample) (back : Bool) (s : State)
    (held : s.inReset = true) : KeepsSound wf s (releaseReset straps f back s) where
  drive := fun ⟨off, runs⟩ => by
    have drive : (releaseReset straps f back s).cdr = s.cdr := by simp
    rw [State.driveSound, drive]
    exact ⟨off, fun running => by cases held.symm.trans (runs running).1⟩
  table := fun _ ⟨_, clock, claims⟩ =>
    ⟨Nat.le_of_lt_succ (Nat.mod_lt straps (by decide : 0 < 8)), clock, claims⟩
  link := id
  orders := id
  flux := id
  counters d := by
    simp only [State.countersSound, List.forall_mem_cons] at d ⊢
    exact ⟨Nat.zero_le _, Nat.zero_le _, d.2.2⟩
  pending := rfl

/-- Every command keeps the invariants; a station held in reset keeps its drive as it is (R177). -/
theorem exec_keepsSound (c : Instr) (s t : State) (h : exec c s = .next t) : KeepsSound (c.wf = true) s t := by
  cases ordinary : isReset c with
  | true =>
    cases c with
    | powerOn => cases h; exact powerOn_keepsSound s
    | hardReset => cases h; exact hardReset_keepsSound s
    | resetEnd straps f back =>
      cases h
      split
      · exact releaseReset_keepsSound straps f back s ‹_›
      · exact (Keeps.refl s).sound id
    | restartReset straps f back =>
      unfold exec execRestartReset at h
      obtain rfl | ⟨_, _, rfl⟩ := onEvent_cases h
      · exact (Keeps.refl t).sound id
      · exact (hardReset_keepsSound s).trans (releaseReset_keepsSound straps f back _ rfl)
    | _ => cases ordinary
  | false =>
    have k := exec_keeps c s t h ordinary
    cases held : s.inReset with
    | false => exact k.sound fun d => (k.drive held d).sound
    | true =>
      refine k.sound fun d => ?_
      have stopped : s.cdr.drive ≠ .running := fun running => by cases held.symm.trans (d.2 running).1
      have level (x : Bool) : ({ s with stl.input := x } : State).driveSound := ⟨d.1, fun r => absurd r stopped⟩
      by_cases asserted : ∃ r, c = .eStopAsserted r
      · obtain ⟨r, rfl⟩ := asserted
        cases h
        rw [show stopAsserted r s = { s with stl.input := true } from if_pos held]
        exact level true
      · by_cases deasserted : c = .eStopDeasserted
        · subst deasserted
          cases h
          rw [show stopDeasserted s = { s with stl.input := false } by simp [stopDeasserted, held, setInput]]
          exact level false
        · have same := exec_inReset c s held ordinary (fun r e => asserted ⟨r, e⟩) deasserted
          cases h.symm.trans same
          exact d

theorem claimListSound_tick (l : List Claim) (h : claimListSound l) :
    claimListSound (l.map fun c => { c with drain := tick c.drain }) := by
  refine ⟨?_, fun c hc => ?_⟩
  · rw [List.pairwise_map]; exact h.1
  · obtain ⟨d, hd, rfl⟩ := List.mem_map.mp hc
    simpa [tick] using h.2 d hd

/-- Time takes no run condition away. -/
theorem runConditions_millisecond (s : State) : (millisecond s).runConditions = s.runConditions := by
  have drawing : (millisecond s).drawing = s.drawing := by
    simp [State.drawing, State.ownClaim, millisecond, Sht.tick, List.find?_map, Option.any_map, Function.comp_def]
  show ((millisecond s).drawing && s.stl.stop == .run && !s.paused && s.pcu.clamp == some .closed) = _
  rw [drawing]
  rfl

theorem idle_keepsSound {wf : Prop} (s : State) : KeepsSound wf s (idle s) := by
  unfold idle
  split
  · exact (Keeps.refl s).sound id
  · have drive : s.cdr.tick.drive = s.cdr.drive ∧ s.cdr.tick.mode = s.cdr.mode ∧ s.cdr.tick.flux = s.cdr.flux := by
      unfold Cdr.tick; split <;> simp
    refine ⟨fun d => ?_, fun _ ⟨node, clock, claims⟩ => ⟨node, clock, claimListSound_tick _ claims⟩, id, id, fun d => ?_, id, rfl⟩
    · obtain ⟨off, runs⟩ := d
      refine ⟨?_, fun running => ?_⟩
      · show s.cdr.tick.drive = .blocked ↔ s.cdr.tick.mode = .off
        rw [drive.1, drive.2.1]; exact off
      · obtain ⟨awake, r⟩ := runs (drive.1.symm.trans running)
        exact ⟨awake, (runConditions_millisecond s).trans r⟩
    · show -16 ≤ s.cdr.tick.flux ∧ s.cdr.tick.flux ≤ 16
      rw [drive.2.2]; exact d

/-- A step keeps the invariants; the claim list's asks that the commands waiting have well-formed operands. -/
theorem step_keeps {s t : State} (h : step s = .next t) :
    (s.driveSound → t.driveSound) ∧ (s.shareSound → t.shareSound) ∧ (s.linkSound → t.linkSound) ∧
      (s.ordersSound → t.ordersSound) ∧ (s.fluxSound → t.fluxSound) ∧ (s.countersSound → t.countersSound) := by
  unfold step at h
  split at h
  · cases h
    have k : KeepsSound True s (idle s) := idle_keepsSound s
    refine ⟨k.drive, fun ⟨waiting, table⟩ => ⟨?_, k.table trivial table⟩, k.link, k.orders, k.flux, k.counters⟩
    unfold State.pendingSound; rw [k.pending]; exact waiting
  · rename_i c rest pending
    have k := exec_keepsSound c _ t h
    refine ⟨k.drive, fun ⟨waiting, table⟩ => ?_, k.link, k.orders, k.flux, k.counters⟩
    unfold State.pendingSound at waiting
    rw [pending] at waiting
    obtain ⟨wf, waiting⟩ := List.forall_mem_cons.mp waiting
    exact ⟨by unfold State.pendingSound; rw [k.pending]; exact waiting, k.table wf table⟩

/-- Settles O6: the drive's invariant is one of those that every command and every millisecond keep. -/
theorem stepKeepsDriveSound : Obligations.StepKeepsDriveSound := fun _ _ sound h =>
  have ⟨keeps, _⟩ := step_keeps h
  keeps sound

/-- Settles O7: likewise, with the operands of the commands waiting. -/
theorem stepKeepsShareSound : Obligations.StepKeepsShareSound := fun _ _ sound h =>
  have ⟨_, keeps, _⟩ := step_keeps h
  keeps sound

/-- Settles O8. -/
theorem stepKeepsLinkSound : Obligations.StepKeepsLinkSound := fun _ _ sound h =>
  have ⟨_, _, keeps, _⟩ := step_keeps h
  keeps sound

/-- Settles O9. -/
theorem stepKeepsOrdersSound : Obligations.StepKeepsOrdersSound := fun _ _ sound h =>
  have ⟨_, _, _, keeps, _⟩ := step_keeps h
  keeps sound

end Sys2Proof.Machine

/-! Steps, the passing of time, resets and the line (O1 to O3, O5, O15, O16, O45). -/

namespace Sys2Proof.Machine

/-! ### An event that can happen -/

/-- What a command does whose event can happen, by the command's arm of exec. -/
theorem exec_taken {c : Instr} {possible : Bool} {effect : State → State} {s : State}
    (arm : exec c s = onEvent possible effect s) (awake : s.inReset = false) (can : possible = true) :
    exec c s = .next (effect s) := by
  rw [arm, can, onEvent_taken effect s awake]

/-- A command whose event cannot happen does nothing. -/
theorem exec_impossible {c : Instr} {possible : Bool} {effect : State → State} {s : State}
    (arm : exec c s = onEvent possible effect s) (cannot : possible = false) : exec c s = .next s := by
  rw [arm, cannot, onEvent_impossible]

/-- Of a command whose event can happen holds what holds of the event's effect. -/
theorem completes_taken {c : Instr} {possible : Bool} {effect : State → State} {s : State} {p : State → Prop}
    (arm : exec c s = onEvent possible effect s) (awake : s.inReset = false) (can : possible = true)
    (holds : p (effect s)) : completes c s p := ⟨_, exec_taken arm awake can, holds⟩

/-! ### Steps -/

/-- Settles O1: it is step's definition on a queue that is not empty. -/
theorem stepRunsFrontCommand : Obligations.StepRunsFrontCommand := by
  intro c rest s waiting
  simp only [step, waiting]

theorem step_empty {s : State} (none_waits : s.pending = []) : step s = .next (idle s) := by
  simp only [step, none_waits]

theorem step_millisecond {s : State} (none_waits : s.pending = []) (none_due : s.expiryWaits = false) :
    step s = .next (millisecond s) := by
  rw [step_empty none_waits, idle, none_due]; rfl

theorem Sht.timers_tick (t : Sht) : t.tick.timers = t.timers.map Machine.tick := by
  simp [Sht.tick, Sht.timers, Function.comp_def]

theorem Cdr.tick_kept (c : Cdr) : c.tick.energy = c.energy ∧ c.tick.tally = c.tally := by
  unfold Cdr.tick; split <;> exact ⟨rfl, rfl⟩

/-- Settles O2: each block's part of a millisecond counts down its own timers and changes nothing else. -/
theorem emptyQueueStepIsAMillisecond : Obligations.EmptyQueueStepIsAMillisecond := by
  intro s none_waits
  refine ⟨fun stands => ?_, fun passes => ⟨_, step_millisecond none_waits passes, ?_⟩⟩
  · rw [step_empty none_waits, idle, if_pos stands]
  · obtain ⟨energy, tally⟩ := s.cdr.tick_kept
    exact ⟨rfl, rfl, rfl, s.sht.timers_tick, rfl, rfl, rfl, rfl, rfl, rfl, rfl, rfl, rfl, rfl, rfl, rfl, rfl, energy, tally,
      fun running => if_pos running, fun still => if_neg still⟩

/-- Settles O3: a millisecond passes on these timers through tickUnless, and each of their expiries asks for no pause. -/
theorem phaseTimersHeldInPause : Obligations.PhaseTimersHeldInPause := by
  intro s
  refine ⟨fun none_waits passes => ⟨_, step_millisecond none_waits passes, rfl, fun paused => ?_, fun runs => ?_⟩,
    fun paused => ?_⟩
  · simp [millisecond, Wsq.tick, Flash.tick, Wsq.phaseTimers, Flash.timers, tickUnless, paused]
  · simp [millisecond, Wsq.tick, Flash.tick, Wsq.phaseTimers, Flash.timers, tickUnless, runs]
  · simp only [List.forall_mem_cons]
    refine ⟨?_, ?_, ?_, ?_, ?_, ?_, ?_, ?_, by simp⟩ <;> exact exec_impossible rfl (by simp [dueUnpaused, paused])

/-! ### Resets -/

/-- Settles O5: the state after reset is a numeral in every field that an invariant reads. -/
theorem resetStateIsSound : Obligations.ResetStateIsSound := by
  obtain ⟨drive, link, orders, flux⟩ := emptied_sound (t := State.reset) rfl rfl rfl rfl rfl rfl rfl rfl
  refine ⟨drive, ⟨nofun, Nat.zero_le _, Nat.zero_le _, .nil, nofun⟩, link, orders, flux, List.length_replicate, ?_⟩
  exact (by decide : ∀ n ∈ List.replicate 17 0, n ≤ 65535)

/-- Settles O15: both resets write the blocks' initial values. -/
theorem resetsPutBlocksInResetState : Obligations.ResetsPutBlocksInResetState := by
  refine fun s => ⟨?_, ⟨_, rfl, rfl, rfl, rfl⟩, ⟨_, rfl, ?_⟩⟩
  · simp only [List.forall_mem_cons]
    refine ⟨⟨_, rfl, ?_⟩, ⟨_, rfl, ?_⟩, nofun⟩ <;>
      exact ⟨rfl, rfl, rfl, rfl, rfl, rfl, rfl, rfl, rfl, rfl, rfl, rfl, rfl, rfl, rfl, rfl, rfl, rfl, rfl, rfl, rfl, rfl, rfl⟩
  · exact ⟨rfl, rfl, rfl, rfl, rfl, rfl, rfl, rfl, rfl, rfl, rfl, rfl, rfl, rfl, rfl, rfl⟩

/-- The level of the first force sample is judged with settings still blank, by the lower bound alone (R42). -/
theorem forcePlausible_unconfigured {s : State} (blank : s.configured = false) (f : Int) :
    forcePlausible s f = decide (-50 ≤ f) := by
  simp [forcePlausible, blank]

/-- Settles O16: releaseReset is written as the state that the statement gives. -/
theorem resetEndEntersLoading : Obligations.ResetEndEntersLoading := by
  intro s straps f back
  refine ⟨fun held => ⟨releaseReset straps f back s, ?_, ?_, rfl, rfl, rfl, rfl, rfl, fun loading => ⟨loading, ?_⟩⟩, ?_, ?_⟩
  · exact congrArg Host.Outcome.next (if_pos held)
  · cases back <;> rfl
  · exact forcePlausible_unconfigured (by simp [State.configured, loading]) _
  · simp only [List.forall_mem_cons]
    refine ⟨⟨_, _, rfl, rfl, ?_⟩, ⟨_, _, rfl, rfl, ?_⟩, nofun⟩ <;> exact ⟨rfl, rfl, rfl, rfl⟩
  · intro awake due
    refine completes_taken (effect := fun s => releaseReset straps f back (hardResetState s)) rfl awake due ?_
    exact ⟨rfl, rfl, rfl, rfl, rfl, rfl, rfl, rfl, rfl, rfl, rfl, rfl, rfl, rfl, rfl, rfl, rfl, by cases back <;> rfl, rfl⟩

/-! ### The line -/

/-- An empty send slot takes the head of the transmit queue. -/
theorem startSending_empty {s : State} (f : TxFrame) (l : List TxFrame) (empty : s.lkc.slot = none)
    (head : s.lkc.queue = f :: l) :
    startSending s =
      { s with
        lkc.slot := some f, lkc.queue := l, lkc.collisionRun := 0, lkc.wait := none, lkc.sending := true,
        lkc.rest := true } := by
  have filled : fillSlot s = { s with lkc.slot := some f, lkc.queue := l, lkc.collisionRun := 0 } := by
    simp [fillSlot, empty, head]
  simp [startSending, filled]

/-- A frame left in the send slot by a collision is sent again. -/
theorem startSending_full {s : State} (f : TxFrame) (full : s.lkc.slot = some f) :
    startSending s = { s with lkc.wait := none, lkc.sending := true, lkc.rest := true } := by
  have filled : fillSlot s = s := by simp [fillSlot, full]
  simp [startSending, filled, full]

/-- Settles O45: the four events change what they say. -/
theorem lineEvents : Obligations.LineEvents := by
  intro s awake
  refine ⟨fun loaded still => ?_, fun f l waits empty head => ?_, fun f waits full => ?_, fun rest quiet still => ?_⟩
  · exact exec_taken (effect := lineTaken) rfl awake (by simp [linkUp, awake, loaded, still])
  · rw [exec_taken (effect := startSending) rfl awake waits, startSending_empty f l empty head]
  · rw [exec_taken (effect := startSending) rfl awake waits, startSending_full f full]
  · exact exec_taken (effect := fun s => { s with lkc.rest := false }) rfl awake (by simp [rest, quiet, still])

end Sys2Proof.Machine

/-! The record store along a command and a step (O10, O12). Two things happen to a held record: nothing, while the share table
admits the own claim and the weld number update reserves another slot; or its release, while orders are handled. -/

namespace Sys2Proof.Machine

/-- How a command may leave the store: the counter not lowered, the number of slots kept, every held record in its slot, VALID_HELD
or VALID. -/
structure HoldsRecords (w v : Wrs) : Prop where
  counter : w.counter ≤ v.counter
  length : v.slots.length = w.slots.length
  held : ∀ (i : Nat) (r : WeldRecord), w.slots[i]? = some (.held r) →
    v.slots[i]? = some (.held r) ∨ v.slots[i]? = some (.valid r)

/-- Slots and counter are as they were. -/
theorem HoldsRecords.of_same {w v : Wrs} (counter : v.counter = w.counter) (slots : v.slots = w.slots) :
    HoldsRecords w v := ⟨Nat.le_of_eq counter.symm, by rw [slots], fun _ _ held => .inl (slots ▸ held)⟩

/-! ### Admission: a slot is reserved -/

/-- Held records stay held. -/
structure Reserves (w v : Wrs) : Prop where
  counter : w.counter ≤ v.counter
  length : v.slots.length = w.slots.length
  held : ∀ (i : Nat) (r : WeldRecord), w.slots[i]? = some (.held r) → v.slots[i]? = some (.held r)

theorem Reserves.holdsRecords {w v : Wrs} (h : Reserves w v) : HoldsRecords w v :=
  ⟨h.counter, h.length, fun i r held => .inl (h.held i r held)⟩

theorem Reserves.of_same {w v : Wrs} (counter : v.counter = w.counter) (slots : v.slots = w.slots) : Reserves w v :=
  ⟨Nat.le_of_eq counter.symm, by rw [slots], fun _ _ held => slots ▸ held⟩

theorem Reserves.trans {w v u : Wrs} (h : Reserves w v) (k : Reserves v u) : Reserves w u :=
  ⟨Nat.le_trans h.counter k.counter, k.length.trans h.length, fun i r held => k.held i r (h.held i r held)⟩

/-- The reservation rule chooses a free slot. -/
theorem reservation_free {w : Wrs} {i : Nat} (chosen : reservation w = some i) :
    (w.slots.getD i .reserved).free = true := by
  simpa using List.find?_some chosen

theorem weldNumberUpdate_reserves (p : WeldPhase) (s : State) : Reserves s.wrs (weldNumberUpdate p s).wrs := by
  refine ⟨Nat.le_succ _, ?_, fun i r held => ?_⟩
  · unfold weldNumberUpdate
    cases reservation s.wrs <;> simp
  · unfold weldNumberUpdate
    cases chosen : reservation s.wrs with
    | none => exact held
    | some j =>
      have other : j ≠ i := by
        rintro rfl
        have free := reservation_free chosen
        rw [List.getD_eq_getElem?_getD, held] at free
        cases free
      exact (List.getElem?_set_ne other).trans held

theorem admitOwn_reserves (s : State) : Reserves s.wrs (admitOwn s).wrs := by
  have update (p : WeldPhase) := weldNumberUpdate_reserves p (admitClaim s)
  have claimed : Reserves s.wrs (admitClaim s).wrs := .of_same (by simp) (by simp)
  have first : Reserves (admitClaim s).wrs (enterFirstPhase (admitClaim s)).wrs := by
    unfold enterFirstPhase
    split
    · exact (update .flash).trans (.of_same (by simp) (by simp))
    · exact (update .preheat).trans (.of_same (by simp) (by simp))
  exact (claimed.trans first).trans (.of_same (by simp [admitOwn]) (by simp [admitOwn]))

theorem evaluateShare_reserves (s : State) : Reserves s.wrs (evaluateShare s).wrs := by
  have admission : Reserves s.wrs (evaluateAdmission s).wrs := by
    unfold evaluateAdmission
    split
    · exact admitOwn_reserves s
    · exact .of_same rfl rfl
  exact admission.trans (.of_same (by simp [evaluateShare]) (by simp [evaluateShare]))

/-- The share table is evaluated in a state whose store is still the one before. -/
theorem evaluateShare_reserves_of {s t : State} (counter : t.wrs.counter = s.wrs.counter) (slots : t.wrs.slots = s.wrs.slots) :
    Reserves s.wrs (evaluateShare t).wrs := (Reserves.of_same counter slots).trans (evaluateShare_reserves t)

theorem settleEnds_reserves (s : State) : Reserves s.wrs (settleEnds s).wrs := by
  unfold settleEnds
  exact evaluateShare_reserves_of rfl rfl

theorem enterClaimWait_reserves (s : State) : Reserves s.wrs (enterClaimWait s).wrs := by
  unfold enterClaimWait
  dsimp only
  (repeat' split)
  · exact .of_same (by simp) (by simp)
  · exact .of_same (by simp) (by simp)
  · exact evaluateShare_reserves_of (by simp) (by simp)

theorem budgetTests_reserves (touchPos : Int) (s : State) : Reserves s.wrs (budgetTests touchPos s).wrs := by
  unfold budgetTests
  (repeat' split)
  · exact .of_same (by simp) (by simp)
  · exact .of_same (by simp) (by simp)
  · exact enterClaimWait_reserves s

theorem completeTouch_reserves (s : State) : Reserves s.wrs (completeTouch s).wrs := by
  have held : Reserves s.wrs (platenHold s).wrs := .of_same (by simp) (by simp)
  refine Reserves.trans ?_ (budgetTests_reserves _ _)
  exact held

theorem receiveShare_reserves {effect : State → State} (s : State) (h : ∀ t : State, Reserves t.wrs (effect t).wrs) :
    Reserves s.wrs (receiveShare effect s).wrs := by
  have freed : Reserves s.wrs (lineFree s).wrs := .of_same (by simp) (by simp)
  unfold receiveShare
  split
  · exact freed.trans (h _)
  · exact freed

theorem shareClaim_reserves (src number demand : Nat) (s : State) : Reserves s.wrs (shareClaim src number demand s).wrs := by
  unfold shareClaim
  (repeat' split)
  · exact .of_same rfl rfl
  · exact .of_same rfl rfl
  · exact .of_same rfl rfl
  · exact evaluateShare_reserves_of (by simp) (by simp)

theorem shareYield_reserves (src number : Nat) (s : State) : Reserves s.wrs (shareYield src number s).wrs := by
  unfold shareYield
  (repeat' split)
  · exact .of_same rfl rfl
  · exact .of_same rfl rfl
  · exact .of_same rfl rfl
  · exact evaluateShare_reserves_of (by simp) (by simp)

theorem shareBeacon_reserves (src : Nat) (b : BeaconBody) (s : State) : Reserves s.wrs (shareBeacon src b s).wrs := by
  unfold shareBeacon
  dsimp only
  (repeat' split)
  · exact .of_same rfl rfl
  · exact .of_same (by simp) (by simp)
  · exact evaluateShare_reserves_of (by simp) (by simp)
  · exact evaluateShare_reserves_of (by simp) (by simp)

/-! ### Orders: held records are released -/

/-- Each slot is as it was, or its held record has been released. -/
structure Releases (w v : Wrs) : Prop where
  counter : v.counter = w.counter
  length : v.slots.length = w.slots.length
  slot : ∀ i : Nat, v.slots[i]? = w.slots[i]? ∨ ∃ r, w.slots[i]? = some (Slot.held r) ∧ v.slots[i]? = some (Slot.valid r)

theorem Releases.holdsRecords {w v : Wrs} (h : Releases w v) : HoldsRecords w v := by
  refine ⟨Nat.le_of_eq h.counter.symm, h.length, fun i r held => ?_⟩
  obtain same | ⟨x, held', valid⟩ := h.slot i
  · exact .inl (same.trans held)
  · cases held.symm.trans held'
    exact .inr valid

theorem Releases.of_same {w v : Wrs} (counter : v.counter = w.counter) (slots : v.slots = w.slots) : Releases w v :=
  ⟨counter, by rw [slots], fun _ => .inl (by rw [slots])⟩

theorem Releases.trans {w v u : Wrs} (h : Releases w v) (k : Releases v u) : Releases w u := by
  refine ⟨k.counter.trans h.counter, k.length.trans h.length, fun i => ?_⟩
  obtain same | ⟨r, held, valid⟩ := k.slot i
  · obtain same' | ⟨r, held, valid⟩ := h.slot i
    · exact .inl (same.trans same')
    · exact .inr ⟨r, held, same.trans valid⟩
  · obtain same' | ⟨x, _, valid'⟩ := h.slot i
    · exact .inr ⟨r, same'.symm.trans held, valid⟩
    · cases held.symm.trans valid'

theorem releaseHeld_releases (n : Nat) (s : State) : Releases s.wrs (releaseHeld n s).wrs := by
  refine ⟨rfl, by simp [releaseHeld], fun i => ?_⟩
  simp only [releaseHeld, List.getElem?_map]
  match s.wrs.slots[i]? with
  | none | some .empty | some .reserved | some (.valid _) => exact .inl rfl
  | some (.held r) =>
    by_cases asked : r.weldNo = n
    · exact .inr ⟨r, rfl, by simp [releaseSlot, asked]⟩
    · exact .inl (by simp [releaseSlot, asked])

theorem handleRelease_releases (src tag n : Nat) (s : State) : Releases s.wrs (handleRelease src tag n s).wrs := by
  unfold handleRelease
  split
  · exact .of_same (by simp) (by simp)
  · exact (releaseHeld_releases n s).trans (.of_same (by simp) (by simp))
  · exact .of_same (by simp) (by simp)

/-- RELEASE_HOLD is the only order that writes a slot. -/
theorem dispatchOrder_releases (src : Nat) (b : OrderBody) (s : State) : Releases s.wrs (dispatchOrder src b s).wrs := by
  cases b with
  | releaseHold tag n => exact handleRelease_releases src tag n s
  | _ => exact .of_same (by simp [dispatchOrder]) (by simp [dispatchOrder])

theorem takeOrder_releases (d : Delivered) (s : State) : Releases s.wrs (takeOrder d s).wrs := by
  have handled : Releases s.wrs (handleOrder d s).wrs := by
    unfold handleOrder
    (repeat' split)
    · exact .of_same (by simp) (by simp)
    · exact .of_same (by simp) (by simp)
    · exact .of_same (by simp) (by simp)
    · have idle : Releases s.wrs (restartIdle d.body s).wrs := .of_same (by simp) (by simp)
      exact idle.trans (dispatchOrder_releases _ _ _)
  unfold takeOrder
  (repeat' split)
  · exact .of_same (by simp) (by simp)
  · exact .of_same (by simp) (by simp)
  · exact handled

theorem deliverOrder_releases (d : Delivered) (s : State) : Releases s.wrs (deliverOrder d s).wrs := by
  unfold deliverOrder
  (repeat' split)
  · exact takeOrder_releases d s
  · exact .of_same rfl rfl
  · exact .of_same rfl rfl

theorem deliverEach_releases (l : List Delivered) (s : State) :
    Releases s.wrs (l.foldl (fun t d => deliverOrder d t) s).wrs := by
  induction l generalizing s with
  | nil => exact .of_same rfl rfl
  | cons d l ih => exact (deliverOrder_releases d s).trans (ih _)

theorem takeHeldOrders_releases (s : State) : Releases s.wrs (takeHeldOrders s).wrs := by
  unfold takeHeldOrders
  split
  · exact deliverEach_releases s.orq.heldList { s with orq.heldList := [] }
  · exact .of_same rfl rfl

theorem receiveOrder_releases (src : Nat) (b : OrderBody) (s : State) : Releases s.wrs (receiveOrder src b s).wrs := by
  have freed : Releases s.wrs (lineFree s).wrs := .of_same (by simp) (by simp)
  unfold receiveOrder
  split
  · exact .of_same rfl rfl
  · exact freed.trans ((deliverOrder_releases _ _).trans (takeHeldOrders_releases _))

theorem handleArrivals_releases (l : List Delivered) (s : State) : Releases s.wrs (handleArrivals l s).wrs := by
  induction l generalizing s with
  | nil => exact .of_same rfl rfl
  | cons d l ih =>
    unfold handleArrivals
    split
    · exact (takeOrder_releases d s).trans (ih _)
    · exact .of_same rfl rfl

theorem workArrivals_releases (s : State) : Releases s.wrs (workArrivals s).wrs :=
  (handleArrivals_releases s.orq.arrivals { s with orq.arrivals := [] }).trans (takeHeldOrders_releases _)

theorem wakeEnds_releases (back : Bool) (s : State) : Releases s.wrs (wakeEnds back s).wrs := by
  unfold wakeEnds
  dsimp only
  split
  · exact Releases.trans (.of_same (by simp) (by simp)) (takeHeldOrders_releases _)
  · exact .of_same rfl rfl

/-! ### A record is written -/

/-- The record goes into the RESERVED slot; with none RESERVED it goes nowhere, for the store has 48 slots. -/
theorem completeWrite_holdsRecords (r : WeldRecord) (s : State) (sound : s.storeSound) :
    HoldsRecords s.wrs (completeWrite r s).wrs := by
  refine ⟨Nat.le_refl _, by simp [completeWrite], fun i x held => .inl ?_⟩
  have inRange : i < slotCount := by
    obtain ⟨inRange, _⟩ := List.getElem?_eq_some_iff.mp held
    rwa [← sound]
  have other : (reservedSlot s.wrs).getD slotCount ≠ i := by
    cases found : reservedSlot s.wrs with
    | none => exact Nat.ne_of_gt inRange
    | some j =>
      rintro rfl
      obtain ⟨_, reserved, _⟩ := List.findIdx?_eq_some_iff_getElem.mp found
      obtain ⟨_, at_j⟩ := List.getElem?_eq_some_iff.mp held
      rw [show s.wrs.slots[j] = .held x from at_j] at reserved
      cases reserved
  exact (List.getElem?_set_ne other).trans held

theorem writeEnds_holdsRecords (s : State) (sound : s.storeSound) : HoldsRecords s.wrs (writeEnds s).wrs := by
  unfold writeEnds
  split
  · exact .of_same rfl rfl
  · rename_i r _
    have written := completeWrite_holdsRecords r s sound
    dsimp only
    split
    · exact ⟨by simp, by simpa using written.length, by simpa using written.held⟩
    · exact written

/-! ### Commands and steps -/

theorem holdsRecords_onEvent {possible : Bool} {effect : State → State} {s t : State}
    (h : onEvent possible effect s = .next t) (each : HoldsRecords s.wrs (effect s).wrs) : HoldsRecords s.wrs t.wrs := by
  obtain rfl | ⟨_, _, rfl⟩ := onEvent_cases h
  · exact .of_same rfl rfl
  · exact each

theorem holdsRecords_received {src : Nat} {b : OrderBody} {s t : State} (h : (.next (receiveOrder src b s) : Out) = .next t) :
    HoldsRecords s.wrs t.wrs := by
  cases h
  exact (receiveOrder_releases src b s).holdsRecords

/-- Most commands write neither the slots nor the counter. -/
theorem exec_holdsRecords (c : Instr) (s t : State) (sound : s.storeSound) (h : exec c s = .next t) :
    HoldsRecords s.wrs t.wrs := by
  cases c with
  | powerOn | hardReset => cases h; exact .of_same rfl rfl
  | resetEnd straps f back => cases h; split <;> exact .of_same (by simp) (by simp)
  | restartReset straps f back =>
    unfold exec execRestartReset at h
    exact holdsRecords_onEvent h (.of_same rfl rfl)
  | eStopAsserted back => cases h; exact .of_same (by simp) (by simp)
  | eStopDeasserted => cases h; exact .of_same (by simp) (by simp)
  | orderClamp | orderWeld | orderUnclamp | abort | clear | status | adjust | readRecord | releaseHold | rest | restart
    | badOrder => exact holdsRecords_received h
  | wakeTimeEnd back => exact holdsRecords_onEvent h (wakeEnds_releases back s).holdsRecords
  | arrivalListHandling => exact holdsRecords_onEvent h (workArrivals_releases s).holdsRecords
  | beaconReceived src b =>
    exact holdsRecords_onEvent h (receiveShare_reserves s (shareBeacon_reserves src b)).holdsRecords
  | claimReceived src number demand =>
    exact holdsRecords_onEvent h (receiveShare_reserves s (shareClaim_reserves src number demand)).holdsRecords
  | yieldReceived src number =>
    exact holdsRecords_onEvent h (receiveShare_reserves s (shareYield_reserves src number)).holdsRecords
  | settleWindowExpiry => exact holdsRecords_onEvent h (settleEnds_reserves s).holdsRecords
  | lossTimerExpiry peer => exact holdsRecords_onEvent h (evaluateShare_reserves_of (by simp) (by simp)).holdsRecords
  | drainExpiry station => exact holdsRecords_onEvent h (evaluateShare_reserves_of (by simp) (by simp)).holdsRecords
  | touchContact => exact holdsRecords_onEvent h (completeTouch_reserves s).holdsRecords
  | recordWriteComplete => exact holdsRecords_onEvent h (writeEnds_holdsRecords s sound)
  | pulseTrip | offTimeEnd | conductionWindowEnd => exact holdsRecords_onEvent h (.of_same rfl rfl)
  | linkRestCleared | plausibilityRearm => unfold exec at h; exact holdsRecords_onEvent h (.of_same rfl rfl)
  | _ => exact holdsRecords_onEvent h (.of_same (by simp) (by simp))

/-- Settles O12: what every command does to the store, the writing of a record with its 48 slots. -/
theorem heldRecordsStay : Obligations.HeldRecordsStay := by
  intro c s t sound h
  obtain ⟨counter, _, held⟩ := exec_holdsRecords c s t sound h
  exact ⟨counter, held⟩

theorem step_keepsStoreSound {s t : State} (h : step s = .next t) (sound : s.storeSound) : t.storeSound := by
  unfold step at h
  split at h
  · cases h
    unfold idle
    split <;> exact sound
  · rename_i c rest _
    have kept := exec_holdsRecords c { s with pending := rest } t sound h
    exact kept.length.trans sound

/-- Settles O10. -/
theorem stepKeepsBounds : Obligations.StepKeepsBounds := by
  intro s t h
  obtain ⟨_, _, _, _, flux, counters⟩ := step_keeps h
  exact ⟨flux, step_keepsStoreSound h, counters⟩

end Sys2Proof.Machine

/-! Settings, station number and the ISOLATED flag (O13). -/

namespace Sys2Proof.Machine

/-- What stays until a reset, but for the settings that the read in LOADING brings. -/
structure Settled (s t : State) : Prop where
  node : t.node = s.node
  settings : t.settings = s.settings
  isolated : s.wsq.isolated = true → t.wsq.isolated = true

theorem Settled.of_same {s t : State} (node : t.node = s.node) (settings : t.settings = s.settings)
    (isolated : t.wsq.isolated = s.wsq.isolated) : Settled s t := ⟨node, settings, fun set => isolated.trans set⟩

theorem settled_onEvent {possible : Bool} {effect : State → State} {s t : State}
    (h : onEvent possible effect s = .next t) (each : Settled s (effect s)) : Settled s t := by
  obtain rfl | ⟨_, _, rfl⟩ := onEvent_cases h
  · exact .of_same rfl rfl rfl
  · exact each

/-- A share frame under the station's own number sets the flag; no other share frame touches it. -/
theorem settled_receiveShare {effect : State → State} (s : State) (h : ∀ t : State, Settled t (effect t)) :
    Settled s (receiveShare effect s) := by
  unfold receiveShare
  split
  · obtain ⟨node, settings, isolated⟩ := h (lineFree s)
    exact ⟨by simpa using node, by simpa using settings, by simpa using isolated⟩
  · exact .of_same (by simp) (by simp) (by simp)

theorem shareBeacon_settled (src : Nat) (b : BeaconBody) (s : State) : Settled s (shareBeacon src b s) := by
  refine ⟨by simp, by simp, fun set => ?_⟩
  unfold shareBeacon
  dsimp only
  (repeat' split) <;> simp [set]

theorem shareClaim_settled (src number demand : Nat) (s : State) : Settled s (shareClaim src number demand s) := by
  refine ⟨by simp, by simp, fun set => ?_⟩
  unfold shareClaim
  (repeat' split) <;> simp [set]

theorem shareYield_settled (src number : Nat) (s : State) : Settled s (shareYield src number s) := by
  refine ⟨by simp, by simp, fun set => ?_⟩
  unfold shareYield
  (repeat' split) <;> simp [set]

theorem exec_settled (c : Instr) (s t : State) (ordinary : isReset c = false)
    (other : ∀ image, c ≠ .settingsReadComplete image) (h : exec c s = .next t) : Settled s t := by
  cases c with
  | powerOn | hardReset | resetEnd | restartReset => cases ordinary
  | settingsReadComplete image => exact absurd rfl (other image)
  | eStopAsserted back => cases h; exact .of_same (by simp) (by simp) (by simp)
  | eStopDeasserted => cases h; exact .of_same (by simp) (by simp) (by simp)
  | orderClamp | orderWeld | orderUnclamp | abort | clear | status | adjust | readRecord | releaseHold | rest | restart
    | badOrder => cases h; exact .of_same (by simp) (by simp) (by simp)
  | beaconReceived src b => exact settled_onEvent h (settled_receiveShare s (shareBeacon_settled src b))
  | claimReceived src number demand => exact settled_onEvent h (settled_receiveShare s (shareClaim_settled src number demand))
  | yieldReceived src number => exact settled_onEvent h (settled_receiveShare s (shareYield_settled src number))
  | pulseTrip | offTimeEnd | conductionWindowEnd => exact settled_onEvent h (.of_same rfl rfl rfl)
  | linkRestCleared | plausibilityRearm => unfold exec at h; exact settled_onEvent h (.of_same rfl rfl rfl)
  | _ => exact settled_onEvent h (.of_same (by simp) (by simp) (by simp))

theorem acceptImage_wsq (image : List Byte) (s : State) :
    (acceptImage image s).wsq =
      { s.wsq with
        loadTimer := none
        station := .listening
        listenTimer :=
          some ((sharedOf image).lossCount * (sharedOf image).beaconMs + (sharedOf image).settleMs) } := by
  simp only [acceptImage, queueBeacon_frame, settleMarker_frame]
  rfl

theorem settingsRead_isolated (image : Option (List Byte)) (s : State) :
    (settingsRead image s).wsq.isolated = s.wsq.isolated := by
  unfold settingsRead
  (repeat' split)
  · simp
  · simp [acceptImage_wsq]
  · simp

/-- Settles O13: the settings read can happen in LOADING only. -/
theorem settingsStayUntilReset : Obligations.SettingsStayUntilReset := by
  intro c s t ordinary h
  by_cases read : ∃ image, c = .settingsReadComplete image
  · obtain ⟨image, rfl⟩ := read
    obtain rfl | ⟨_, possible, rfl⟩ := onEvent_cases h
    · exact ⟨rfl, id, fun _ => rfl⟩
    · have loading : s.wsq.station = .loading := by simpa using possible
      refine ⟨by simp, fun set => (settingsRead_isolated image s).trans set, fun elsewhere => ?_⟩
      obtain not_loading | no_read := elsewhere
      · exact absurd loading not_loading
      · exact absurd rfl (no_read image)
  · obtain ⟨node, settings, isolated⟩ := exec_settled c s t ordinary (fun image e => read ⟨image, e⟩) h
    exact ⟨node, isolated, fun _ => settings⟩

end Sys2Proof.Machine

/-! Orders that are handled at once (O20 to O22, O28, O29, O31): the state an order is handled in, its answer, and what the
order adds to it. -/

namespace Sys2Proof.Machine

/-! ### The state an order is handled in, and its answer -/

theorem exec_bodyCommand (src : Nat) (b : OrderBody) (s : State) :
    exec (bodyCommand src b) s = .next (receiveOrder src b s) := by
  cases b with
  | queued tag kind => cases kind <;> rfl
  | _ => rfl

/-- The line is free, and a well-formed immediate order has restarted the idle timer (R11, R150). -/
def State.forOrder (wait : Option Nat) (idle : Timer) (s : State) : State :=
  { s with lkc.wait := wait, lkc.lineBusy := false, wsq.idleTimer := idle }

theorem restartIdle_queued (tag : Nat) (kind : QueuedKind) (s : State) : restartIdle (.queued tag kind) s = s := by
  simp [restartIdle, OrderBody.isQueued]

theorem exec_order_now {src : Nat} {b : OrderBody} {s : State} (now : takesOrdersNow s) (wf : b.wellFormed = true) :
    ∃ w i, exec (bodyCommand src b) s = .next (dispatchOrder src b (s.forOrder w i)) := by
  have ⟨_, _, _, _, _, noneHeld, _⟩ := now
  obtain ⟨w, i, e⟩ := restartIdle_lineFree b s
  refine ⟨w, i, ?_⟩
  rw [exec_bodyCommand, receiveOrder_now src b s now wf (by simpa using noneHeld), e]
  rfl

/-- A queued order does not restart the idle timer on arrival (R11). -/
theorem exec_queued_now {src tag : Nat} {kind : QueuedKind} {s : State} (now : takesOrdersNow s) :
    ∃ w, exec (queuedCommand src tag kind) s = .next (handleQueued src tag kind (s.forOrder w s.wsq.idleTimer)) := by
  have ⟨_, _, _, _, _, noneHeld, _⟩ := now
  obtain ⟨w, e⟩ := lineFree_eq s
  refine ⟨w, (exec_bodyCommand src (.queued tag kind) s).trans ?_⟩
  rw [receiveOrder_now src _ s now rfl (by simpa using noneHeld), restartIdle_queued, e]
  rfl

/-- A frame that means nothing to its block when it is placed changes the lists of LKC and the wait alone. -/
theorem sendAnswer_eq (dest code tag result : Nat) (reason : Reason) (data : List Byte) (p : Purpose) (s : State)
    (plain : p = .answer ∨ p = .restartAnswer) :
    ∃ w q l, sendAnswer dest code tag result reason data p s = { s with lkc.wait := w, lkc.queue := q, lkc.waiters := l } ∧
      q ++ l = outgoing s ++ [answerFrame dest code tag result reason data p] :=
  sendOther_outgoing (answerFrame dest code tag result reason data p) s (plain.imp_right .inr)

/-- An order that is answered, and does nothing else. -/
theorem answered_now {src code tag result : Nat} {reason : Reason} {data : List Byte} {c : Instr} {s u : State} {w : Option Nat}
    {i : Timer} (run : exec c s = .next u) (answers : u = sendAnswer src code tag result reason data .answer (s.forOrder w i)) :
    completes c s fun t =>
      outgoing t = outgoing s ++ [answerFrame src code tag result reason data .answer] ∧ onlyAnswered s t := by
  obtain ⟨w', q, l, e, joined⟩ := sendAnswer_eq src code tag result reason data .answer (s.forOrder w i) (.inl rfl)
  refine ⟨u, run, ?_⟩
  rw [answers, e]
  exact ⟨joined, by simp [onlyAnswered, sameBase, sameLink, sameHead, State.forOrder]⟩

/-! ### Queued orders (R162) -/

theorem handleQueued_refused {src tag : Nat} {kind : QueuedKind} {s : State} {reason : Reason}
    (refused : queuedRefusal tag kind s = some reason) :
    handleQueued src tag kind s = refuse src kind.code tag reason s := by
  simp only [handleQueued, refused]

theorem handleQueued_accepted {src tag : Nat} {kind : QueuedKind} {s : State} (fits : queuedRefusal tag kind s = none) :
    handleQueued src tag kind s =
      accept src kind.code tag { s with orq.queue := s.orq.queue ++ [⟨src, tag, kind, .waiting⟩] } := by
  simp only [handleQueued, fits]

/-- The checks read the station, the queue and the settings alone. -/
theorem queuedRefusal_forOrder (tag : Nat) (kind : QueuedKind) (w : Option Nat) (i : Timer) (s : State) :
    queuedRefusal tag kind (s.forOrder w i) = queuedRefusal tag kind s := by
  cases kind <;> rfl

theorem queuedRefusal_none_of_checks {tag : Nat} {kind : QueuedKind} {s : State} (configured : s.configured = true)
    (heard : s.wsq.station ≠ .listening) (room : s.orq.queue.length < 4) (unused : ∀ o ∈ s.orq.queue, o.tag ≠ tag)
    (schedule : ∀ n, kind.sched = some n → n ≤ 7)
    (weld : ∀ n k neutral, kind = .weld n k neutral →
      (s.schedule n).demandKva ≤ s.shr.capacityKva ∧ -10 ≤ neutral ∧ neutral ≤ 50) :
    queuedRefusal tag kind s = none := by
  have loaded : s.wsq.station ≠ .unconfigured := by intro e; simp [State.configured, e] at configured
  have tags : s.orq.queue.any (·.tag == tag) = false := by simpa using unused
  have fits : demandExceeds s kind = false ∧ neutralOut kind = false := by
    cases kind with
    | weld n k neutral =>
      obtain ⟨demand, low, high⟩ := weld n k neutral rfl
      simp [demandExceeds, neutralOut, demand, low, high]
    | clamp n | unclamp => exact ⟨rfl, rfl⟩
  have number : kind.sched.any (7 < ·) = false := by
    cases known : kind.sched with
    | none => rfl
    | some n => simpa using schedule n known
  simp [queuedRefusal, loaded, heard, (Nat.not_le.mpr room), tags, number, fits]

/-- Settles O20: the queue gains the order behind the last, and the answer joins what LKC is to send. -/
theorem queuedOrderAccepted : Obligations.QueuedOrderAccepted := by
  intro src tag kind s now heard room unused schedule weld
  have ⟨_, configured, _⟩ := now
  obtain ⟨w, run⟩ := exec_queued_now (src := src) (tag := tag) (kind := kind) now
  rw [handleQueued_accepted (by rw [queuedRefusal_forOrder]; exact queuedRefusal_none_of_checks configured heard room unused schedule weld)] at run
  obtain ⟨w', q, l, e, joined⟩ := sendAnswer_eq src kind.code tag 0 .none [] .answer
    { s.forOrder w s.wsq.idleTimer with orq.queue := s.orq.queue ++ [⟨src, tag, kind, .waiting⟩] } (.inl rfl)
  refine ⟨_, run.trans (congrArg _ e), rfl, joined, ?_⟩
  simp [sameBase, sameLink, sameHead, State.forOrder]

/-- The first check that fails, as the statement gives the checks. -/
theorem queuedRefusal_eq (tag : Nat) (kind : QueuedKind) (s : State) (configured : s.configured = true) :
    queuedRefusal tag kind s =
      if s.wsq.station = .listening then some .wrongState
      else if 4 ≤ s.orq.queue.length then some .queueFull
      else if ∃ o ∈ s.orq.queue, o.tag = tag then some .tagBusy
      else if ∃ n, kind.sched = some n ∧ 7 < n then some .badSchedule
      else
        match kind with
        | .weld n _ neutral =>
          if s.shr.capacityKva < (s.schedule n).demandKva then some .demandExceeds
          else if neutral < -10 ∨ 50 < neutral then some Reason.outOfRange else none
        | _ => none := by
  have loaded : s.wsq.station ≠ .unconfigured := by intro e; simp [State.configured, e] at configured
  have number : kind.sched.any (7 < ·) = true ↔ ∃ n, kind.sched = some n ∧ 7 < n := by
    simp [Option.any_eq_true]
  simp only [queuedRefusal, if_neg loaded, number, List.any_eq_true, beq_iff_eq]
  cases kind <;> simp [demandExceeds, neutralOut]

/-- Settles O21: its chain of checks is queuedRefusal's, and a refusal does nothing but answer. -/
theorem queuedOrderRefused : Obligations.QueuedOrderRefused := by
  intro src tag kind s reason now refused
  have ⟨_, configured, _⟩ := now
  obtain ⟨w, run⟩ := exec_queued_now (src := src) (tag := tag) (kind := kind) now
  have same := queuedRefusal_forOrder tag kind w s.wsq.idleTimer s
  rw [queuedRefusal_eq tag kind s configured] at same
  exact answered_now run (handleQueued_refused (same.trans refused))

/-! ### ADJUST (R20) -/

theorem within_iff (bound : Nat) (x : Int) : within bound x = true ↔ x.natAbs ≤ bound := by
  simp only [within, Bool.and_eq_true, decide_eq_true_eq]
  omega

theorem adjustOk_iff (trip speed force : Int) (s : State) :
    adjustOk trip speed force s = true ↔
      trip.natAbs ≤ 10 ∧ speed.natAbs ≤ 20 ∧ force.natAbs ≤ 10 ∧
        (s.wsq.phase ≠ none →
          trip.natAbs ≤ s.sched.adjTripPct ∧ speed.natAbs ≤ s.sched.adjSpeedPct ∧ force.natAbs ≤ s.sched.adjForcePct) := by
  have idle : s.welding = true ↔ s.wsq.phase ≠ none := by simp [State.welding, Option.isSome_iff_ne_none]
  rw [← idle]
  cases welding : s.welding <;> simp [adjustOk, within_iff, and_assoc, welding]

/-- Settles O28. -/
theorem adjustReplacesPendingOffsets : Obligations.AdjustReplacesPendingOffsets := by
  intro src tag trip speed force s now fits
  obtain ⟨w, i, run⟩ := exec_order_now (src := src) (b := .adjust tag trip speed force) now rfl
  refine ⟨fun ok => ?_, fun bad => ?_⟩
  · have handled : adjustOk trip speed force (s.forOrder w i) = true := (adjustOk_iff ..).mpr ok
    obtain ⟨w', q, l, e, joined⟩ := sendAnswer_eq src 19 tag 0 .none [] .answer
      { s.forOrder w i with
        wsq.pendingSet := { s.wsq.pendingSet with trip := trip, speed := speed, force := force }
        wsq.switchPending := true } (.inl rfl)
    refine ⟨_, run.trans (congrArg _ ((if_pos handled).trans e)), rfl, joined, ?_⟩
    simp [sameBase, sameLink, sameHead, State.forOrder]
  · exact answered_now run (if_neg fun handled => bad ((adjustOk_iff ..).mp handled))

/-! ### READ_RECORD (R175) -/

/-- A transfer that goes on to its next stage stays the transfer of its record. -/
theorem advanceRead_map {α : Type} (f : ReadTransfer → α) (frm into : ReadStage)
    (still : ∀ r : ReadTransfer, f { r with stage := into } = f r) (l : List ReadTransfer) :
    (advanceRead frm into l).map f = l.map f := by
  induction l with
  | nil => rfl
  | cons r l ih =>
    unfold advanceRead
    split
    · simp [still]
    · simp [ih]

/-- Settles O29: placing the answer moves a transfer on to its next stage, and nothing else of the store. -/
theorem readRecordTakesASnapshot : Obligations.ReadRecordTakesASnapshot := by
  intro src tag n s now
  obtain ⟨w, i, run⟩ := exec_order_now (src := src) (b := .readRecord tag n) now rfl
  refine ⟨fun r held found => ?_, fun missing => ?_⟩
  · have handled : handleRead src tag n (s.forOrder w i) = sendAnswer src 20 tag resultAccepted .none [] .readAnswer
        { s.forOrder w i with
          wrs.reads := s.wrs.reads ++ [⟨s.wrs.nextRead, r, held, tag, src, .answering⟩]
          wrs.nextRead := s.wrs.nextRead + 1 } := by
      simp only [handleRead, show lookup (s.forOrder w i).wrs n = some (r, held) from found]
      rfl
    refine ⟨_, run.trans (congrArg _ handled), outgoing_sendOther _ _, ?_⟩
    obtain ⟨w', e⟩ := sendOther_eq (answerFrame src 20 tag 0 .none [] .readAnswer)
        { s.forOrder w i with
          wrs.reads := s.wrs.reads ++ [⟨s.wrs.nextRead, r, held, tag, src, .answering⟩]
          wrs.nextRead := s.wrs.nextRead + 1 }
    simp only [sendAnswer]
    erw [e]
    split
    · simp [placed, answerFrame, advanceRead_map, sameBase, sameLink, sameHead, State.forOrder]
    · simp [sameBase, sameLink, sameHead, State.forOrder]
  · refine answered_now (w := w) (i := i) run ?_
    show handleRead src tag n (s.forOrder w i) = _
    simp only [handleRead, show lookup (s.forOrder w i).wrs n = none from missing]
    rfl

/-! ### REST and RESTART (R166, R167) -/

/-- Entering DORMANT: what of the station it writes (R12). -/
theorem enterDormant_written (s : State) :
    (enterDormant s).wsq.station = .dormant ∧ (enterDormant s).wsq.idleTimer = none ∧ (enterDormant s).pcu.powered = false ∧
      (enterDormant s).pcu.clampValve = .unpowered ∧ (enterDormant s).pcu.mode = .hold ∧
      (enterDormant s).cdr.drive = .blocked ∧ (enterDormant s).cdr.mode = .off ∧
      (enterDormant s).tru = { s.tru with valve := .return } ∧ (enterDormant s).stl.pause = .normal := by
  have pcu (u : State) : (setStation .dormant u).pcu = u.pcu := setStation_pcu _ _ (.inr (by decide))
  unfold enterDormant
  simp only [setStation_station, setStation_idleTimer, pcu]
  simp [detectorReset, stopShoes]

/-- Settles O31. -/
theorem restAndRestart : Obligations.RestAndRestart := by
  intro src tag s now
  obtain ⟨w, i, rest⟩ := exec_order_now (src := src) (b := .rest tag) now rfl
  obtain ⟨v, j, restart⟩ := exec_order_now (src := src) (b := .restart tag) now rfl
  have accepted : restartAccepted s = true ↔ (s.wsq.station = .idle ∨ s.wsq.station = .clamped) ∧ s.orq.queue = [] := by
    simp [restartAccepted]
  refine ⟨fun ok => ?_, fun bad => ?_, fun ok => ?_, fun bad => ?_⟩
  · obtain ⟨w', q, l, e, joined⟩ := sendAnswer_eq src 22 tag 0 .none [] .answer (s.forOrder w i) (.inl rfl)
    have handled : handleRest src tag (s.forOrder w i) =
        enterDormant { s.forOrder w i with lkc.wait := w', lkc.queue := q, lkc.waiters := l } := by
      rw [← e]; exact if_pos ok
    refine ⟨_, rest.trans (congrArg _ handled), ?_⟩
    obtain ⟨station, timer, powered, valve, mode, drive, off, tru, pause⟩ :=
      enterDormant_written { s.forOrder w i with lkc.wait := w', lkc.queue := q, lkc.waiters := l }
    refine ⟨by simp only [outgoing, enterDormant_frame]; exact joined, station, timer, powered, valve, mode, ?_, drive, off, tru, pause, ?_⟩
    · simp [State.forOrder]
    · simp [sameBase, sameLink, State.forOrder]
  · exact answered_now rest (if_neg bad)
  · have handled : restartAccepted (s.forOrder v j) = true := accepted.mpr ok
    obtain ⟨w', q, l, e, joined⟩ := sendAnswer_eq src 23 tag 0 .none [] .restartAnswer
      { s.forOrder v j with orq.restartPending := true } (.inr rfl)
    refine ⟨_, restart.trans (congrArg _ ((if_pos handled).trans e)), joined, rfl, ?_⟩
    simp [sameBase, sameLink, sameHead, State.forOrder]
  · exact answered_now restart (if_neg fun handled => bad (accepted.mp handled))

end Sys2Proof.Machine

/-! Orders refused before they are dispatched, held for a wake, or put in the arrival list (O22, O23). -/

namespace Sys2Proof.Machine

/-! ### Delivery -/

theorem takeHeldOrders_still {s : State} (h : s.wsq.station = .idle → s.orq.heldList = []) : takeHeldOrders s = s := by
  by_cases idle : s.wsq.station = .idle
  · exact takeHeldOrders_nil s (h idle)
  · exact if_neg idle

theorem wakes_iff (b : OrderBody) : wakes b = true ↔ b.codeTag.1 ≠ 18 ∧ b ≠ .malformed [] := by
  simp [wakes]

theorem toHold_iff (s : State) (b : OrderBody) :
    toHold s b = true ↔
      (s.wsq.station = .dormant ∨ s.wsq.station = .waking) ∧ b.codeTag.1 ≠ 18 ∧ b ≠ .malformed [] := by
  simp [toHold, wakes]

/-- An order reaches ORQ with the line free (R150). -/
theorem receiveOrder_eq {src : Nat} {b : OrderBody} {s : State} (awake : s.inReset = false)
    (loaded : s.wsq.station ≠ .loading) :
    ∃ w, receiveOrder src b s = takeHeldOrders (deliverOrder ⟨src, b⟩ (s.forOrder w s.wsq.idleTimer)) := by
  obtain ⟨w, e⟩ := lineFree_eq s
  refine ⟨w, ?_⟩
  rw [receiveOrder, if_neg (by simp [awake, loaded]), e]
  rfl

section
variable {src : Nat} {b : OrderBody} {s : State} {w : Option Nat} {i : Timer}

theorem toHold_forOrder : toHold (s.forOrder w i) b = toHold s b := rfl

/-- No answer waits: the order is taken. -/
theorem deliverOrder_taken (free : noOutgoing s = true) :
    deliverOrder ⟨src, b⟩ (s.forOrder w i) = takeOrder ⟨src, b⟩ (s.forOrder w i) :=
  if_pos (by rw [show noOutgoing (s.forOrder w i) = noOutgoing s from rfl, free, Bool.or_true])

/-- The order is for the held list, which has room. -/
theorem deliverOrder_held (hold : toHold s b = true) (room : s.orq.heldList.length < 4) :
    deliverOrder ⟨src, b⟩ (s.forOrder w i) = holdOrder ⟨src, b⟩ (s.forOrder w i) := by
  have now : holdsNow ⟨src, b⟩ (s.forOrder w i) = true := by
    simp only [holdsNow, toHold_forOrder, hold, Bool.true_and, decide_eq_true_eq]
    exact room
  have taken : deliverOrder ⟨src, b⟩ (s.forOrder w i) = takeOrder ⟨src, b⟩ (s.forOrder w i) :=
    if_pos (by rw [now, Bool.true_or])
  exact taken.trans ((if_pos hold).trans (if_pos room))

/-- The order is for the held list, which is full. -/
theorem takeOrder_full (hold : toHold s b = true) (full : 4 ≤ s.orq.heldList.length) :
    takeOrder ⟨src, b⟩ (s.forOrder w i) = refuseBody ⟨src, b⟩ .queueFull (wakeUp (s.forOrder w i)) :=
  (if_pos hold).trans (if_neg (Nat.not_lt.mpr full))

theorem takeOrder_awake (awake : toHold s b = false) :
    takeOrder ⟨src, b⟩ (s.forOrder w i) = handleOrder ⟨src, b⟩ (s.forOrder w i) :=
  if_neg (by rw [toHold_forOrder, awake]; decide)

end

/-! ### Refusals that echo code and tag -/

/-- A body without a tag byte is answered with a free value for its tag. -/
theorem refuseBody_eq (d : Delivered) (reason : Reason) (s : State) :
    ∃ tag free, refuseBody d reason s = refuse d.src d.body.codeTag.1 tag reason { s with free := free } ∧
      ∀ n, d.body.codeTag.2 = some n → tag = n := by
  unfold refuseBody
  obtain ⟨code, tag⟩ := d.body.codeTag
  cases tag with
  | some tag => exact ⟨tag, s.free, rfl, fun n h => Option.some.inj h⟩
  | none => exact ⟨_, _, rfl, nofun⟩

/-- An order that is refused for its code and tag, from a state that differs from `s` in what `u` shows. -/
theorem refuseBody_sent (d : Delivered) (reason : Reason) (u : State) :
    ∃ f w q l, refuseBody d reason u = { u with free := f, lkc.wait := w, lkc.queue := q, lkc.waiters := l } ∧
      ∃ tag, q ++ l = outgoing u ++ [answerFrame d.src d.body.codeTag.1 tag 1 reason [] .answer] ∧
        ∀ n, d.body.codeTag.2 = some n → tag = n := by
  obtain ⟨tag, f, e, echoes⟩ := refuseBody_eq d reason u
  obtain ⟨w, q, l, sent, joined⟩ :=
    sendAnswer_eq d.src d.body.codeTag.1 tag 1 reason [] .answer { u with free := f } (.inl rfl)
  exact ⟨f, w, q, l, e.trans sent, tag, joined, echoes⟩

/-- An order refused at once does nothing but answer. -/
theorem refused_now {src : Nat} {b : OrderBody} {reason : Reason} {s u : State} {w : Option Nat} {i : Timer}
    (run : receiveOrder src b s = takeHeldOrders u) (still : s.wsq.station = .idle → s.orq.heldList = [])
    (refuses : u = refuseBody ⟨src, b⟩ reason (s.forOrder w i)) :
    completes (bodyCommand src b) s fun t =>
      onlyAnswered s t ∧
        ∃ tag, outgoing t = outgoing s ++ [answerFrame src b.codeTag.1 tag 1 reason [] .answer] ∧
          ∀ n, b.codeTag.2 = some n → tag = n := by
  obtain ⟨f, w', q, l, e, tag, joined, echoes⟩ := refuseBody_sent ⟨src, b⟩ reason (s.forOrder w i)
  have sent := refuses.trans e
  refine ⟨u, ?_, ?_⟩
  · rw [exec_bodyCommand, run, takeHeldOrders_still (by rw [sent]; exact still)]
  · rw [sent]
    exact ⟨by simp [onlyAnswered, sameBase, sameLink, sameHead, State.forOrder], tag, joined, echoes⟩

/-- The refusals of R161 in handleOrder's order, as O22 gives them. -/
theorem handleOrder_refused {d : Delivered} {s : State} {reason : Reason} (ordinary : d.body.isStatus = false)
    (h : (if s.wsq.station = .unconfigured then some .unconfigured
        else if d.body.wellFormed = false then some .badOrder
        else if s.orq.restartPending = true then some Reason.wrongState else none) = some reason) :
    handleOrder d s = refuseBody d reason s := by
  have unconfigured : refusedUnconfigured s d.body = true ↔ s.wsq.station = .unconfigured := by
    simp [refusedUnconfigured, ordinary]
  unfold handleOrder
  simp only [unconfigured, ordinary, and_true]
  (repeat' split at h) <;> cases h <;> simp [*]

/-- Settles O22. -/
theorem ordersRefusedAtOnce : Obligations.OrdersRefusedAtOnce := by
  intro src b s awake loaded not_dormant not_waking free noneHeld ordinary reason refused
  obtain ⟨w, run⟩ := receiveOrder_eq (src := src) (b := b) awake loaded
  have here : toHold s b = false := by simp [toHold, not_dormant, not_waking]
  rw [deliverOrder_taken free, takeOrder_awake here, handleOrder_refused ordinary (by exact refused)] at run
  exact refused_now run (fun _ => noneHeld) rfl

/-! ### DORMANT and WAKING -/

/-- What starting the wake writes (R13). -/
theorem startWake_eq (s : State) :
    startWake s =
      { s with
        wsq.station := .waking
        wsq.wakeTimer := some s.loc.wakeMs
        pcu := (startWake s).pcu
        stl := (startWake s).stl } ∧
      (startWake s).pcu.powered = true ∧ (startWake s).pcu.clampValve = .hold ∧
      (startWake s).pcu.clamp = s.pcu.clamp ∧ (startWake s).stl.pause = .normal := ⟨rfl, rfl, rfl, rfl, rfl⟩

theorem bodyCommand_runs {src : Nat} {b : OrderBody} {s u : State} (run : receiveOrder src b s = takeHeldOrders u)
    (still : u.wsq.station = .idle → u.orq.heldList = []) : exec (bodyCommand src b) s = .next u := by
  rw [exec_bodyCommand, run, takeHeldOrders_still still]

/-- Settles O23: where toHold holds an order, and where not. -/
theorem ordersHeldOrWaiting : Obligations.OrdersHeldOrWaiting := by
  intro src b s awake loaded coded asleep answered refused
  obtain ⟨w, run⟩ := receiveOrder_eq (src := src) (b := b) awake loaded
  have holds (c : coded) (a : asleep) : toHold s b = true := (toHold_iff s b).mpr ⟨a, c⟩
  have wakeUp_dormant (dormant : s.wsq.station = .dormant) :
      wakeUp (s.forOrder w s.wsq.idleTimer) = startWake (s.forOrder w s.wsq.idleTimer) := if_pos dormant
  have wakeUp_waking (waking : s.wsq.station = .waking) :
      wakeUp (s.forOrder w s.wsq.idleTimer) = s.forOrder w s.wsq.idleTimer := if_neg (by simp [State.forOrder, waking])
  refine ⟨?_, ?_, ?_, ?_, ?_, ?_⟩
  case refine_1 =>
    intro c dormant room
    rw [deliverOrder_held (holds c (.inl dormant)) room, holdOrder, wakeUp_dormant dormant] at run
    exact ⟨_, bodyCommand_runs run nofun, by simp [startWake, powerField, detectorReset, State.forOrder, sameLink, sameBase, outgoing, State.loc]⟩
  case refine_2 =>
    intro c waking room
    rw [deliverOrder_held (holds c (.inr waking)) room, holdOrder, wakeUp_waking waking] at run
    refine ⟨_, bodyCommand_runs run (by simp [State.forOrder, waking]), ?_⟩
    simp [State.forOrder, sameLink, sameBase, sameHead, outgoing]
  case refine_3 =>
    intro c waking full free
    rw [deliverOrder_taken free, takeOrder_full (holds c (.inr waking)) full, wakeUp_waking waking] at run
    exact refused_now run (by simp [waking]) rfl
  case refine_4 =>
    intro c dormant full free
    rw [deliverOrder_taken free, takeOrder_full (holds c (.inl dormant)) full, wakeUp_dormant dormant] at run
    obtain ⟨f, w', q, l, e, tag, joined, echoes⟩ :=
      refuseBody_sent ⟨src, b⟩ .queueFull (startWake (s.forOrder w s.wsq.idleTimer))
    rw [e] at run
    refine ⟨_, bodyCommand_runs run nofun, rfl, rfl, rfl, rfl, rfl, rfl, ⟨tag, joined, echoes⟩, ?_⟩
    simp [startWake, powerField, detectorReset, State.forOrder, sameLink, sameBase]
  case refine_5 =>
    intro plain malformed a free
    have here : toHold s b = false := by
      rw [← Bool.not_eq_true, toHold_iff]; exact fun ⟨_, c⟩ => plain c
    have ordinary : b.isStatus = false := by cases b <;> simp_all [OrderBody.isStatus, OrderBody.wellFormed]
    have configured : s.wsq.station ≠ .unconfigured := by rcases a with a | a <;> simp [a]
    rw [deliverOrder_taken free, takeOrder_awake here, handleOrder_refused (reason := .badOrder) ordinary
      (by simp [malformed, State.forOrder, configured])] at run
    exact refused_now run (by rcases a with a | a <;> simp [a]) rfl
  case refine_6 =>
    intro busy full still
    have waits : (holdsNow ⟨src, b⟩ (s.forOrder w s.wsq.idleTimer) || noOutgoing (s.forOrder w s.wsq.idleTimer)) = false := by
      have later : holdsNow ⟨src, b⟩ (s.forOrder w s.wsq.idleTimer) = false := by
        rw [← Bool.not_eq_true]
        simp only [holdsNow, toHold_forOrder, Bool.and_eq_true, decide_eq_true_eq, toHold_iff]
        rintro ⟨⟨a, c⟩, room⟩
        exact absurd (full c a) (Nat.not_le.mpr room)
      rw [later, Bool.false_or]; exact busy
    rw [deliverOrder, if_neg (by rw [waits]; decide)] at run
    by_cases room : s.orq.arrivals.length < 4
    · rw [if_pos (by exact room)] at run
      refine ⟨_, bodyCommand_runs run still, ?_⟩
      simp [State.forOrder, sameLink, sameBase, sameHead, outgoing, room]
    · rw [if_neg (by exact room)] at run
      refine ⟨_, bodyCommand_runs run still, ?_⟩
      rw [if_neg room]
      exact ⟨rfl, by simp [State.forOrder, sameLink, sameBase, sameHead, outgoing]⟩

end Sys2Proof.Machine

/-! The head order, the tests of CHECK, and the lists that are worked off (O32 to O34). -/

namespace Sys2Proof.Machine

theorem completes_of {c : Instr} {s t u : State} {p : State → Prop} (run : exec c s = .next t) (e : t = u) (holds : p u) :
    completes c s p := ⟨u, e ▸ run, holds⟩

/-! ### Station states and the ends of orders and welds -/

/-- A state in which no top-up is made. -/
theorem setStation_eq {st : StationState} {s : State} (h : s.wsq.topUpDue = false ∨ (st ≠ .recover ∧ st ≠ .clamped)) :
    setStation st s =
      { s with wsq.station := st, wsq.idleTimer := if st = .idle then idleStart s else none } := makeTopUp_still _ h

theorem makeTopUp_wsq_eq (s : State) : ∃ d, (makeTopUp s).wsq = { s.wsq with topUpDue := d } := by
  unfold makeTopUp
  split
  · exact ⟨false, startTopUp_wsq _⟩
  · exact ⟨_, rfl⟩

theorem setStation_wsq_eq (st : StationState) (s : State) :
    ∃ d, (setStation st s).wsq =
      { s.wsq with station := st, idleTimer := if st = .idle then idleStart s else none, topUpDue := d } :=
  makeTopUp_wsq_eq _

/-- The executing order ends: it leaves the queue when its DONE notice is placed, and is marked ended otherwise (R163). -/
theorem endOrder_queue {s : State} {o : QueuedOrder} {rest : List QueuedOrder} (head : s.orq.queue = o :: rest)
    (runs : o.status = .executing) (outcome : OrderOutcome) (reason : Reason) (weldNo : Option Nat) :
    (endOrder outcome reason weldNo s).orq.queue = rest ∨
      (endOrder outcome reason weldNo s).orq.queue = { o with status := .ended } :: rest := by
  have found : executing s = some o := by simp [executing, head, runs]
  obtain ⟨w, e⟩ := sendOther_eq (doneNotice o outcome reason weldNo .doneNotice)
    { s with orq.queue := setHead .ended s.orq.queue }
  simp only [endOrder, found, e]
  split
  · left; simp [doneNotice, placed, head, setHead, popEnded]
  · right; simp [head, setHead]

/-- A weld that ends with no hold in force leaves the station CLAMPED, with nothing of the weld (R22, R30). -/
theorem leaveWeld_wsq_eq {s : State} (free : s.motionHeld = false) :
    (leaveWeld s).wsq.station = .clamped ∧ (leaveWeld s).wsq.weldNo = none ∧ (leaveWeld s).wsq.switchPending = false := by
  obtain ⟨d, e⟩ := setStation_wsq_eq .clamped (neutralSets (pcuWeldEnd (wsqWeldEnd s)))
  have left : leaveWeld s = setStation .clamped (neutralSets (pcuWeldEnd (wsqWeldEnd s))) :=
    if_neg (by rw [free]; decide)
  rw [left, e]
  exact ⟨rfl, rfl, rfl⟩

/-- What a weld order ends with, before or after its record, with no hold in force. -/
theorem endWeld_written {s : State} (free : s.motionHeld = false) (outcome : OrderOutcome) (reason : Reason)
    (weldNo : Option Nat) :
    (endWeld outcome reason weldNo s).wsq.station = .clamped ∧ (endWeld outcome reason weldNo s).wsq.phase = none ∧
      (endWeld outcome reason weldNo s).wsq.weldNo = none ∧ (endWeld outcome reason weldNo s).wsq.pendingSet = .neutral ∧
      (endWeld outcome reason weldNo s).wsq.inForce = .neutral ∧
      (endWeld outcome reason weldNo s).wsq.switchPending = false := by
  obtain ⟨station, number, pending⟩ := leaveWeld_wsq_eq free
  simp [endWeld, station, number, pending]

theorem outgoing_endWeld (outcome : OrderOutcome) (reason : Reason) (weldNo : Option Nat) (s : State) (o : QueuedOrder)
    (runs : executing s = some o) :
    outgoing (endWeld outcome reason weldNo s) = outgoing s ++ [doneNotice o outcome reason weldNo .doneNotice] := by
  rw [endWeld, outgoing_endOrder _ _ _ _ o (by simpa [executing] using runs)]
  simp [outgoing]

/-! ### The head order is taken (R2) -/

section
variable {s : State} {o : QueuedOrder} {rest : List QueuedOrder} (head : s.orq.queue = o :: rest)
  (waits : o.status = .waiting)
include head waits

theorem takeHead_eq (temp : Option Int) : takeHead temp s = startOrder o temp (beginOrder s) := by
  have found : waitingHead s = some o := by simp [waitingHead, head, waits]
  simp only [takeHead, found]

omit waits in
theorem beginOrder_queue : (beginOrder s).orq.queue = { o with status := .executing } :: rest := by
  simp [beginOrder, head, setHead]

omit waits in
theorem executing_beginOrder : executing (beginOrder s) = some { o with status := .executing } := by
  simp [executing, beginOrder_queue head]

theorem exec_takeHeadOrder (temp : Option Int) (awake : s.inReset = false) (takes : takesOrders s.wsq.station = true) :
    exec (.takeHeadOrder temp) s = .next (startOrder o temp (beginOrder s)) := by
  rw [exec_taken (effect := takeHead temp) rfl awake takes, takeHead_eq head waits]

end

/-- A CLAMP in IDLE closes OPEN clamps to its schedule's force (R3). -/
theorem startClamp_open {n : Nat} {s : State} (opened : s.pcu.clamp = some .open) :
    startClamp n s =
      { s with
        wsq := { s.wsq with station := .clamping, clampFail := none, idleTimer := none }
        pcu := { s.pcu with
          clampForceInUse := some (s.schedule n).clampForce
          clamp := some .closing
          clampValve := .close
          clampTimer := some s.loc.clampTimeoutMs
          stopped := false
          reversal := false
          topUp := false
          slip := .disarmed
          slipCount := 0 } } := by
  rw [startClamp, setStation_eq (.inr (by decide))]
  simp [closeRequest, opened, clampMove, State.loc]

/-- Settles O32: the head order is marked executing, and started or ended by the table of R2. -/
theorem headOrderTaken : Obligations.HeadOrderTaken := by
  intro temp s o rest awake head waits
  have queue := beginOrder_queue head
  have runs := executing_beginOrder head
  have run (takes : takesOrders s.wsq.station = true) := exec_takeHeadOrder head waits temp awake takes
  refine ⟨fun n kind idle opened => ?_, fun kind clamped closed drive => ?_, fun wrong => ?_, fun n k neutral kind wrong => ?_⟩
  · have started : startOrder o temp (beginOrder s) = startClamp n (beginOrder s) := by
      simp only [startOrder, kind, if_pos (show (beginOrder s).wsq.station = .idle from idle)]
    refine ⟨_, run (by rw [idle]; rfl), ?_⟩
    rw [started, startClamp_open (s := beginOrder s) opened]
    exact ⟨rfl, rfl, queue, ⟨rfl, rfl, rfl, rfl, rfl⟩, rfl, rfl, rfl, rfl, rfl, rfl⟩
  · refine ⟨_, exec_takeHeadOrder_clamped s awake temp clamped, ?_⟩
    rw [takeHead_unclamp s temp o rest head waits kind clamped closed drive]
    simp [clampMove, sameBase, State.loc]
  · have started : startOrder o temp (beginOrder s) = endOrder .failed .wrongState none (beginOrder s) := by
      obtain ⟨⟨n, kind⟩, at_⟩ | ⟨kind, at_⟩ := wrong
      · simp only [startOrder, kind]
        exact if_neg (by rcases at_ with h | h <;> simp [beginOrder, h])
      · simp only [startOrder, kind]
        exact if_neg (by rcases at_ with h | h <;> simp [beginOrder, h])
    have takes : takesOrders s.wsq.station = true := by
      obtain ⟨_, h | h⟩ | ⟨_, h | h⟩ := wrong <;> rw [h] <;> rfl
    have sent := outgoing_endOrder .failed .wrongState none (beginOrder s) _ runs
    refine completes_of (run takes) started ⟨sent, ?_⟩
    exact ⟨by simp [beginOrder], by simp [beginOrder], endOrder_queue queue rfl _ _ _, by simp [sameBase, beginOrder]⟩
  · have not_clamped : (beginOrder s).wsq.station ≠ .clamped := by rcases wrong with h | h <;> simp [beginOrder, h]
    have started : startOrder o temp (beginOrder s) =
        endOrder .notStarted .notClamped none (neutralSets (beginCheck n k neutral temp (beginOrder s))) := by
      simp only [startOrder, kind, takeWeld]
      exact if_neg not_clamped
    have takes : takesOrders s.wsq.station = true := by rcases wrong with h | h <;> rw [h] <;> rfl
    have sent := outgoing_endOrder .notStarted .notClamped none (neutralSets (beginCheck n k neutral temp (beginOrder s))) _ runs
    refine completes_of (run takes) started ⟨sent.trans (by simp [doneNotice, kind, QueuedKind.code, outgoing, beginOrder]), ?_⟩
    have kept := endOrder_queue (s := neutralSets (beginCheck n k neutral temp (beginOrder s))) queue rfl .notStarted .notClamped none
    refine ⟨by simp [neutralSets, beginOrder], by simp [neutralSets, beginOrder], by simp [neutralSets, Adjustment.neutral], by simp [neutralSets, Adjustment.neutral], by simp [neutralSets, Adjustment.neutral], by simp [beginOrder],
      by simp [beginOrder], by simp [beginOrder], kept, by simp [sameBase, beginOrder]⟩

end Sys2Proof.Machine

/-! The tests of CHECK (O33). -/

namespace Sys2Proof.Machine

/-! ### The reservation rule (R172) -/

/-- The circular order visits every slot. -/
theorem mem_circular {newest i : Nat} : i ∈ circular newest ↔ i < 48 := by
  simp only [circular, List.mem_map, List.mem_range, slotCount]
  constructor
  · rintro ⟨k, _, rfl⟩; exact Nat.mod_lt _ (by decide)
  · intro h; exact ⟨(i + 48 - (newest + 1) % 48) % 48, Nat.mod_lt _ (by decide), by omega⟩

/-- The rule may choose slot `i`, as the statements say it. -/
def slotFree (w : Wrs) (i : Nat) : Bool :=
  match w.slots[i]? with
  | some .empty => true
  | some (.valid _) => true
  | _ => false

theorem slotFree_eq (w : Wrs) (i : Nat) : (w.slots.getD i .reserved).free = slotFree w i := by
  unfold slotFree
  rw [List.getD_eq_getElem?_getD]
  match w.slots[i]? with
  | none | some .empty | some .reserved | some (.valid _) | some (.held _) => rfl

theorem reservation_isSome_iff (w : Wrs) : (reservation w).isSome = true ↔ ¬∀ i ∈ List.range 48, slotFree w i = false := by
  simp [reservation, List.find?_isSome, mem_circular, ← slotFree_eq]

/-! ### What CHECK begins with -/

theorem clampInt_eq {lo hi x : Int} (h : lo ≤ hi) : clampInt lo hi x = max lo (min x hi) := by
  unfold clampInt; (repeat' split) <;> omega

theorem clipOffset_eq (bound : Nat) (x : Int) : clipOffset bound x = max (-(bound : Int)) (min x bound) :=
  clampInt_eq (by omega)

theorem validTemp_eq (temp : Option Int) : validTemp temp = temp.filter fun x => -40 ≤ x ∧ x ≤ 90 := by
  cases temp with
  | none => rfl
  | some x => simp [validTemp, Option.filter_some]

/-- A WELD order in CLAMPED, at test 2 (R25). -/
def atCheck (n : Nat) (k : WeldKind) (neutral : Int) (temp : Option Int) (s : State) : State :=
  { setStation .welding (beginCheck n k neutral temp s) with wsq.phase := some .check }

section
variable {n : Nat} {k : WeldKind} {neutral : Int} {temp : Option Int} {s : State}

theorem takeWeld_clamped (clamped : s.wsq.station = .clamped) :
    takeWeld n k neutral temp s = runCheck (atCheck n k neutral temp s) := if_pos clamped

theorem atCheck_eq :
    atCheck n k neutral temp s =
      { beginCheck n k neutral temp s with
        wsq.station := .welding, wsq.idleTimer := none, wsq.phase := some .check } := by
  rw [atCheck, setStation_eq (.inr (by decide))]
  rfl

/-- The first of tests 2 to 6 that fails. -/
theorem checkFailure_eq (u : State) :
    checkFailure u =
      if u.wsq.isolated = true then some .isolated
      else if ∃ p ∈ u.sht.peers, p.presence = .discordant then some .discord
      else if 4294967295 ≤ u.sht.clock then some .clockSpent
      else if (∀ i ∈ List.range 48, slotFree u.wrs i = false) ∨ 4294967295 ≤ u.wrs.counter then some .logFull
      else if u.wsq.kind = .closure ∧ u.wsq.railTemp = none then some .sensor
      else none := by
  have slots : (!slotAvailable u.wrs) = true ↔
      (∀ i ∈ List.range 48, slotFree u.wrs i = false) ∨ 4294967295 ≤ u.wrs.counter := by
    rw [Bool.not_eq_true', ← Bool.not_eq_true, slotAvailable, Bool.and_eq_true, reservation_isSome_iff, decide_eq_true_eq,
      top32, Classical.not_and_iff_not_or_not, Classical.not_not, Nat.not_lt]
  have discordant : discord u = true ↔ ∃ p ∈ u.sht.peers, p.presence = .discordant := by simp [discord]
  have spent : clockSpent u = true ↔ 4294967295 ≤ u.sht.clock := by rw [clockSpent, decide_eq_true_iff, top32]
  have sensor : (u.wsq.kind == .closure && u.wsq.railTemp.isNone) = true ↔ u.wsq.kind = .closure ∧ u.wsq.railTemp = none := by
    simp
  simp only [checkFailure, slots, discordant, spent, sensor]

/-- The station's table and store are as they were; the kind and the sampled temperature are the order's. -/
theorem checkFailure_atCheck :
    checkFailure (atCheck n k neutral temp s) =
      if s.wsq.isolated = true then some .isolated
      else if ∃ p ∈ s.sht.peers, p.presence = .discordant then some .discord
      else if 4294967295 ≤ s.sht.clock then some .clockSpent
      else if (∀ i ∈ List.range 48, slotFree s.wrs i = false) ∨ 4294967295 ≤ s.wrs.counter then some .logFull
      else if k = .closure ∧ (temp.filter fun x => -40 ≤ x ∧ x ≤ 90) = none then some .sensor
      else none := by
  rw [checkFailure_eq, atCheck_eq, ← validTemp_eq]
  rfl

theorem runCheck_fails {u : State} {reason : Reason} (fails : checkFailure u = some reason) :
    runCheck u = endWeld .notStarted reason none u := by
  simp only [runCheck, fails]

theorem runCheck_passes {u : State} (passes : checkFailure u = none) (drive : u.cdr.drive ≠ .running)
    (closed : u.pcu.clamp = some .closed) : runCheck u = startShoes (setPullTarget u) := by
  simp only [runCheck, passes]
  exact if_pos (by simp [mayMeasure, setPullTarget, drive, closed])

end

/-- Settles O33: the chain of tests is checkFailure's; a weld that fails one leaves as every weld does. -/
theorem checkTestsInOrder : Obligations.CheckTestsInOrder := by
  intro temp s o rest n k neutral awake head waits kind clamped valid clip free failure
  have queue := beginOrder_queue head
  have runs := executing_beginOrder head
  have started : startOrder o temp (beginOrder s) = runCheck (atCheck n k neutral temp (beginOrder s)) := by
    rw [← takeWeld_clamped (by exact clamped)]
    simp only [startOrder, kind]
  have run := exec_takeHeadOrder head waits temp awake (by rw [clamped]; rfl)
  have tests : checkFailure (atCheck n k neutral temp (beginOrder s)) = failure := checkFailure_atCheck
  refine ⟨fun passes drive closed => ?_, fun reason fails => ?_⟩
  · have at_ : atCheck n k neutral temp (beginOrder s) = _ := atCheck_eq
    have ends := started.trans (runCheck_passes (tests.trans passes) (by rw [at_]; simpa [beginOrder] using drive)
      (by rw [at_]; simpa [beginOrder] using closed))
    refine completes_of run ends ?_
    rw [at_]
    refine ⟨rfl, rfl, rfl, rfl, ?_, rfl, rfl, rfl, validTemp_eq temp, rfl, rfl, rfl, ?_, ?_, queue, ⟨rfl, rfl, rfl, rfl, rfl⟩, rfl,
      rfl, rfl, rfl, rfl⟩
    · simp only [clip, ← clipOffset_eq]; rfl
    · intro join; simp [startShoes, setPullTarget, beginCheck, truNewWeld, join]
    · intro x closure temp_x
      have rail : validTemp temp = some x := (validTemp_eq temp).trans temp_x
      simp [startShoes, setPullTarget, beginCheck, truNewWeld, closure, rail, pullTargetOf, roundDiv, beginOrder, State.loc,
        Nat.mul_comm 2]
  · have welding : (atCheck n k neutral temp (beginOrder s)).motionHeld = false := by rw [atCheck_eq]; rfl
    have sent := outgoing_endWeld .notStarted reason none (atCheck n k neutral temp (beginOrder s)) _ (by rw [atCheck_eq]; exact runs)
    obtain ⟨station, phase, number, pending, inForce, switch⟩ := endWeld_written welding .notStarted reason none
    refine completes_of run (started.trans (runCheck_fails (tests.trans fails))) ?_
    refine ⟨station, phase, number, pending, inForce, switch, sent.trans ?_, ?_⟩
    · rw [atCheck_eq]; simp [doneNotice, kind, QueuedKind.code, outgoing, beginOrder]
    · rw [atCheck_eq]; simp [sameBase, beginOrder, endWeld]

end Sys2Proof.Machine

/-! The lists that are worked off, oldest first (O34). -/

namespace Sys2Proof.Machine

/-! ### Arrivals (R160) -/

/-- Arrivals taken one after another, however many. -/
def takeArrivals (l : List Delivered) (s : State) : State := l.foldl (fun u d => takeOrder d u) s

/-- Arrivals are taken up to the first that leaves an answer waiting; those behind it stay in the list. -/
theorem handleArrivals_eq (l : List Delivered) (s : State) :
    ∃ k ≤ l.length, (∀ j < k, noOutgoing (takeArrivals (l.take j) s) = true) ∧
      (k = l.length ∨ noOutgoing (takeArrivals (l.take k) s) = false) ∧
      handleArrivals l s =
        { takeArrivals (l.take k) s with
          orq.arrivals := (takeArrivals (l.take k) s).orq.arrivals ++ l.drop k } := by
  induction l generalizing s with
  | nil => exact ⟨0, Nat.le_refl _, nofun, .inl rfl, by simp [handleArrivals, takeArrivals]⟩
  | cons d l ih =>
    by_cases free : noOutgoing s = true
    · obtain ⟨k, bound, taken, stops, e⟩ := ih (takeOrder d s)
      refine ⟨k + 1, by simpa using bound, fun j hj => ?_, ?_, ?_⟩
      · cases j with
        | zero => exact free
        | succ j => exact taken j (by omega)
      · exact stops.imp (by simp) id
      · rw [handleArrivals, if_pos free, e]; rfl
    · refine ⟨0, Nat.zero_le _, nofun,
        .inr (Bool.eq_false_iff.mpr free), ?_⟩
      rw [handleArrivals, if_neg free]; rfl

/-! ### The frame that waited longest (R156) -/

theorem queueWaiter_eq {s : State} {f : TxFrame} {l : List TxFrame} (waits : s.lkc.waiters = f :: l) :
    ∃ w, queueWaiter s =
      { placed f.purpose { s with lkc.queue := s.lkc.queue ++ [f], lkc.waiters := l } with lkc.wait := w } := by
  simp only [queueWaiter, waits]
  exact armWait_eq _

/-! ### The parts of a record (R175) -/

section
variable {s : State} {r : ReadTransfer} {l : List ReadTransfer} (first : s.wrs.reads = r :: l)
include first

/-- The first transfer goes on to its next stage. -/
theorem advanceRead_head {into : ReadStage} :
    advanceRead r.stage into s.wrs.reads = { r with stage := into } :: l := by
  rw [first, advanceRead, if_pos (by simp)]

omit first in
/-- A part is handed to LKC: where it is queued at once, the transfer is past it. -/
theorem sendOther_record (part : Nat) (waiting into : ReadStage) (stage : placed (.recordPart part r.id) =
      fun u => { u with wrs.reads := advanceRead waiting into u.wrs.reads }) :
    ∃ w q k, sendOther (recordFrame r part) { s with wrs.reads := { r with stage := waiting } :: l } =
        { s with
          wrs.reads :=
            { r with stage := if s.lkc.queue.length < 6 ∧ s.lkc.waiters = [] then into else waiting } :: l
          lkc.wait := w, lkc.queue := q, lkc.waiters := k } := by
  obtain ⟨w, e⟩ := sendOther_eq (recordFrame r part) { s with wrs.reads := { r with stage := waiting } :: l }
  rw [e]
  by_cases room : s.lkc.queue.length < 6 ∧ s.lkc.waiters = []
  · refine ⟨w, s.lkc.queue ++ [recordFrame r part], s.lkc.waiters, ?_⟩
    rw [if_pos (by exact room), if_pos room, show (recordFrame r part).purpose = .recordPart part r.id from rfl, stage]
    simp [advanceRead]
  · refine ⟨s.lkc.wait, s.lkc.queue, s.lkc.waiters ++ [recordFrame r part], ?_⟩
    rw [if_neg (by exact room), if_neg room]

omit first in
/-- RECORD_PART_QUEUED, where it hands over that part. -/
theorem recordPart_sent (awake : s.inReset = false) (part : Nat) (waiting into : ReadStage)
    (stage : placed (.recordPart part r.id) = fun u => { u with wrs.reads := advanceRead waiting into u.wrs.reads })
    (hands : queueRecordPart s = sendOther (recordFrame r part) { s with wrs.reads := { r with stage := waiting } :: l }) :
    completes .recordPartQueued s fun t =>
      outgoing t = outgoing s ++ [recordFrame r part] ∧
        t.wrs = { s.wrs with
          reads := { r with stage := if s.lkc.queue.length < 6 ∧ s.lkc.waiters = [] then into else waiting } :: l } ∧
        sameBase s t ∧ sameHead s t ∧ t.wsq = s.wsq ∧ t.stl = s.stl ∧ t.sht = s.sht ∧ t.orq = s.orq := by
  refine completes_of (exec_taken (effect := queueRecordPart) rfl awake rfl) hands ⟨outgoing_sendOther _ _, ?_⟩
  obtain ⟨w, q, k, e⟩ := sendOther_record (s := s) (l := l) part waiting into stage
  rw [e]
  simp [sameBase, sameHead]

end

/-- Settles O34: each list is taken from its front. -/
theorem listsWorkedOff : Obligations.ListsWorkedOff := by
  intro s awake
  refine ⟨fun free some_wait => ?_, fun f l room waits => ?_, fun r l first stage => ?_⟩
  · intro after
    obtain ⟨k, bound, taken, stops, e⟩ := handleArrivals_eq s.orq.arrivals { s with orq.arrivals := [] }
    have pos : 0 < s.orq.arrivals.length := List.length_pos_iff.mpr some_wait
    refine ⟨k, ?_, bound, taken, stops, ?_⟩
    · refine Classical.byContradiction fun none_taken => ?_
      obtain rfl : k = 0 := by omega
      obtain empty | busy := stops
      · omega
      · exact absurd free (by rw [show noOutgoing s = false from busy]; decide)
    · rw [exec_taken (effect := workArrivals) rfl awake (by simp [free, some_wait]), workArrivals, e]
      rfl
  · obtain ⟨w, e⟩ := queueWaiter_eq waits
    refine completes_of (exec_taken (effect := queueWaiter) rfl awake (decide_eq_true room)) e ?_
    cases purpose : f.purpose with
    | doneNotice =>
      refine ⟨rfl, fun other => absurd rfl other, fun o rest _ queue ended => ?_, ?_⟩
      · simp [placed, popEnded, queue, ended]
      · simp [placed, sameBase, sameHead]
    | recordPart part id =>
      refine ⟨by simp only [placed]; split <;> rfl, fun _ => by simp only [placed]; split <;> rfl, nofun, ?_⟩
      simp only [placed]
      split <;> simp [sameBase, sameHead]
    | _ => simp [placed, sameBase, sameHead]
  · intro one
    obtain stage | stage := stage
    · have found : firstRead s = some r := by simp [firstRead, first, stage]
      have hands : queueRecordPart s =
          sendOther (recordFrame r 1) { s with wrs.reads := { r with stage := .part1Waiting } :: l } := by
        simp only [queueRecordPart, found, stage, ← advanceRead_head first]
      simpa [recordFrame, one, stage] using recordPart_sent awake 1 .part1Waiting .part2 rfl hands
    · have found : firstRead s = some r := by simp [firstRead, first, stage]
      have hands : queueRecordPart s =
          sendOther (recordFrame r 2) { s with wrs.reads := { r with stage := .part2Waiting } :: l } := by
        simp only [queueRecordPart, found, stage, ← advanceRead_head first]
      simpa [recordFrame, one, stage] using recordPart_sent awake 2 .part2Waiting .part2Placed rfl hands

end Sys2Proof.Machine

/-! Share frames that are received, the loss and drain timers, and frames that are discarded (O37, O39 to O41, O43, O44). -/

namespace Sys2Proof.Machine

/-! ### The claim list and the peer table -/

theorem removeClaim_eq_filter (n : Nat) (l : List Claim) : removeClaim n l = l.filter (·.station ≠ n) := by
  refine List.filter_congr fun c _ => ?_
  by_cases here : c.station = n <;> simp [here]

theorem updateClaim_eq_map (n : Nat) (f : Claim → Claim) (l : List Claim) :
    updateClaim n f l = l.map fun c => if c.station = n then f c else c := by
  simp [updateClaim]

/-- An entry is put between those that were there. -/
theorem insertClaim_between (c : Claim) (l : List Claim) :
    ∃ before after, insertClaim c l = before ++ c :: after ∧ before ++ after = l := by
  induction l with
  | nil => exact ⟨[], [], rfl, rfl⟩
  | cons d l ih =>
    unfold insertClaim
    split
    · exact ⟨[], d :: l, rfl, rfl⟩
    · obtain ⟨before, after, e, same⟩ := ih
      exact ⟨d :: before, after, by simp [e], by simp [same]⟩

/-- The entries of other stations stay as they are. -/
theorem filter_putClaim {n : Nat} (c : Claim) (l : List Claim) (own : c.station = n) :
    (putClaim c l).filter (·.station ≠ n) = l.filter (·.station ≠ n) := by
  subst own
  obtain ⟨before, after, e, same⟩ := insertClaim_between c (removeClaim c.station l)
  rw [putClaim, e, List.filter_append, List.filter_cons_of_neg (by simp), ← List.filter_append, same, removeClaim_eq_filter,
    List.filter_filter]
  simp

theorem filter_updateClaim {n : Nat} (f : Claim → Claim) (l : List Claim) (place : ∀ c, (f c).station = c.station) :
    (updateClaim n f l).filter (·.station ≠ n) = l.filter (·.station ≠ n) := by
  induction l with
  | nil => rfl
  | cons d l ih =>
    have cons : updateClaim n f (d :: l) = (if (d.station == n) = true then f d else d) :: updateClaim n f l := rfl
    rw [cons]
    by_cases here : d.station = n
    · rw [if_pos (by simpa using here), List.filter_cons_of_neg (by simp [place, here]),
        List.filter_cons_of_neg (by simp [here]), ih]
    · rw [if_neg (by simpa using here), List.filter_cons_of_pos (by simpa using here),
        List.filter_cons_of_pos (by simpa using here), ih]

theorem find_putClaim_self {n : Nat} (c : Claim) (l : List Claim) (own : c.station = n) :
    (putClaim c l).find? (·.station = n) = some c := by
  subst own
  obtain ⟨before, after, e, same⟩ := insertClaim_between c (removeClaim c.station l)
  have none_before : ∀ d ∈ before, d.station ≠ c.station := by
    intro d hd
    have mem : d ∈ removeClaim c.station l := by rw [← same]; exact List.mem_append_left _ hd
    simpa [removeClaim] using (List.mem_filter.mp mem).2
  rw [putClaim, e, List.find?_append, List.find?_eq_none.mpr (by simpa using none_before)]
  simp

theorem find_updateClaim_self {n : Nat} (f : Claim → Claim) (l : List Claim) (place : ∀ c, (f c).station = c.station)
    {c : Claim} (found : l.find? (·.station == n) = some c) :
    (updateClaim n f l).find? (·.station = n) = some (f c) := by
  induction l with
  | nil => cases found
  | cons d l ih =>
    have cons : updateClaim n f (d :: l) = (if (d.station == n) = true then f d else d) :: updateClaim n f l := rfl
    rw [cons]
    by_cases here : d.station = n
    · rw [List.find?_cons_of_pos (by simpa using here)] at found
      cases found
      rw [if_pos (by simpa using here), List.find?_cons_of_pos (by simpa [place] using here)]
    · rw [List.find?_cons_of_neg (by simpa using here)] at found
      rw [if_neg (by simpa using here), List.find?_cons_of_neg (by simpa using here), ih found]

/-- Changing the element at a place is putting the changed element there. -/
theorem modify_eq_set {α : Type} {l : List α} {p : Nat} {a : α} (known : l[p]? = some a) (f : α → α) :
    l.modify p f = l.set p (f a) := by
  refine List.ext_getElem? fun i => ?_
  rw [List.getElem?_modify, List.getElem?_set]
  split
  · rename_i same
    subst same
    rw [known, if_pos (List.getElem?_eq_some_iff.mp known).1]
    rfl
  · exact congrFun Option.map_id _

section
variable {s : State} {p : Nat} {old : Peer} (known : s.sht.peers[p]? = some old)
include known

theorem peerOf_eq : peerOf s p = old := by
  rw [peerOf, List.getD_eq_getElem?_getD, known]; rfl

theorem onPeer_eq (f : Peer → Peer) : onPeer p f s = { s with sht.peers := s.sht.peers.set p (f old) } := by
  rw [onPeer, modify_eq_set known]

end

/-! ### Received share frames -/

/-- The line is at rest (R151). -/
def State.lineFreed (wait : Option Nat) (s : State) : State := { s with lkc.wait := wait, lkc.lineBusy := false }

theorem exec_share {c : Instr} {effect : State → State} {s : State}
    (arm : exec c s = onEvent (linkUp s) (receiveShare effect) s) (awake : s.inReset = false)
    (loaded : s.wsq.station ≠ .loading) :
    ∃ w, exec c s = .next (if s.configured = true then effect (s.lineFreed w) else s.lineFreed w) := by
  obtain ⟨w, e⟩ := lineFree_eq s
  refine ⟨w, ?_⟩
  have acted : sharesActed s = s.configured := by simp [sharesActed, awake]
  rw [exec_taken arm awake (by simp [linkUp, awake, loaded]), receiveShare, e, acted]
  rfl

theorem configured_loaded {s : State} (configured : s.configured = true) : s.wsq.station ≠ .loading := by
  intro loading; simp [State.configured, loading] at configured

/-- Settles O41: the three effects under the own number. -/
theorem ownNumberIsolates : Obligations.OwnNumberIsolates := by
  intro n d b s awake configured station
  have loaded := configured_loaded configured
  have low : ¬7 < s.node := (Nat.not_lt.mpr station)
  refine ⟨?_, ?_⟩
  · simp only [List.forall_mem_cons]
    refine ⟨?_, ?_, nofun⟩
    · obtain ⟨w, run⟩ := exec_share (c := .claimReceived s.node n d) rfl awake loaded
      rw [if_pos configured] at run
      exact completes_of run ((if_neg low).trans (if_pos rfl)) rfl
    · obtain ⟨w, run⟩ := exec_share (c := .yieldReceived s.node n) rfl awake loaded
      rw [if_pos configured] at run
      exact completes_of run ((if_neg low).trans (if_pos rfl)) rfl
  · obtain ⟨w, run⟩ := exec_share (c := .beaconReceived s.node b) rfl awake loaded
    rw [if_pos configured] at run
    refine completes_of run ((if_neg low).trans (if_pos rfl)) ?_
    by_cases names : beaconNames b = true
    · have named : b.claimPresent = true ∧ b.claimNumber ≠ 0 := by simpa [beaconNames] using names
      rw [raiseFromBeacon, if_pos names, if_pos named]
      rfl
    · have named : ¬(b.claimPresent = true ∧ b.claimNumber ≠ 0) := by simpa [beaconNames] using names
      rw [raiseFromBeacon, if_neg names, if_neg named]
      rfl

/-! #### CLAIM (R136) -/

section
variable {s : State} {src n d : Nat}

theorem claimEffect_enters (enters : ∀ c, claimOf s src = some c → c.number < n) :
    claimEffect src n d s = enterClaim src n d s := by
  unfold claimEffect
  cases found : claimOf s src with
  | none => rfl
  | some c => exact if_pos (enters c found)

theorem claimEffect_passes (passes : ¬∀ c, claimOf s src = some c → c.number < n) : claimEffect src n d s = s := by
  unfold claimEffect
  cases found : claimOf s src with
  | none => exact absurd (fun c known => by rw [found] at known; cases known) passes
  | some c =>
    refine if_neg fun smaller => passes fun c' known => ?_
    cases found.symm.trans known
    exact smaller

/-- The entry of a CLAIM, and of its sender. -/
theorem enterClaim_eq {x : Peer} (known : s.sht.peers[src]? = some x) :
    enterClaim src n d s =
      { s with
        sht.claims := putClaim ⟨src, n, d, .queued, none⟩ s.sht.claims
        sht.peers := s.sht.peers.set src
          (if x.presence = .absent then { x with missed := 0, lossTimer := some s.shr.beaconMs } else x) } := by
  unfold enterClaim
  rw [peerOf_eq known]
  by_cases absent : x.presence = .absent
  · rw [if_pos absent, if_pos absent]
    exact onPeer_eq (s := { s with sht.claims := putClaim ⟨src, n, d, .queued, none⟩ s.sht.claims }) known _
  · rw [if_neg absent, if_neg absent]
    have same : s.sht.peers.set src x = s.sht.peers := by
      obtain ⟨inRange, at_src⟩ := List.getElem?_eq_some_iff.mp known
      rw [← at_src, List.set_getElem_self]
    rw [same]

end

/-- A CLAIM or a YIELD of a peer raises the clock, and is noted. -/
theorem seenClaim_eq {s : State} {src n : Nat} {old : Peer} (known : s.sht.peers[src]? = some old) (w : Option Nat) :
    seenClaim src n (raiseClock n (s.lineFreed w)) =
      { s.lineFreed w with
        sht.clock := max s.sht.clock (min n top32)
        sht.peers := s.sht.peers.set src { old with lastClaim := some n } } :=
  onPeer_eq (s := raiseClock n (s.lineFreed w)) known _

/-- Settles O39. -/
theorem claimMakesAnEntry : Obligations.ClaimMakesAnEntry := by
  intro src n d s old awake loaded
  obtain ⟨w, run⟩ := exec_share (c := .claimReceived src n d) rfl awake loaded
  obtain ⟨w', run'⟩ := exec_share (c := .yieldReceived src n) rfl awake loaded
  refine ⟨fun zero other => ?_, fun unacted => ?_, fun configured low other number known => ?_⟩
  · refine completes_of (u := s.lineFreed w) run ?_ rfl
    split
    · unfold shareClaim
      rw [if_neg (show ¬src = (s.lineFreed w).node from other), if_pos zero]
      exact ite_self _
    · rfl
  · simp only [List.forall_mem_cons]
    refine ⟨completes_of (u := s.lineFreed w) run ?_ rfl, completes_of (u := s.lineFreed w') run' ?_ rfl, nofun⟩
    · obtain high | unconfigured := unacted
      · rw [shareClaim, if_pos high, ite_self]
      · rw [if_neg (by rw [unconfigured]; decide)]
    · obtain high | unconfigured := unacted
      · rw [shareYield, if_pos high, ite_self]
      · rw [if_neg (by rw [unconfigured]; decide)]
  · intro enters
    have inRange : src < s.sht.peers.length := (List.getElem?_eq_some_iff.mp known).1
    have entry : (s.sht.peers.set src { old with lastClaim := some n })[src]? = some { old with lastClaim := some n } := by
      simp [inRange]
    rw [if_pos configured, shareClaim, if_neg (Nat.not_lt.mpr low), if_neg (show ¬src = (s.lineFreed w).node from other), if_neg number,
      seenClaim_eq known] at run
    refine ⟨_, run, by simp [top32], fun yes => ?_, fun no => ?_, ?_⟩
    · rw [claimEffect_enters (by exact yes), enterClaim_eq (by exact entry)]
      refine ⟨?_, fun sound top => claimListSound_putClaim _ _ sound ⟨low, Nat.pos_of_ne_zero number, top, by simp⟩, ?_⟩
      · obtain ⟨before, after, e, same⟩ := insertClaim_between ⟨src, n, d, .queued, none⟩ (removeClaim src s.sht.claims)
        exact ⟨before, after, e, same.trans (removeClaim_eq_filter _ _)⟩
      · simp only [List.set_set]
        by_cases absent : old.presence = .absent <;> simp [absent] <;> rfl
    · rw [claimEffect_passes (by exact no)]
      exact ⟨rfl, rfl⟩
    · refine ⟨by simp [sameBase, State.lineFreed], by simp [sameHead, State.lineFreed], by simp [State.lineFreed], by simp [State.lineFreed], by simp [State.lineFreed], by simp [State.lineFreed],
        by simp [outgoing, State.lineFreed], by simp [sameLink, State.lineFreed], ?_⟩
      by_cases yes : enters
      · rw [claimEffect_enters (by exact yes), enterClaim_eq (by exact entry)]; rfl
      · rw [claimEffect_passes (by exact yes)]; rfl

/-! #### YIELD (R137) -/

/-- Settles O40. -/
theorem yieldRemovesTheEntry : Obligations.YieldRemovesTheEntry := by
  intro src n s old awake configured low other known
  obtain ⟨w, run⟩ := exec_share (c := .yieldReceived src n) rfl awake (configured_loaded configured)
  rw [if_pos configured, shareYield, if_neg (Nat.not_lt.mpr low), if_neg (show ¬src = (s.lineFreed w).node from other)] at run
  refine ⟨fun zero => completes_of run (if_pos zero) rfl, fun number => ?_⟩
  rw [if_neg number, seenClaim_eq known] at run
  have same : yieldEffect src n { s.lineFreed w with
      sht.clock := max s.sht.clock (min n top32)
      sht.peers := s.sht.peers.set src { old with lastClaim := some n } } =
    { s.lineFreed w with
      sht.clock := max s.sht.clock (min n top32)
      sht.peers := s.sht.peers.set src { old with lastClaim := some n }
      sht.claims := if (claimOf s src).any (·.number == n) then removeClaim src s.sht.claims else s.sht.claims
      sht.ignoredYields := if (claimOf s src).any (·.number == n) then s.sht.ignoredYields else bump16 s.sht.ignoredYields } := by
    unfold yieldEffect
    by_cases holds : (claimOf s src).any (·.number == n) = true
    · rw [if_pos (by exact holds), if_pos holds, if_pos holds]; rfl
    · rw [if_neg (by exact holds), if_neg holds, if_neg holds]; rfl
  rw [same] at run
  refine ⟨_, run, rfl, rfl, fun c found held => ?_, fun absent => ?_, rfl, ⟨rfl, rfl, rfl, rfl, rfl⟩, ⟨rfl, rfl, rfl, rfl⟩, rfl,
    rfl, rfl, rfl, rfl, rfl⟩
  · have holds : (claimOf s src).any (·.number == n) = true := by rw [found]; simpa using held
    exact ⟨(if_pos holds).trans (removeClaim_eq_filter _ _), if_pos holds⟩
  · have no : ¬(claimOf s src).any (·.number == n) = true := by
      cases found : claimOf s src with
      | none => simp
      | some c => simpa using absent c found
    exact ⟨if_neg no, if_neg no⟩

/-! ### Loss and drain timers (R127, R140) -/

theorem staleEffect_eq (p : Nat) (s : State) :
    staleEffect p s =
      { s with
        sht.claims :=
          match claimOf s p with
          | none => s.sht.claims
          | some c =>
            match c.state with
            | .queued => s.sht.claims.filter (·.station ≠ p)
            | .drawing =>
              s.sht.claims.map fun e =>
                if e.station = p then { e with state := .stale, drain := some (s.shr.drainS * 1000) } else e
            | .stale => s.sht.claims } := by
  unfold staleEffect
  cases claimOf s p with
  | none => rfl
  | some c =>
    cases state : c.state with
    | queued => simp [state, removeClaim_eq_filter]
    | drawing => simp [state, updateClaim_eq_map, seconds]
    | stale => simp [state]

/-- Settles O43. -/
theorem lossAndDrain : Obligations.LossAndDrain := by
  intro p s old awake
  refine ⟨fun other known expired => ?_, fun c found stale expired => ?_⟩
  · have run : exec (.lossTimerExpiry p) s = .next (peerMissed p s) :=
      exec_taken rfl awake (by simp [other, peerOf_eq known, expired])
    refine ⟨fun again => ?_, fun lost => ?_⟩
    · rw [run, peerMissed, lossEffect, peerOf_eq known, if_pos again, onPeer_eq known]
    · rw [run, peerMissed, lossEffect, peerOf_eq known, if_neg (Nat.not_lt.mpr lost), onPeer_eq known, staleEffect_eq]
      by_cases absent : old.presence = .absent
      · simp only [absent, if_true]; rfl
      · simp only [absent, if_false]; rfl
  · have run : exec (.drainExpiry p) s = .next (drainEnds p s) := by
      refine exec_taken rfl awake ?_
      simp [drained, found, stale, expired]
    rw [run, drainEnds, drainEffect, removeClaim_eq_filter]
    rfl

/-! ### Discarded frames (R149, R158) -/

/-- Settles O44: countDiscard has one arm for each fate. -/
theorem discardedFramesCounted : Obligations.DiscardedFramesCounted := by
  intro frame s awake loaded
  obtain ⟨w, e⟩ := lineFree_eq s
  have run : exec (.frameDiscarded frame) s = .next (discardFrame frame s) :=
    exec_taken rfl awake (by simp [linkUp, awake, loaded])
  refine completes_of run (show discardFrame frame s = countDiscard (receiveFate s.node frame) (s.lineFreed w) by rw [discardFrame, e]; rfl) ?_
  cases receiveFate s.node frame <;> rfl

end Sys2Proof.Machine

/-! A BEACON that is received (O37). -/

namespace Sys2Proof.Machine

section
variable {src : Nat} {b : BeaconBody} {s : State} {old : Peer}

theorem beaconNames_iff : beaconNames b = true ↔ b.claimPresent = true ∧ b.claimNumber ≠ 0 := by
  simp [beaconNames]

/-- The clock after a beacon: its claim's number first, then its clock field (R128). -/
theorem raiseFromBeacon_eq :
    raiseFromBeacon b s =
      { s with
        sht.clock :=
          max (if b.claimPresent = true ∧ b.claimNumber ≠ 0 then max s.sht.clock (min b.claimNumber 4294967295)
            else s.sht.clock) (min b.clock 4294967295) } := by
  by_cases named : b.claimPresent = true ∧ b.claimNumber ≠ 0
  · rw [raiseFromBeacon, if_pos (beaconNames_iff.mpr named), if_pos named]; rfl
  · rw [raiseFromBeacon, if_neg (fun names => named (beaconNames_iff.mp names)), if_neg named]; rfl

/-- Only the claim list is reconciled (R138). -/
theorem reconcile_eq : ∃ l, reconcile src b s = { s with sht.claims := l } := by
  unfold reconcile
  (repeat' split) <;> exact ⟨_, rfl⟩

theorem reconcile_others : (reconcile src b s).sht.claims.filter (·.station ≠ src) = s.sht.claims.filter (·.station ≠ src) := by
  unfold reconcile
  (repeat' split)
  · exact filter_updateClaim _ _ fun _ => rfl
  · exact filter_putClaim _ _ rfl
  · show List.filter _ (removeClaim src s.sht.claims) = _
    rw [removeClaim_eq_filter, List.filter_filter]
    simp

/-- The sender's entry, when its beacon names a claim. -/
theorem reconcile_named (names : beaconNames b = true) :
    (reconcile src b s).sht.claims.find? (·.station = src) =
      some ⟨src, b.claimNumber,
        match claimOf s src with
        | some c => if c.number = b.claimNumber ∧ c.state = .stale then c.demand else b.demand
        | none => b.demand,
        if b.drawing then .drawing else .queued, none⟩ := by
  rw [reconcile, if_pos names]
  by_cases holds : (claimOf s src).any (·.number == b.claimNumber) = true
  · obtain ⟨c, found, number⟩ : ∃ c, claimOf s src = some c ∧ c.number = b.claimNumber := by
      simpa [Option.any_eq_true] using holds
    have station : c.station = src := by simpa using List.find?_some found
    rw [if_pos holds, found]
    refine (find_updateClaim_self _ _ ?place found).trans ?_
    case place => exact fun _ => rfl
    subst station
    simp [number, stateOfFlag]
  · rw [if_neg holds]
    refine (find_putClaim_self ⟨src, b.claimNumber, b.demand, stateOfFlag b.drawing, none⟩ _ rfl).trans ?_
    cases found : claimOf s src with
    | none => rfl
    | some c =>
      have other : c.number ≠ b.claimNumber := by simpa [found] using holds
      simp [other, stateOfFlag]

theorem reconcile_unnamed (names : beaconNames b = false) : ∀ c ∈ (reconcile src b s).sht.claims, c.station ≠ src := by
  rw [reconcile, if_neg (by rw [names]; decide)]
  intro c hc
  simpa using (List.mem_filter.mp hc).2

end

/-- What a beacon of a peer makes of the share table, its claim list apart, with the claim list left to reconcile (R126). -/
theorem beaconEffect_eq {src : Nat} {b : BeaconBody} {s : State} {old : Peer} (known : s.sht.peers[src]? = some old) :
    ∃ u, (∃ l, u = { s with
        sht.claims := l
        sht.peers := s.sht.peers.set src (Peer.afterBeacon s b old)
        sht.clock := (raiseFromBeacon b s).sht.clock
        sht.discordEvents :=
          if old.presence ≠ .discordant ∧ presenceOf s b.digest = .discordant then bump16 s.sht.discordEvents
          else s.sht.discordEvents }) ∧
      beaconEffect src b s = u ∧
      u.sht.claims = (reconcile src b (raiseFromBeacon b (onPeer src (Peer.afterBeacon s b) s))).sht.claims := by
  obtain ⟨l, e⟩ := reconcile_eq (src := src) (b := b) (s := raiseFromBeacon b (onPeer src (Peer.afterBeacon s b) s))
  refine ⟨_, ⟨l, rfl⟩, ?_, (congrArg (·.sht.claims) e).symm⟩
  unfold beaconEffect
  dsimp only
  rw [e, peerOf_eq known, raiseFromBeacon_eq, raiseFromBeacon_eq, onPeer_eq known]
  by_cases turns : old.presence ≠ .discordant ∧ presenceOf s b.digest = .discordant
  · rw [if_pos turns, if_pos turns]
  · rw [if_neg turns, if_neg turns]

/-- Settles O37. -/
theorem beaconUpdatesPeer : Obligations.BeaconUpdatesPeer := by
  intro src b s old awake configured low other known named presence turns
  obtain ⟨w, run⟩ := exec_share (c := .beaconReceived src b) rfl awake (configured_loaded configured)
  rw [if_pos configured] at run
  have inRange : src < s.sht.peers.length := (List.getElem?_eq_some_iff.mp known).1
  obtain ⟨u, ⟨l, form⟩, effect, claims⟩ := beaconEffect_eq (src := src) (b := b) (s := s.lineFreed w) known
  have before : (peerOf (s.lineFreed w) src).presence = old.presence := by
    rw [peerOf_eq (s := s.lineFreed w) known]
  have after : (peerOf u src).presence = presence := by
    rw [peerOf_eq (old := Peer.afterBeacon (s.lineFreed w) b old) (by rw [form]; simp [inRange, State.lineFreed])]
    rfl
  have shares : shareBeacon src b (s.lineFreed w) = evaluateShare (if turns then discordYield u else u) := by
    unfold shareBeacon
    dsimp only
    rw [if_neg (Nat.not_lt.mpr low), if_neg (show ¬src = (s.lineFreed w).node from other), effect, before, after]
    by_cases turned : turns
    · exact (if_pos turned).trans (congrArg evaluateShare (if_pos turned).symm)
    · exact (if_neg turned).trans (congrArg evaluateShare (if_neg turned).symm)
  refine ⟨u, run.trans (congrArg _ shares), ?_, ?_, ?_, ?_, ?_, ?_, ?_⟩
  · rw [form]
    by_cases names : beaconNames b = true
    · simp only [Peer.afterBeacon, names, if_true, if_pos (show named from beaconNames_iff.mp names)]; rfl
    · simp only [Peer.afterBeacon, names, if_neg (show ¬named from fun n => names (beaconNames_iff.mpr n))]; rfl
  · rw [form, raiseFromBeacon_eq]; rfl
  · rw [claims, reconcile_others]; simp [State.lineFreed]
  · intro n
    rw [claims, reconcile_named (beaconNames_iff.mpr n), raiseFromBeacon_eq]
    rfl
  · intro n
    rw [claims]
    exact reconcile_unnamed (Bool.eq_false_iff.mpr fun names => n (beaconNames_iff.mp names))
  · rw [form]; rfl
  · rw [form]
    simp [sameBase, sameHead, outgoing, sameLink, State.lineFreed]

end Sys2Proof.Machine

/-! Share frames that are queued: what their queueing writes, the accepted image and a withdrawn claim (O17, O38). -/

namespace Sys2Proof.Machine

/-! ### What the queueing of share frames writes -/

/-- What the queueing of share frames may write: the frames handed to LKC and their medium access, and, through the report of a
frame that gave up its entry, the start of the settle window, a reset due and the end of a read transfer (R131, R156). -/
structure ShareSent (s t : State) : Prop where
  whole : t = { s with lkc := t.lkc, sht := t.sht, orq := t.orq, wrs := t.wrs }
  lkc : t.lkc =
    { s.lkc with
      queue := t.lkc.queue, slot := t.lkc.slot, wait := t.lkc.wait, queueFullDrops := t.lkc.queueFullDrops }
  sht : t.sht = { s.sht with settleTimer := t.sht.settleTimer, claimDropped := t.sht.claimDropped }
  orq : t.orq = { s.orq with restartDue := t.orq.restartDue }
  wrs : t.wrs = { s.wrs with reads := t.wrs.reads }
  unclaimed : s.ownClaim = none → t.sht = s.sht

namespace ShareSent
variable {s t u : State}

theorem refl (s : State) : ShareSent s s := ⟨rfl, rfl, rfl, rfl, rfl, fun _ => rfl⟩

theorem claims (h : ShareSent s t) : t.sht.claims = s.sht.claims := by rw [h.sht]

theorem node (h : ShareSent s t) : t.node = s.node := by rw [h.whole]

theorem ownClaim (h : ShareSent s t) : t.ownClaim = s.ownClaim := by
  unfold State.ownClaim; rw [h.claims, h.node]

theorem trans (h : ShareSent s t) (k : ShareSent t u) : ShareSent s u where
  whole := by rw [k.whole, h.whole]
  lkc := by rw [k.lkc, h.lkc]
  sht := by rw [k.sht, h.sht]
  orq := by rw [k.orq, h.orq]
  wrs := by rw [k.wrs, h.wrs]
  unclaimed none_own := (k.unclaimed (h.ownClaim.trans none_own)).trans (h.unclaimed none_own)

theorem sameBase (h : ShareSent s t) : sameBase s t := by rw [h.whole]; exact ⟨rfl, rfl, rfl, rfl, rfl⟩

theorem sameHead (h : ShareSent s t) : sameHead s t := by rw [h.whole]; exact ⟨rfl, rfl, rfl, rfl⟩

theorem wsq (h : ShareSent s t) : t.wsq = s.wsq := by rw [h.whole]

theorem stl (h : ShareSent s t) : t.stl = s.stl := by rw [h.whole]

end ShareSent

theorem armWait_sent (s : State) : ShareSent s (armWait s) := by
  obtain ⟨w, e⟩ := armWait_eq s
  rw [e]
  exact ⟨rfl, rfl, rfl, rfl, rfl, fun _ => rfl⟩

/-- The frame taken out of the queue is reported at its block. -/
theorem reportDropped_sent (p : Purpose) (s : State) : ShareSent s (reportDropped p s) := by
  cases p with
  | claim n =>
    have report : reportDropped (.claim n) s = claimDropped n s := rfl
    rw [report]
    unfold claimDropped
    split
    · next own =>
      have held : s.ownClaim ≠ none := by intro none_own; simp [ownClaimIs, none_own] at own
      unfold startSettle
      (repeat' split) <;> exact ⟨rfl, rfl, rfl, rfl, rfl, fun none_own => absurd none_own held⟩
    · exact .refl s
  | recordPart part id =>
    have report : reportDropped (.recordPart part id) s = recordReported part id s := rfl
    rw [report]
    unfold recordReported
    split <;> exact ⟨rfl, rfl, rfl, rfl, rfl, fun _ => rfl⟩
  | beacon | yield | answer | restartAnswer | readAnswer | doneNotice | notice =>
    exact ⟨rfl, rfl, rfl, rfl, rfl, fun _ => rfl⟩

theorem sendShare_sent (f : TxFrame) (s : State) : ShareSent s (sendShare f s) := by
  unfold sendShare
  split
  · exact ShareSent.trans (t := { s with lkc.queue := insertShare f s.lkc.queue }) ⟨rfl, rfl, rfl, rfl, rfl, fun _ => rfl⟩
      (armWait_sent _)
  · split
    · exact .refl s
    · exact ShareSent.trans
        (t := { s with
          lkc.queue := insertShare f (withoutVictim s.lkc.queue), lkc.queueFullDrops := bump16 s.lkc.queueFullDrops })
        ⟨rfl, rfl, rfl, rfl, rfl, fun _ => rfl⟩ (reportDropped_sent _ _)

theorem queueBeacon_sent (s : State) : ShareSent s (queueBeacon s) := by
  unfold queueBeacon
  split
  · exact ⟨rfl, rfl, rfl, rfl, rfl, fun _ => rfl⟩
  · split
    · exact ⟨rfl, rfl, rfl, rfl, rfl, fun _ => rfl⟩
    · exact sendShare_sent _ s

theorem yieldFrames_sent (n : Nat) (s : State) : ShareSent s (yieldFrames n s) :=
  (sendShare_sent _ s).trans (queueBeacon_sent _)

/-! ### A beacon in an empty queue -/

/-- With nothing else to send, the queue holds the beacon alone. -/
theorem queueBeacon_alone {s : State} (empty : s.lkc.queue = []) (free : s.lkc.slot = none) :
    (queueBeacon s).lkc.queue = [beaconFrame s] := by
  have sends : queueBeacon s = sendShare (beaconFrame s) s := by simp [queueBeacon, empty, free]
  rw [sends, sendShare_queue _ _ (.inl (by simp [empty]))]
  simp [shareQueued, empty]

/-! ### The settings image (O17) -/

/-- What an accepted image makes of a state, before the marker is settled and the first beacon queued. -/
def imageTaken (l : List Byte) (s : State) : State :=
  { s with
    settings := settingsOf l
    sht.ownDigest := digestOf l
    lkc.bitRate := bitRateOf (sharedOf l).bitRateCode
    lkc.slotBits := (sharedOf l).slotBits
    lkc.beaconTimer := some (sharedOf l).beaconMs
    wsq.loadTimer := none
    wsq.station := .listening
    wsq.listenTimer := some ((sharedOf l).lossCount * (sharedOf l).beaconMs + (sharedOf l).settleMs)
    pcu.clamp := s.pcu.clamp.or
      (s.pcu.firstPressure.map fun p => if (localOf (words l 25 33)).clampRelKn ≤ p then .closed else .open)
    pcu.firstPressure := none
    pcu.commanded := clampInt 0 ((localOf (words l 25 33)).strokeFwd * 1000) s.pcu.commanded }

theorem acceptImage_eq (l : List Byte) (s : State) : acceptImage l s = queueBeacon (settleMarker (imageTaken l s)) := by
  simp only [acceptImage, imageTaken, readsClosed, decide_eq_true_eq]
  rfl

/-- A set marker makes WRS write the INTERRUPTED record, and nothing else (R181). -/
theorem settleMarker_eq (s : State) :
    settleMarker s =
      { s with
        wrs := s.wrs.marker.elim s.wrs fun m =>
          { s.wrs with writing := some (interruptedRecord s.node m.1 m.2), writeTimer := some 50 } } := by
  unfold settleMarker
  split <;> next marked => simp [marked, startWrite]

/-- Settles O17: acceptImage hands out what the image spells, and the two ways of failing write the same fields. -/
theorem imageDecidesStart : Obligations.ImageDecidesStart := by
  intro s awake loading
  have run (image) : exec (.settingsReadComplete image) s = .next (settingsRead image s) :=
    exec_taken rfl awake (by simp [loading])
  refine ⟨fun l ok => ?_, fun image fails => ?_, fun expired => ?_⟩
  · have read : settingsRead (some l) s = queueBeacon (settleMarker (imageTaken l s)) := by
      rw [← acceptImage_eq]
      simp only [settingsRead, ok, if_true]
    refine completes_of (run _) read ?_
    obtain ⟨whole, lkc, sht, orq, wrs, -⟩ := queueBeacon_sent (settleMarker (imageTaken l s))
    have alone := queueBeacon_alone (s := settleMarker (imageTaken l s))
    rw [settleMarker_eq] at *
    generalize queueBeacon _ = t at *
    refine ⟨by rw [whole]; rfl, by rw [whole]; rfl, by rw [sht]; rfl, by rw [lkc]; rfl, by rw [lkc]; rfl, by rw [lkc]; rfl,
      fun empty free => ?_, fun p unknown first => ?_, fun n phase marked => ?_, fun unmarked => ?_, ?_, orq,
      by rw [whole]; rfl, by rw [whole]; rfl, by rw [whole]; rfl, by rw [whole]; rfl⟩
    · rw [alone empty free]; rfl
    · rw [whole]; simp [imageTaken, unknown, first]
    · rw [wrs]; simp [imageTaken, marked]
    · rw [wrs]; simp [imageTaken, unmarked]
    · rw [wrs]; cases marked : s.wrs.marker <;> simp [imageTaken, marked]
  · refine ⟨_, run image, ?_⟩
    cases image with
    | none => exact ⟨rfl, rfl, ⟨rfl, rfl, rfl, rfl⟩, rfl, rfl, rfl, rfl, rfl, fun _ => ⟨rfl, rfl⟩, nofun⟩
    | some l =>
      have rejected : settingsRead (some l) s = rejectImage l s := by
        simp only [settingsRead, fails l rfl]; rfl
      rw [rejected]
      unfold rejectImage
      split
      · next usable =>
        refine ⟨rfl, rfl, ⟨rfl, rfl, rfl, rfl⟩, rfl, rfl, rfl, rfl, rfl, fun bad => ?_, fun k same _ => ?_⟩
        · rw [bad l rfl] at usable; cases usable
        · cases same; exact ⟨rfl, rfl, rfl⟩
      · next unusable =>
        exact ⟨rfl, rfl, ⟨rfl, rfl, rfl, rfl⟩, rfl, rfl, rfl, rfl, rfl, fun _ => ⟨rfl, rfl⟩,
          fun k same usable => by cases same; exact absurd usable unusable⟩
  · exact exec_taken (effect := unconfigured) rfl awake (by simp [loading, expired])

/-! ### The own claim is withdrawn (O38) -/

/-- A queued claim is withdrawn: its entry and its timers go, and the two frames of R135 are sent. -/
theorem yieldClaim_queued {s : State} {own : Claim} (held : s.ownClaim = some own) (queued : own.state = .queued) :
    ShareSent (dropOwnClaim s) (yieldClaim s) := by
  have frames : yieldClaim s = yieldFrames own.number (dropOwnClaim s) := by simp [yieldClaim, held, queued]
  rw [frames]
  exact yieldFrames_sent _ _

/-- A drive that is not RUNNING loses nothing with the claim. -/
theorem loseRun_still {s : State} (still : s.cdr.drive ≠ .running) : loseRun s = s := by simp [loseRun, still]

theorem ownClaim_dropOwnClaim (s : State) : (dropOwnClaim s).ownClaim = none := find_removeClaim_self

/-- What is left of the share table when a queued claim has been withdrawn. -/
theorem yieldOwn_queued {s : State} {own : Claim} (held : s.ownClaim = some own) (queued : own.state = .queued)
    (still : s.cdr.drive ≠ .running) :
    ShareSent (dropOwnClaim s) (yieldOwn s) ∧ (yieldOwn s).sht = (dropOwnClaim s).sht := by
  have sent := yieldClaim_queued held queued
  have lost : yieldOwn s = yieldClaim s := loseRun_still (by rw [sent.whole]; exact still)
  rw [lost]
  exact ⟨sent, sent.unclaimed (ownClaim_dropOwnClaim s)⟩

/-- With the emergency stop released, a NOT_STARTED ending retracts to the CHECK position. -/
theorem beginEnding_eq {s : State} (runs : s.stl.stop = .run) (reason : Reason) :
    beginEnding reason s =
      { s with
        wsq.ending := some ⟨reason, true, true⟩
        pcu := { s.pcu with
          mode := .position (clampInt 0 s.loc.strokeFwd s.wsq.checkPos)
          commanded := formCommand s s.pcu.position
          moveTimer := some s.loc.moveTimeoutMs
          nearCount := 0
          forceReported := false
          contactMove := .none
          contactSense := false
          contactRun := 0
          contactFromStart := false
          touchTimer := none } } := by
  simp [beginEnding, platenPosition, platenMove, platenMode, runs, strokeClip, formCommand, commandClip, State.loc,
    State.configured]

/-- Settles O38: the withdrawal leaves the phase alone, which then ends by a retract. -/
theorem discordWithdrawsQueuedClaim : Obligations.DiscordWithdrawsQueuedClaim := by
  intro s
  refine ⟨fun own held queued phase no_abort no_ending runs still => ?_, fun none_queued => ?_⟩
  · intro t
    obtain ⟨⟨whole, -, -, -, -, -⟩, sht⟩ := yieldOwn_queued held queued still
    have may : mayAbort s = true := by simp [mayAbort, State.welding, State.aborting, endingBegun, phase, no_abort, no_ending]
    have yields : t = beginEnding .discord (yieldOwn s) := by
      simp [t, discordYield, held, queued, phase, may]
    rw [yields, beginEnding_eq (by rw [whole]; exact runs)]
    refine ⟨?_, by rw [sht]; rfl, rfl, by rw [whole]; rfl, by rw [whole]; rfl, ?_, by rw [whole]; rfl, by rw [whole]; rfl,
      by rw [whole]; rfl⟩
    · rw [sht, ← removeClaim_eq_filter]; rfl
    · rw [whole]; exact ⟨rfl, rfl, rfl, rfl, rfl⟩
  · refine if_neg ?_
    cases held : s.ownClaim with
    | none => simp
    | some own => simpa using none_queued own held

end Sys2Proof.Machine

/-! The ends of a sending, and the timers of the share table (O42, O46). -/

namespace Sys2Proof.Machine

/-! ### Reports of a sent or dropped frame (R131, R153) -/

theorem startSettle_eq (s : State) :
    startSettle s =
      { s with
        sht.settleTimer :=
          if s.sht.settleTimer.isNone && !s.sht.settleFlag then some s.shr.settleMs else s.sht.settleTimer } := by
  unfold startSettle
  split <;> rfl

/-- A settle window that is neither running nor over starts. -/
theorem startSettle_fresh {s : State} (fresh : s.sht.settleFlag = false ∧ s.sht.settleTimer = none) :
    (startSettle s).sht.settleTimer = some s.shr.settleMs := by
  rw [startSettle_eq]
  simp [fresh.1, fresh.2]

theorem claimTransmitted_own {s : State} {n : Nat} (own : ∃ c, s.ownClaim = some c ∧ c.number = n) :
    claimTransmitted n s = startSettle s := if_pos ((ownClaimIs_iff s n).mpr own)

theorem claimTransmitted_other {s : State} {n : Nat} (other : ¬∃ c, s.ownClaim = some c ∧ c.number = n) :
    claimTransmitted n s = s := if_neg fun own => other ((ownClaimIs_iff s n).mp own)

theorem beaconTransmitted_own {s : State} {n : Nat} (own : ∃ c, s.ownClaim = some c ∧ c.number = n) :
    beaconTransmitted (some n) s =
      if s.sht.claimDropped then startSettle { s with sht.beaconNamed := true } else { s with sht.beaconNamed := true } :=
  if_pos ((ownClaimIs_iff s n).mpr own)

/-- A transmission report changes the order queue and the reads of those frames alone to which it means something. -/
theorem reportTransmitted_lists (p : Purpose) (s : State) :
    (p = .restartAnswer → (reportTransmitted p s).orq = { s.orq with restartDue := true }) ∧
      (p ≠ .restartAnswer → (reportTransmitted p s).orq = s.orq) ∧
      (∀ id, p = .recordPart 2 id → (reportTransmitted p s).wrs = { s.wrs with reads := s.wrs.reads.eraseP (·.id = id) }) ∧
      ((∀ id, p ≠ .recordPart 2 id) → (reportTransmitted p s).wrs = s.wrs) := by
  cases p with
  | claim n => simp [reportTransmitted, claimTransmitted, startSettle_eq, apply_ite]
  | beacon names =>
    refine ⟨nofun, fun _ => ?_, nofun, fun _ => ?_⟩ <;>
      (simp only [reportTransmitted, beaconTransmitted, startSettle_eq]; (repeat' split) <;> rfl)
  | recordPart part id =>
    refine ⟨nofun, fun _ => ?_, fun m e => ?_, fun other => ?_⟩
    · simp only [reportTransmitted, recordReported]; split <;> rfl
    · cases e; rfl
    · have part_one : part ≠ 2 := fun e => other id (by rw [e])
      simp [reportTransmitted, recordReported, part_one]
  | yield | answer | restartAnswer | readAnswer | doneNotice | notice => simp [reportTransmitted]

theorem reportTransmitted_peers (p : Purpose) (s : State) : (reportTransmitted p s).sht.peers = s.sht.peers := by
  cases p <;> simp only [reportTransmitted, claimTransmitted, beaconTransmitted, recordReported, startSettle_eq] <;>
    ((repeat' split) <;> rfl)

theorem reportDropped_lkc (p : Purpose) (s : State) : (reportDropped p s).lkc = s.lkc := by simp

/-- Settles O46: the send slot empties, and the report is the sender's own matter. -/
theorem sendingEnds : Obligations.SendingEnds := by
  intro s f awake sending held fresh started names readEnds
  refine ⟨?_, fun again => ?_, fun jammed => ?_⟩
  · obtain ⟨w, arm⟩ := armWait_eq (reportTransmitted f.purpose (emptySlot s))
    have sent : frameSent s = { reportTransmitted f.purpose (emptySlot s) with lkc.wait := w } := by
      simp only [frameSent, held, arm]
    obtain ⟨due, undue, part2, other⟩ := reportTransmitted_lists f.purpose (emptySlot s)
    refine completes_of (exec_taken (effect := frameSent) rfl awake sending) sent
      ⟨by simp [emptySlot], by simp [sameBase, emptySlot], by simp [sameHead, emptySlot], by simp [emptySlot],
        by simp [emptySlot], by simp [emptySlot], reportTransmitted_peers _ _, fun n claim own => ?_, fun n claim none_own => ?_,
        fun n beacon own => ?_, due, undue, part2, other⟩
    · rw [claim]
      show fresh → (claimTransmitted n (emptySlot s)).sht.settleTimer = some s.shr.settleMs
      rw [claimTransmitted_own (by exact own)]
      exact fun fresh => startSettle_fresh (s := emptySlot s) fresh
    · rw [claim]
      exact congrArg (·.sht) (claimTransmitted_other (s := emptySlot s) (by exact none_own))
    · have reported : reportTransmitted f.purpose (emptySlot s) =
          if s.sht.claimDropped then startSettle { emptySlot s with sht.beaconNamed := true }
          else { emptySlot s with sht.beaconNamed := true } := by
        rw [beacon]; exact beaconTransmitted_own (by exact own)
      rw [reported]
      refine ⟨?_, fun dropped => ?_, fun kept => ?_⟩
      · split
        · rw [startSettle_eq]
        · rfl
      · rw [if_pos dropped]
        exact fun fresh => startSettle_fresh (s := { emptySlot s with sht.beaconNamed := true }) fresh
      · rw [if_neg (by simp [kept])]; rfl
  · rw [exec_taken (effect := sendingCollides) rfl awake sending, sendingCollides, if_pos (by unfold jamLimit; omega)]
    rfl
  · have dropped : sendingCollides s =
        reportDropped f.purpose { emptySlot (collided s) with lkc.jammedDrops := bump16 s.lkc.jammedDrops } := by
      rw [sendingCollides, if_neg (by unfold jamLimit; omega), dropJammed, show (collided s).lkc.slot = some f from held]
      rfl
    have reports := reportDropped_reports f.purpose { emptySlot (collided s) with lkc.jammedDrops := bump16 s.lkc.jammedDrops }
    obtain ⟨own, unowned, orq, part2, other⟩ := reports
    refine completes_of (exec_taken (effect := sendingCollides) rfl awake sending) dropped
      ⟨?_, by simp [sameBase, emptySlot, collided], by simp [sameHead, emptySlot, collided], by simp [emptySlot, collided],
        by simp [emptySlot, collided], fun due => orq.trans (if_pos due), fun undue => orq.trans (if_neg undue),
        ⟨part2, other⟩, by simp [emptySlot, collided], fun n claim names => ?_, unowned⟩
    · rw [reportDropped_lkc]; rfl
    · obtain ⟨named, unnamed⟩ := own n claim names
      exact ⟨fun b fresh => by rw [named b, if_pos (by exact fresh)]; rfl, unnamed⟩

/-! ### A share frame enters the queue (R154, R156) -/

theorem sendShare_room {f : TxFrame} {s : State} (room : s.lkc.queue.length < 6) :
    ∃ w, sendShare f s = { s with lkc.queue := insertShare f s.lkc.queue, lkc.wait := w } := by
  obtain ⟨w, arm⟩ := armWait_eq { s with lkc.queue := insertShare f s.lkc.queue }
  exact ⟨w, (if_pos room).trans arm⟩

theorem sendShare_full {f v : TxFrame} {s : State} (full : s.lkc.queue.length = 6) (gives : victim s.lkc.queue = some v) :
    sendShare f s =
      reportDropped v.purpose
        { s with
          lkc.queue := insertShare f (withoutVictim s.lkc.queue)
          lkc.queueFullDrops := bump16 s.lkc.queueFullDrops } := by
  rw [sendShare, if_neg (by rw [full]; decide), gives]

theorem sendShare_reports {f v : TxFrame} {s : State} (full : s.lkc.queue.length = 6) (gives : victim s.lkc.queue = some v) :
    (sendShare f s).lkc.queue = insertShare f (withoutVictim s.lkc.queue) ∧
      (sendShare f s).lkc.queueFullDrops = bump16 s.lkc.queueFullDrops ∧ dropReported s (sendShare f s) v.purpose := by
  rw [sendShare_full full gives, reportDropped_lkc]
  exact ⟨rfl, rfl, reportDropped_reports v.purpose
    { s with
      lkc.queue := insertShare f (withoutVictim s.lkc.queue), lkc.queueFullDrops := bump16 s.lkc.queueFullDrops }⟩

theorem sendShare_lkc (f : TxFrame) (s : State) :
    (sendShare f s).lkc.slot = s.lkc.slot ∧ (sendShare f s).lkc.waiters = s.lkc.waiters := by
  unfold sendShare
  split
  · obtain ⟨w, arm⟩ := armWait_eq { s with lkc.queue := insertShare f s.lkc.queue }
    rw [arm]; exact ⟨rfl, rfl⟩
  · split
    · exact ⟨rfl, rfl⟩
    · simp

/-- A non-share frame at the end of a full queue gives up its entry. -/
theorem victim_last {q : List TxFrame} {v : TxFrame} (other : v.kind.isShare = false) :
    victim (q ++ [v]) = some v ∧ withoutVictim (q ++ [v]) = q := by
  simp [victim, withoutVictim, other]

theorem claimOrYield_iff (f : TxFrame) : claimOrYield f = true ↔ f.kind = .claim ∨ f.kind = .yield := by
  simp [claimOrYield]

/-- Of share frames alone, the oldest CLAIM or YIELD gives up its entry. -/
theorem victim_claimOrYield {a b : List TxFrame} {v : TxFrame} (all : ∀ f ∈ a ++ v :: b, f.kind.isShare = true)
    (kind : v.kind = .claim ∨ v.kind = .yield) (oldest : ∀ f ∈ a, f.kind ≠ .claim ∧ f.kind ≠ .yield) :
    victim (a ++ v :: b) = some v ∧ withoutVictim (a ++ v :: b) = a ++ b := by
  have shares : (a ++ v :: b).all (·.kind.isShare) = true := List.all_eq_true.mpr all
  have taken : claimOrYield v = true := (claimOrYield_iff v).mpr kind
  have passed : ∀ f ∈ a, ¬claimOrYield f = true := fun f hf => by
    rw [claimOrYield_iff]; exact not_or.mpr (oldest f hf)
  constructor
  · rw [victim, if_pos shares, List.find?_append, List.find?_eq_none.mpr passed]
    simp [taken]
  · rw [withoutVictim, if_pos shares, List.eraseP_append_right _ passed]
    simp [taken]

/-- Behind share frames alone, a share frame is the last. -/
theorem insertShare_last {q : List TxFrame} (f : TxFrame) (all : ∀ g ∈ q, g.kind.isShare = true) :
    insertShare f q = q ++ [f] := by
  have none_left : q.dropWhile (·.kind.isShare) = [] := by
    rw [← List.append_nil q, List.dropWhile_append_of_pos all]; rfl
  have taken : q.takeWhile (·.kind.isShare) ++ q.dropWhile (·.kind.isShare) = q := List.takeWhile_append_dropWhile
  rw [none_left, List.append_nil] at taken
  rw [insertShare, taken, none_left]

/-! ### The beacon's three places (R155) -/

section
variable {s : State}

theorem queueBeacon_replaces (waits : ∃ f ∈ s.lkc.queue, f.kind = .beacon) :
    queueBeacon s = { s with lkc.queue := s.lkc.queue.map fun f => if f.kind = .beacon then beaconFrame s else f } := by
  have any : s.lkc.queue.any isBeacon = true := by simpa [isBeacon] using waits
  rw [queueBeacon, if_pos any]
  simp [isBeacon]

theorem queueBeacon_slot {f : TxFrame} (none_waits : ∀ f ∈ s.lkc.queue, f.kind ≠ .beacon) (held : s.lkc.slot = some f)
    (beacon : f.kind = .beacon) (still : s.lkc.sending = false) :
    queueBeacon s = { s with lkc.slot := some (beaconFrame s) } := by
  rw [queueBeacon, if_neg (by simpa [isBeacon] using none_waits), if_pos (by simp [held, isBeacon, beacon, still])]

theorem queueBeacon_sends (none_waits : ∀ f ∈ s.lkc.queue, f.kind ≠ .beacon)
    (busy : s.lkc.sending = true ∨ ∀ f, s.lkc.slot = some f → f.kind ≠ .beacon) :
    queueBeacon s = sendShare (beaconFrame s) s := by
  rw [queueBeacon, if_neg (by simpa [isBeacon] using none_waits), if_neg]
  obtain sends | other := busy
  · simp [sends]
  · cases held : s.lkc.slot with
    | none => simp
    | some f => simp [isBeacon, other f held]

end

theorem queueBeacon_peers (s : State) : (queueBeacon s).sht.peers = s.sht.peers := by rw [(queueBeacon_sent s).sht]

/-- Settles O42. -/
theorem shareTimersExpire : Obligations.ShareTimersExpire := by
  intro s awake beacon dropped
  refine ⟨fun expired => ?_, fun expired => ?_, fun own expired held queued phase no_abort no_ending runs still => ?_⟩
  · have run : exec .beaconTimerExpiry s = .next (beaconDue s) := exec_taken rfl awake expired
    have sent := queueBeacon_sent { s with lkc.beaconTimer := some s.shr.beaconMs }
    refine ⟨_, run, ?_, fun waits => ?_, fun none_waits => ⟨fun f held kind still => ?_, fun busy => ?_⟩, ?_⟩
    · rw [beaconDue, sent.lkc]
    · rw [beaconDue, queueBeacon_replaces (by exact waits)]; rfl
    · rw [beaconDue, queueBeacon_slot (by exact none_waits) (by exact held) kind (by exact still)]; rfl
    · have sends : beaconDue s = sendShare beacon { s with lkc.beaconTimer := some s.shr.beaconMs } :=
        queueBeacon_sends (by exact none_waits) (by exact busy)
      obtain ⟨slot, waiters⟩ := sendShare_lkc beacon { s with lkc.beaconTimer := some s.shr.beaconMs }
      rw [sends]
      refine ⟨slot, waiters, fun room => ?_, fun q v full last other => ?_, fun a v b full split all kind oldest => ?_⟩
      · obtain ⟨w, e⟩ := sendShare_room (f := beacon) (s := { s with lkc.beaconTimer := some s.shr.beaconMs }) room
        rw [e]; exact ⟨rfl, rfl, rfl, rfl⟩
      · obtain ⟨gives, left⟩ := victim_last (q := q) other
        rw [← last] at gives left
        obtain ⟨queue, drops, reports⟩ := sendShare_reports (f := beacon)
          (s := { s with lkc.beaconTimer := some s.shr.beaconMs }) full gives
        refine ⟨queue.trans ?_, drops, reports⟩
        show insertShare beacon (withoutVictim s.lkc.queue) = _
        rw [left]; rfl
      · rw [split] at all
        obtain ⟨gives, left⟩ := victim_claimOrYield all kind oldest
        rw [← split] at gives left
        obtain ⟨queue, drops, reports⟩ := sendShare_reports (f := beacon)
          (s := { s with lkc.beaconTimer := some s.shr.beaconMs }) full gives
        refine ⟨queue.trans ?_, drops, reports⟩
        show insertShare beacon (withoutVictim s.lkc.queue) = _
        rw [left, insertShare_last _ fun g hg => all g ((List.mem_append.mp hg).elim (List.mem_append_left _) fun later =>
          List.mem_append_right _ (List.mem_cons_of_mem _ later))]
    · have base := sent.sameBase
      have head := sent.sameHead
      exact ⟨base, head, sent.wsq, sent.stl, sent.claims, queueBeacon_peers _, by rw [beaconDue, sent.sht]⟩
  · exact exec_taken (effect := settleEnds) rfl awake expired
  · obtain ⟨⟨whole, -, -, -, wrs, -⟩, sht⟩ := yieldOwn_queued held queued still
    have may : mayAbort s = true := by simp [mayAbort, State.welding, State.aborting, endingBegun, phase, no_abort, no_ending]
    have ends : claimWaitEnds s =
        beginEnding .claimTimeout { yieldOwn s with sht.claimTimeouts := bump16 (yieldOwn s).sht.claimTimeouts } := by
      have kept : (yieldOwn s).wsq = s.wsq := by rw [whole]; rfl
      refine if_pos ⟨?_, ?_⟩
      · show (yieldOwn s).wsq.phase = _
        rw [kept, phase]
      · show mayAbort (yieldOwn s) = true
        rw [← may]; simp only [mayAbort, State.welding, State.aborting, endingBegun, kept]
    refine completes_of (exec_taken (effect := claimWaitEnds) rfl awake (by simp [expired, held, queued])) ends ?_
    rw [beginEnding_eq (by rw [whole]; exact runs)]
    have base := ShareSent.sameBase (yieldOwn_queued held queued still).1
    exact ⟨(congrArg (·.claims) sht).trans (removeClaim_eq_filter _ _), congrArg (·.claimWait) sht,
      congrArg (·.settleTimer) sht, congrArg (fun x => bump16 x.claimTimeouts) sht, congrArg (·.peers) sht,
      congrArg (·.clock) sht, rfl, congrArg (fun u => PlatenMode.position (clampInt 0 u.loc.strokeFwd u.wsq.checkPos)) whole,
      congrArg (fun u => some u.loc.moveTimeoutMs) whole, base, congrArg (·.cdr) whole, congrArg (·.tru) whole,
      congrArg (·.flash) whole, congrArg (·.stl) whole, wrs⟩

end Sys2Proof.Machine

/-! What the end of current, the withdrawal of the own claim and the abort path of a current phase write (R52, R54, R119,
R135): one relation, kept by each operation of theirs. -/

namespace Sys2Proof.Machine

/-! ### The cycle in progress (R69, R70) -/

/-- Energies and times of a drive that goes on as it was, or is cut. -/
def EnergyKept (c d : Cdr) : Prop :=
  d.energy = c.energy ∧ d.tally = c.tally ∧ d.partEnergy = c.partEnergy ∧ d.partMs = c.partMs ∧ d.runMs = c.runMs ∧
    (d.drive = .running → c.drive = .running ∧ d.mode = c.mode ∧ d.sums = c.sums ∧ d.carrierHz = c.carrierHz)

/-- Nothing of the cycle in progress is lost: it is not yet added, or has been added where RUNNING ended. -/
def CycleAccounted (c d : Cdr) : Prop :=
  EnergyKept c d ∨ (c.drive = .running ∧ d.drive ≠ .running ∧ cycleAdded c d c.sums)

theorem CycleAccounted.refl (c : Cdr) : CycleAccounted c c :=
  .inl ⟨rfl, rfl, rfl, rfl, rfl, fun runs => ⟨runs, rfl, rfl, rfl⟩⟩

theorem EnergyKept.trans {c d e : Cdr} (h : EnergyKept c d) (k : EnergyKept d e) : EnergyKept c e := by
  obtain ⟨h1, h2, h3, h4, h5, h6⟩ := h
  obtain ⟨k1, k2, k3, k4, k5, k6⟩ := k
  refine ⟨k1.trans h1, k2.trans h2, k3.trans h3, k4.trans h4, k5.trans h5, fun runs => ?_⟩
  obtain ⟨runs', mode, sums, hz⟩ := k6 runs
  obtain ⟨runs'', mode', sums', hz'⟩ := h6 runs'
  exact ⟨runs'', mode.trans mode', sums.trans sums', hz.trans hz'⟩

theorem CycleAccounted.trans {c d e : Cdr} (h : CycleAccounted c d) (k : CycleAccounted d e) : CycleAccounted c e := by
  obtain kept | ⟨ran, cut, added⟩ := h
  · obtain kept' | ⟨ran, cut, added⟩ := k
    · exact .inl (kept.trans kept')
    · obtain ⟨energy, tally, part, ms, run, same⟩ := kept
      obtain ⟨ran', mode, sums, hz⟩ := same ran
      have sameEnergy : energyAdded d d.sums = energyAdded c c.sums := by
        simp [energyAdded, energy, part, mode, sums, hz]
      have sameTime : timeAdded d = timeAdded c := by simp [timeAdded, tally, ms, run, mode]
      obtain ⟨e1, e2, rest⟩ := added
      exact .inr ⟨ran', cut, e1.trans sameEnergy, e2.trans sameTime, rest⟩
  · obtain ⟨energy, tally, part, ms, run, same⟩ | ⟨ran', -, -⟩ := k
    · obtain ⟨d1, d2, d3, d4, d5⟩ := added
      exact .inr ⟨ran, fun runs => cut (same runs).1, energy.trans d1, tally.trans d2, part.trans d3, ms.trans d4, run.trans d5⟩
    · exact absurd ran' cut

/-- RUNNING ends with the cycle in progress added. -/
theorem cutRunning_added (s : State) : cycleAdded s.cdr (cutRunning s).cdr s.cdr.sums := by
  unfold cycleAdded energyAdded timeAdded
  cases mode : s.cdr.mode <;>
    simp [cutRunning, creditEnergy, divideCycle, mode, PerMode.update, PerMode.zip, energyTop, Int.add_assoc, Nat.add_assoc]

/-- Carrier timing is stopped: the drive is BLOCKED with mode OFF, and no OFF waits (R52, R53). -/
def Cdr.isOff (c : Cdr) : Prop :=
  c.drive = .blocked ∧ c.mode = .off ∧ c.offPending = false ∧ c.half = .positive ∧ c.pulse = .none

/-- What the ends of a run leave of CDR. -/
structure CdrPath (c d : Cdr) : Prop where
  form : d =
    { c with
      energy := d.energy, tally := d.tally, partEnergy := d.partEnergy, partMs := d.partMs, runMs := d.runMs
      sums := d.sums, drive := d.drive, pulse := d.pulse, lockout := d.lockout, whole := d.whole, mode := d.mode
      half := d.half, offPending := d.offPending }
  pulse : c.pulse = .none → d.pulse = .none
  cycle : CycleAccounted c d
  off : c.isOff → d.isOff
  waits : c.offPending = true → c.drive = .running → (d.offPending = true ∧ d.drive = .running) ∨ d.isOff

theorem CdrPath.refl (c : Cdr) : CdrPath c c := ⟨rfl, id, .refl c, id, fun waits runs => .inl ⟨waits, runs⟩⟩

theorem CdrPath.trans {c d e : Cdr} (h : CdrPath c d) (k : CdrPath d e) : CdrPath c e where
  form := by rw [k.form, h.form]
  pulse none_yet := k.pulse (h.pulse none_yet)
  cycle := h.cycle.trans k.cycle
  off stopped := k.off (h.off stopped)
  waits pending runs := by
    obtain ⟨pending', runs'⟩ | stopped := h.waits pending runs
    · exact k.waits pending' runs'
    · exact .inr (k.off stopped)

/-- A drive that is BLOCKED, its cycle in progress having been added before. -/
theorem CdrPath.blocked {c d : Cdr}
    (form : d =
      { c with
        energy := d.energy, tally := d.tally, partEnergy := d.partEnergy, partMs := d.partMs, runMs := d.runMs
        sums := d.sums, drive := d.drive, pulse := d.pulse, lockout := d.lockout, whole := d.whole, mode := d.mode
        half := d.half, offPending := d.offPending })
    (cycle : CycleAccounted c d) (off : d.isOff) : CdrPath c d :=
  ⟨form, fun _ => off.2.2.2.2, cycle, fun _ => off, fun _ _ => .inr off⟩

/-! ### The relation -/

/-- Cause and phase of the abort path under way. -/
def State.abortOf (s : State) : Option (FaultCode × WeldPhase) := s.wsq.abort.map fun a => (a.cause, a.phase)

/-- No operation of the path ends or resumes a pause that stands like this: none is in force, or one whose timer has not run
out. -/
def Stl.stays (x : Stl) : Prop := x.pause ≠ .resuming ∧ (x.pause = .paused → x.lostReported = false)

theorem stays_of_unpaused {s : State} (unpaused : s.paused = false) : s.stl.stays := by
  constructor
  · intro resumes; simp [State.paused, resumes] at unpaused
  · intro paused; simp [State.paused, paused] at unpaused

/-- What every end of a weld or of current leaves: the base, and what it may make of the drive and of a pause. -/
structure DriveWork (s t : State) : Prop where
  base : sameBase s t := by simp [sameBase]
  cdr : CdrPath s.cdr t.cdr := by simp [CdrPath.refl]
  stl : s.stl.stays → t.stl = s.stl := by simp
  stop : t.stl.stop = s.stl.stop := by simp
  pause : s.stl.pause ≠ .resuming → t.stl.pause ≠ .resuming := by simp

namespace DriveWork
variable {s t u : State}

theorem refl (s : State) : DriveWork s s := {}

theorem trans (h : DriveWork s t) (k : DriveWork t u) : DriveWork s u where
  base := by
    obtain ⟨h1, h2, h3, h4, h5⟩ := h.base
    obtain ⟨k1, k2, k3, k4, k5⟩ := k.base
    exact ⟨k1.trans h1, k2.trans h2, k3.trans h3, k4.trans h4, k5.trans h5⟩
  cdr := h.cdr.trans k.cdr
  stl stays := (k.stl (by rwa [h.stl stays])).trans (h.stl stays)
  stop := k.stop.trans h.stop
  pause runs := k.pause (h.pause runs)

theorem node (h : DriveWork s t) : t.node = s.node := h.base.2.1

end DriveWork

/-- What the end of current, a withdrawal and the abort path of a current phase leave as it was, or may write. -/
structure PathWork (s t : State) : Prop extends DriveWork s t where
  cause : t.abortOf = s.abortOf := by simp [State.abortOf]
  wsq : t.wsq =
    { s.wsq with
      phase := t.wsq.phase, abort := t.wsq.abort, active := t.wsq.active, inForce := t.wsq.inForce
      switchPending := t.wsq.switchPending, upsetMark := t.wsq.upsetMark } := by simp
  unclosed : s.wsq.barred = false ∨ s.motionHeld = true →
    t.wsq = { s.wsq with abort := t.wsq.abort, upsetMark := t.wsq.upsetMark } ∧
      t.wrs = { s.wrs with reads := t.wrs.reads } := by simp
  flash : s.aborting = true → t.flash = s.flash := by simp
  pcu : t.pcu =
    { s.pcu with
      mode := t.pcu.mode, commanded := t.pcu.commanded, moveTimer := t.pcu.moveTimer, nearCount := t.pcu.nearCount
      forceReported := t.pcu.forceReported, contactMove := t.pcu.contactMove, contactSense := t.pcu.contactSense
      contactRun := t.pcu.contactRun, contactFromStart := t.pcu.contactFromStart, touchTimer := t.pcu.touchTimer } := by simp
  sense : s.pcu.contactSense = false → t.pcu.contactSense = false := by simp
  still : s.motionHeld = true → t.pcu = s.pcu := by simp
  tru : t.tru = s.tru := by simp
  sht : t.sht =
    { s.sht with
      claims := t.sht.claims, settleFlag := t.sht.settleFlag, settleTimer := t.sht.settleTimer
      claimDropped := t.sht.claimDropped, beaconNamed := t.sht.beaconNamed, claimWait := t.sht.claimWait
      oversubscribed := t.sht.oversubscribed } := by simp
  claims : t.sht.claims = s.sht.claims ∨ t.sht.claims = removeClaim s.node s.sht.claims := by simp
  lkc : t.lkc =
    { s.lkc with
      queue := t.lkc.queue, slot := t.lkc.slot, wait := t.lkc.wait, queueFullDrops := t.lkc.queueFullDrops } := by simp
  orq : t.orq = { s.orq with restartDue := t.orq.restartDue } := by simp
  store : t.wrs.slots = s.wrs.slots ∧ t.wrs.counter = s.wrs.counter := by simp
  faults : t.wrs.working.map (fun w => (w.record.faults, w.quality)) =
    s.wrs.working.map fun w => (w.record.faults, w.quality) := by simp

namespace PathWork
variable {s t u : State}

theorem refl (s : State) : PathWork s s := {}

theorem aborting (h : PathWork s t) : t.aborting = s.aborting := by
  have isSome := congrArg Option.isSome h.cause
  simpa [State.abortOf, State.aborting] using isSome

theorem station (h : PathWork s t) : t.wsq.station = s.wsq.station := by rw [h.wsq]

theorem motionHeld (h : PathWork s t) : t.motionHeld = s.motionHeld := by simp [State.motionHeld, h.station]

theorem barred (h : PathWork s t) : t.wsq.barred = s.wsq.barred := by rw [h.wsq]

theorem removeClaim_twice (n : Nat) (l : List Claim) : removeClaim n (removeClaim n l) = removeClaim n l := by
  simp [removeClaim]

theorem trans (h : PathWork s t) (k : PathWork t u) : PathWork s u where
  toDriveWork := h.toDriveWork.trans k.toDriveWork
  cause := k.cause.trans h.cause
  wsq := by rw [k.wsq, h.wsq]
  unclosed free := by
    obtain ⟨wsq, wrs⟩ := h.unclosed free
    obtain ⟨wsq', wrs'⟩ := k.unclosed (by rwa [h.barred, h.motionHeld])
    exact ⟨by rw [wsq', wsq], by rw [wrs', wrs]⟩
  flash aborts := (k.flash (h.aborting.trans aborts)).trans (h.flash aborts)
  pcu := by rw [k.pcu, h.pcu]
  sense off := k.sense (h.sense off)
  still held := (k.still (h.motionHeld.trans held)).trans (h.still held)
  tru := k.tru.trans h.tru
  sht := by rw [k.sht, h.sht]
  claims := by
    have same := h.node
    obtain kept | gone := h.claims <;> obtain kept' | gone' := k.claims
    · exact .inl (kept'.trans kept)
    · exact .inr (by rw [gone', kept, same])
    · exact .inr (kept'.trans gone)
    · exact .inr (by rw [gone', gone, same, removeClaim_twice])
  lkc := by rw [k.lkc, h.lkc]
  orq := by rw [k.orq, h.orq]
  store := ⟨k.store.1.trans h.store.1, k.store.2.trans h.store.2⟩
  faults := k.faults.trans h.faults

end PathWork

/-! ### The operations -/

theorem setStep_path (step : AbortStep) (s : State) : PathWork s (setStep step s) where
  cause := by simp [State.abortOf, setStep, Function.comp_def]
  wsq := rfl
  unclosed _ := ⟨rfl, rfl⟩

/-- A platen request of a station whose motion is not held. -/
theorem platenMode_path (m : PlatenMode) {s : State} (free : s.motionHeld = false) : PathWork s (platenMode m s) where
  pcu := rfl
  sense _ := rfl
  still held := by simp [free] at held

theorem platenMove_path (m : PlatenMode) {s : State} (free : s.motionHeld = false) : PathWork s (platenMove m s) := by
  unfold platenMove
  split
  · exact { pcu := rfl, sense := fun _ => rfl, still := fun held => by simp [free] at held }
  · exact platenMode_path m free

theorem platenRetract_path (d : Nat) {s : State} (free : s.motionHeld = false) : PathWork s (platenRetract d s) :=
  platenMove_path _ free

/-- What the entry of a phase writes (R19, R24). -/
theorem enterPhase_eq (p : WeldPhase) (s : State) :
    enterPhase p s =
      { s with
        wsq := { s.wsq with
          phase := some p
          inForce := if s.wsq.switchPending then s.wsq.pendingSet else s.wsq.inForce
          switchPending := false
          active := formActive s.sched (if s.wsq.switchPending then s.wsq.pendingSet else s.wsq.inForce) s.wsq.active p }
        wrs := { s.wrs with
          marker := if s.wsq.weldNo.isSome then s.wrs.marker.map fun m => (m.1, p) else s.wrs.marker } } := by
  unfold enterPhase switchSets rewriteMarker
  cases pending : s.wsq.switchPending <;> cases number : s.wsq.weldNo.isSome <;>
    simp [pending, number] <;> rw [← pending]

theorem enterClosing_path {s : State} (barred : s.wsq.barred = true) (free : s.motionHeld = false) :
    PathWork s (enterClosing s) := by
  have written : ∃ w, enterClosing s = { enterPhase .closing s with wrs := w } ∧ w.slots = s.wrs.slots ∧
      w.counter = s.wrs.counter ∧
      w.working.map (fun w => (w.record.faults, w.quality)) =
        s.wrs.working.map fun w => (w.record.faults, w.quality) := by
    unfold enterClosing startWrite
    dsimp only
    split
    · exact ⟨(enterPhase .closing s).wrs, rfl, by rw [enterPhase_eq], by rw [enterPhase_eq], by rw [enterPhase_eq]⟩
    · next w opened =>
      have opened' : s.wrs.working = some w := by rw [enterPhase_eq] at opened; exact opened
      exact ⟨_, rfl, by rw [enterPhase_eq], by rw [enterPhase_eq], by rw [opened']; rfl⟩
  obtain ⟨w, e, slots, counter, faults⟩ := written
  rw [e, enterPhase_eq]
  exact {
    wsq := rfl
    unclosed := fun h => by simp [barred, free] at h
    store := ⟨slots, counter⟩
    faults := faults }

theorem beginRetract_path (s : State) : PathWork s (beginRetract s) := by
  unfold beginRetract
  split
  · exact setStep_path _ s
  · next free =>
    have free' : s.motionHeld = false := by simpa using free
    split
    · next barred =>
      exact (setStep_path _ s).trans (enterClosing_path (by exact barred) (by exact free'))
    · exact (setStep_path _ s).trans (platenRetract_path _ (by exact free'))

theorem dropOwnClaim_path (s : State) : PathWork s (dropOwnClaim s) where
  sht := rfl
  claims := .inr rfl

theorem ShareSent.path {s t : State} (h : ShareSent s t) : PathWork s t where
  base := h.sameBase
  cause := by simp [State.abortOf, h.wsq]
  wsq := by rw [h.wsq]
  unclosed _ := ⟨by rw [h.wsq], h.wrs⟩
  flash _ := h.sameHead.1
  stl _ := h.stl
  stop := by rw [h.stl]
  pause runs := by rwa [h.stl]
  pcu := by rw [h.sameHead.2.2.1]
  sense off := by rw [h.sameHead.2.2.1, off]
  still _ := h.sameHead.2.2.1
  tru := h.sameHead.2.2.2
  sht := by rw [h.sht]
  claims := .inl h.claims
  lkc := h.lkc
  orq := h.orq
  store := by rw [h.wrs]; exact ⟨rfl, rfl⟩
  faults := by rw [h.wrs]
  cdr := by rw [h.sameHead.2.1]; exact .refl _

/-- The resume event draws the platen back only from a HELD feed of a weld that is neither held nor aborted (R91). -/
theorem flashResume_path (s : State) : PathWork s (flashResume s) := by
  unfold flashResume
  split
  · next resumes =>
    obtain ⟨_, going, free⟩ := resumes
    have moved := platenRetract_path s.sched.retractStep free
    refine moved.trans { pcu := rfl, flash := fun aborts => ?_ }
    rw [moved.aborting, going] at aborts
    cases aborts
  · exact .refl s

/-- An end of the pause that cannot be in force. -/
theorem endedPause_path {s : State} (x : Stl) (stop : x.stop = s.stl.stop) (ended : x.pause ≠ .resuming)
    (ends : ¬s.stl.stays) : PathWork s (flashResume { s with stl := x }) :=
  PathWork.trans (t := { s with stl := x })
    { stl := fun stays => absurd stays ends, stop := stop, pause := fun _ => ended } (flashResume_path _)

theorem drawingEnded_path (s : State) : PathWork s (drawingEnded s) := by
  unfold drawingEnded
  split
  · next lost =>
    refine endedPause_path _ rfl (by dsimp only; split <;> decide) fun ⟨other, early⟩ => ?_
    obtain ⟨paused, lost⟩ := (Bool.and_eq_true _ _).mp lost
    rw [early (by simpa [State.paused, other] using paused)] at lost
    cases lost
  · exact .refl s

theorem timingStopped_path (s : State) : PathWork s (timingStopped s) := by
  unfold timingStopped
  split
  · next resumes => exact endedPause_path _ rfl (show PauseState.normal ≠ .resuming by decide) fun stays => stays.1 resumes
  · exact .refl s

theorem yieldClaim_path (s : State) : PathWork s (yieldClaim s) := by
  unfold yieldClaim
  split
  · exact .refl s
  · next own _ =>
    have frames := (dropOwnClaim_path s).trans (yieldFrames_sent own.number _).path
    dsimp only
    split
    · exact frames.trans (drawingEnded_path _)
    · exact frames

theorem contactStepEnds_path (s : State) : PathWork s (contactStepEnds s) := by
  unfold contactStepEnds
  split
  · next ends =>
    obtain ⟨_, going, free⟩ := ends
    have moved := platenRetract_path s.sched.preOpenDist free
    refine moved.trans { pcu := rfl, flash := fun aborts => ?_ }
    rw [moved.aborting, going] at aborts
    cases aborts
  · exact .refl s

theorem abortStepEnds_path (s : State) : PathWork s (abortStepEnds s) := by
  unfold abortStepEnds
  split
  · exact (yieldClaim_path s).trans (beginRetract_path _)
  · exact .refl s

theorem driveOffReport_path (s : State) : PathWork s (driveOffReport s) :=
  (contactStepEnds_path s).trans (abortStepEnds_path _)

/-- RUNNING ends while no OFF waits. -/
theorem cutRunning_path {s : State} (ran : s.cdr.drive = .running) (stays : s.cdr.offPending = false) :
    PathWork s (cutRunning s) where
  cdr :=
    { form := rfl
      pulse := fun _ => rfl
      cycle := .inr ⟨ran, nofun, cutRunning_added s⟩
      off := fun off => by rw [off.1] at ran; cases ran
      waits := fun pending => by rw [stays] at pending; cases pending }

theorem blockDrive_isOff (s : State) : (blockDrive s).cdr.isOff := by
  unfold blockDrive
  exact ⟨rfl, rfl, rfl, rfl, rfl⟩

theorem blockDrive_ran {s : State} (ran : s.cdr.drive = .running) : blockDrive s = blockDrive (cutRunning s) := by
  simp [blockDrive, ran]

theorem blockDrive_path (s : State) : PathWork s (blockDrive s) := by
  unfold blockDrive
  dsimp only
  split
  · next ran => exact { cdr := .blocked rfl (.inr ⟨ran, nofun, cutRunning_added s⟩) ⟨rfl, rfl, rfl, rfl, rfl⟩ }
  · exact { cdr := .blocked rfl (.inl ⟨rfl, rfl, rfl, rfl, rfl, nofun⟩) ⟨rfl, rfl, rfl, rfl, rfl⟩ }

theorem driveOff_path (s : State) : PathWork s (driveOff s) :=
  ((blockDrive_path s).trans (timingStopped_path _)).trans (driveOffReport_path _)

theorem immediateOff_path (s : State) : PathWork s (immediateOff s) := driveOff_path s

theorem normalOff_path (s : State) : PathWork s (normalOff s) := by
  unfold normalOff
  split
  · next runs =>
    exact {
      cdr :=
        { form := rfl
          pulse := id
          cycle := .inl ⟨rfl, rfl, rfl, rfl, rfl, fun runs => ⟨runs, rfl, rfl, rfl⟩⟩
          off := fun off => by rw [off.1] at runs; cases runs
          waits := fun _ runs => .inl ⟨rfl, runs⟩ } }
  · exact driveOff_path s
  · split
    · exact .refl s
    · exact driveOffReport_path s

theorem loseRun_path (s : State) : PathWork s (loseRun s) := by
  unfold loseRun
  split
  · next lost =>
    dsimp only
    split
    · have blocked := blockDrive_path s
      rw [blockDrive_ran lost.1] at blocked
      exact (blocked.trans (timingStopped_path _)).trans (driveOffReport_path _)
    · next stays => exact cutRunning_path lost.1 (by simpa using stays)
  · exact .refl s

theorem yieldOwn_path (s : State) : PathWork s (yieldOwn s) := (yieldClaim_path s).trans (loseRun_path _)

theorem endUpsetCurrent_path (s : State) : PathWork s (endUpsetCurrent s) := by
  unfold endUpsetCurrent
  split
  · exact PathWork.trans (t := { s with wsq.upsetMark := false }) { wsq := rfl, unclosed := fun _ => ⟨rfl, rfl⟩ }
      ((normalOff_path _).trans (yieldOwn_path _))
  · exact .refl s

/-! ### The own claim is gone (R135) -/

theorem removeClaim_unclaimed {s : State} (none_own : s.ownClaim = none) : removeClaim s.node s.sht.claims = s.sht.claims := by
  have others := List.find?_eq_none.mp none_own
  exact List.filter_eq_self.mpr fun c hc => by simpa using others c hc

theorem yieldClaim_claims (s : State) : (yieldClaim s).sht.claims = removeClaim s.node s.sht.claims := by
  unfold yieldClaim
  split
  · next none_own => exact (removeClaim_unclaimed none_own).symm
  · next own _ =>
    have frames : (yieldFrames own.number (dropOwnClaim s)).sht.claims = removeClaim s.node s.sht.claims :=
      (yieldFrames_sent own.number _).claims
    dsimp only
    split
    · exact (by simp : (drawingEnded _).sht.claims = _).trans frames
    · exact frames

/-- What follows a withdrawal does not bring the claim back. -/
theorem PathWork.claims_gone {s t u : State} (k : PathWork t u) (node : t.node = s.node)
    (gone : t.sht.claims = removeClaim s.node s.sht.claims) : u.sht.claims = removeClaim s.node s.sht.claims := by
  obtain kept | again := k.claims
  · exact kept.trans gone
  · rw [again, gone, node, removeClaim_twice]

theorem yieldOwn_claims (s : State) : (yieldOwn s).sht.claims = removeClaim s.node s.sht.claims :=
  (loseRun_path _).claims_gone (yieldClaim_path s).node (yieldClaim_claims s)

end Sys2Proof.Machine

/-! A fault is filed, and starts the abort path of a phase with current (R28, R117 to R120); oversubscription (O36). -/

namespace Sys2Proof.Machine

/-! ### Filing (R28) -/

/-- Filing writes the working record, or the last fault code. -/
theorem fileFault_eq (code : FaultCode) (s : State) :
    ∃ w x, fileFault code s = { s with wrs.working := w, wsq.lastFault := x } := by
  unfold fileFault fileEntry
  (repeat' split) <;> exact ⟨_, _, rfl⟩

theorem fileFault_unwelding {code : FaultCode} {s : State} (phase : s.wsq.phase = none) :
    fileFault code s = { s with wsq.lastFault := .fault code } := by simp only [fileFault, phase]

theorem fileFault_unrecorded {code : FaultCode} {s : State} (unopened : s.wrs.working = none) :
    fileFault code s = { s with wsq.lastFault := .fault code } := by
  unfold fileFault State.recordOpen
  rw [unopened]
  split <;> rfl

theorem fileFault_open {code : FaultCode} {s : State} {p : WeldPhase} {w : WorkingRecord} (phase : s.wsq.phase = some p)
    (before : p ≠ .closing) (opened : s.wrs.working = some w) :
    fileFault code s = fileEntry code (code.severity s.cdr.overcurrentCount) p s := by
  simp [fileFault, State.recordOpen, phase, before, opened]

/-- The entry of an open record. -/
theorem fileFault_files {code : FaultCode} {s : State} {p : WeldPhase} (phase : s.wsq.phase = some p) (before : p ≠ .closing) :
    files s (fileFault code s) p [(code, code.severity s.cdr.overcurrentCount)] := by
  intro w opened room
  have fits : w.record.faults.length < 6 := by simp at room; omega
  rw [fileFault_open phase before opened]
  simp [fileEntry, opened, faultListSize, fits]

/-- What the open record holds is all that filing asks of the later state. -/
theorem files_congr {s t u : State} {p : WeldPhase} {l : List (FaultCode × Severity)} (same : u.wrs.working = t.wrs.working)
    (h : files s t p l) : files s u p l := fun w opened room => by rw [same]; exact h w opened room

/-- A fault of INFO or QUALITY severity is filed, and that is all. -/
theorem reportFault_mild {code : FaultCode} {s : State} (mild : code.severity s.cdr.overcurrentCount ≠ .abort) :
    reportFault code s = fileFault code s := if_neg mild

/-- A fault of ABORT severity where no abort path may start is filed, and that is all. -/
theorem reportFault_filed {code : FaultCode} {s : State} (may : mayAbort s = false) :
    reportFault code s = fileFault code s := by
  obtain ⟨w, x, e⟩ := fileFault_eq code s
  have may' : mayAbort (fileFault code s) = false := by rw [e]; exact may
  unfold reportFault tryAbort
  dsimp only
  rw [may']
  (repeat' split) <;> first | rfl | contradiction

/-! ### The abort path starts (R117) -/

/-- The state in which the path of the abort phase begins: work in hand is stopped. -/
def State.abortStarts (code : FaultCode) (p : WeldPhase) (s : State) : State :=
  stopWork { s with wsq.abort := some ⟨code, p, .runOn⟩ }

/-- What work in hand leaves when it stops: its timers, flash control and the trim window (R117, step 3). -/
theorem stopWork_eq (s : State) :
    stopWork s =
      { s with
        wsq := { s.wsq with contactTimer := none, openTimer := none, upsetTimer := none, flashTimer := none }
        flash := { s.flash with
          step := none, offAwaited := false, feed := none, streakTimer := none, openMark := false, lostTimer := none
          flashTime := s.wsq.flashTimer.elim s.flash.flashTime fun left => s.sched.flashTimeS * 1000 - left }
        tru := { s.tru with
          window := none
          startWaiting := false
          result := if s.tru.result.isNone && s.tru.windowKept.isNone then some .skipped else s.tru.result } } := by
  cases timer : s.wsq.flashTimer with
  | none => simp [stopWork, truAbort, flashEnds, stopFlashTime, timer]
  | some left => simp [stopWork, truAbort, flashEnds, stopFlashTime, timer, seconds, State.sched, State.schedule]

theorem mayAbort_iff (s : State) :
    mayAbort s = true ↔ (∃ p, s.wsq.phase = some p ∧ p ≠ .closing) ∧ s.wsq.abort = none ∧ endingBegun s = false := by
  cases phase : s.wsq.phase <;> cases abort : s.wsq.abort <;>
    simp [mayAbort, State.welding, State.aborting, phase, abort]

theorem reportFault_starts {code : FaultCode} {s : State} {p : WeldPhase}
    (severe : code.severity s.cdr.overcurrentCount = .abort) (phase : s.wsq.phase = some p) (before : p ≠ .closing)
    (going : s.wsq.abort = none) (begun : endingBegun s = false) :
    reportFault code s = beginPath code p ((fileFault code s).abortStarts code p) := by
  obtain ⟨w, x, e⟩ := fileFault_eq code s
  have may : mayAbort (fileFault code s) = true := by
    rw [e]; exact (mayAbort_iff s).mpr ⟨⟨p, phase, before⟩, going, begun⟩
  have phase' : (fileFault code s).wsq.phase = some p := by rw [e]; exact phase
  rw [reportFault, if_pos severe, tryAbort, phase']
  exact if_pos may

/-- A phase with current before UPSET. -/
def flashPhase (p : WeldPhase) : Prop := p = .preheat ∨ p = .flash ∨ p = .boost

theorem beginPath_flashPhase {p : WeldPhase} (flashes : flashPhase p) (code : FaultCode) (s : State) :
    beginPath code p s = abortFlash s := by
  rcases flashes with rfl | rfl | rfl <;> rfl

/-- The path of PREHEAT, FLASH and BOOST, once the platen holds (R119). -/
theorem abortFlash_path (s : State) : PathWork (platenHold s) (abortFlash s) := by
  unfold abortFlash
  dsimp only
  split
  · exact (setStep_path _ _).trans (normalOff_path _)
  · exact (yieldOwn_path _).trans (beginRetract_path _)

theorem abortUpset_path (s : State) :
    ∃ u, PathWork s u ∧ abortUpset s = { u with wsq.upsetTimer := if s.motionHeld then none else some s.sched.upsetTimeMs } :=
  ⟨_, endUpsetCurrent_path s, rfl⟩

section
variable {code : FaultCode} {s : State} {p : WeldPhase} (severe : code.severity s.cdr.overcurrentCount = .abort)
  (phase : s.wsq.phase = some p) (going : s.wsq.abort = none) (begun : endingBegun s = false)
include severe phase going begun

/-- A fault of ABORT severity in a phase with current before UPSET. -/
theorem reportFault_flashPhase (flashes : flashPhase p) :
    reportFault code s = abortFlash ((fileFault code s).abortStarts code p) ∧
      PathWork (platenHold ((fileFault code s).abortStarts code p)) (reportFault code s) := by
  have before : p ≠ .closing := by rcases flashes with rfl | rfl | rfl <;> decide
  have starts := (reportFault_starts severe phase before going begun).trans (beginPath_flashPhase flashes _ _)
  exact ⟨starts, starts ▸ abortFlash_path _⟩

/-- A fault of ABORT severity in a phase with current names itself and the phase as the weld's abort. -/
theorem reportFault_abortOf (flashes : flashPhase p ∨ p = .upset) : (reportFault code s).abortOf = some (code, p) := by
  have started : ((fileFault code s).abortStarts code p).abortOf = some (code, p) := by
    rw [State.abortStarts, stopWork_eq]; rfl
  obtain flashes | rfl := flashes
  · exact (reportFault_flashPhase severe phase going begun flashes).2.cause.trans started
  · obtain ⟨u, path, e⟩ := abortUpset_path ((fileFault code s).abortStarts code .upset)
    have starts := reportFault_starts severe phase (by decide) going begun
    rw [starts]
    show (abortUpset _).abortOf = _
    rw [e]
    exact path.cause.trans started

end

/-- The claim is gone once it is withdrawn, whatever the path made of it before. -/
theorem PathWork.yieldOwn_claims {s t : State} (h : PathWork s t) :
    (yieldOwn t).sht.claims = removeClaim s.node s.sht.claims := by
  rw [Machine.yieldOwn_claims, h.node]
  obtain kept | gone := h.claims
  · rw [kept]
  · rw [gone, removeClaim_twice]

/-! ### Oversubscription (O36) -/

theorem oversubscribed_iff {s : State} {own : Claim} (held : s.ownClaim = some own) :
    oversubscribed s = true ↔
      own.state = .drawing ∧ s.shr.capacityKva < ((s.sht.claims.filter fun c => c.state ≠ .queued).map (·.demand)).sum := by
  have loading : Claim.loads = fun c : Claim => decide (c.state ≠ .queued) := by
    funext c; simp only [Claim.loads]; cases c.state <;> rfl
  simp [oversubscribed, State.drawing, held, demandSum, loading]

theorem loadAhead_iff {s : State} {own : Claim} (held : s.ownClaim = some own) :
    loadAhead s = true ↔
      ∃ c ∈ s.sht.claims, c.station ≠ own.station ∧ c.state ≠ .queued ∧
        (c.number < own.number ∨ c.number = own.number ∧ c.station < own.station) := by
  simp only [loadAhead, held, Option.any_some, List.any_eq_true, Bool.and_eq_true, bne_iff_ne, Claim.ahead_iff, Claim.loads]
  exact exists_congr fun c => and_congr_right fun _ => by rw [and_right_comm, and_assoc]

/-- Settles O36: the count is taken before the back-off, which leaves it alone. -/
theorem oversubscriptionRule : Obligations.OversubscriptionRule := by
  intro s own held oversub behind count
  have loaded : oversubscribed s = true ↔ oversub := oversubscribed_iff held
  have ahead : loadAhead s = true ↔ behind := loadAhead_iff held
  have counted (o : oversub) : evaluateOversubscription s =
      if s.wsq.phase = some .preheat ∧ behind then
        yieldOwn (reportFault .oversubscribed { s with sht.oversubscribed := true, sht.oversubscriptions := count })
      else { s with sht.oversubscribed := true, sht.oversubscriptions := count } := by
    have up : (if !s.sht.oversubscribed then bump16 s.sht.oversubscriptions else s.sht.oversubscriptions) = count := by
      cases before : s.sht.oversubscribed <;> simp [count, before, bump16, bumpTo]
    simp only [evaluateOversubscription, loaded.mpr o, up, ← ahead, Bool.true_and, Bool.and_eq_true, beq_iff_eq]
  refine ⟨fun no => ?_, fun o other => ?_, fun o b phase going ending => ?_⟩
  · have not_over : oversubscribed s = false := Bool.eq_false_iff.mpr fun o => no (loaded.mp o)
    simp [evaluateOversubscription, not_over]
  · exact (counted o).trans (if_neg other)
  · intro t
    have backs : t = yieldOwn (reportFault .oversubscribed
        { s with sht.oversubscriptions := count, sht.oversubscribed := true }) := (counted o).trans (if_pos ⟨phase, b⟩)
    have begun : endingBegun s = false := by simp [endingBegun, ending]
    obtain ⟨w, x, filed⟩ := fileFault_eq .oversubscribed { s with sht.oversubscriptions := count, sht.oversubscribed := true }
    have aborts := reportFault_abortOf (code := .oversubscribed)
      (s := { s with sht.oversubscriptions := count, sht.oversubscribed := true }) rfl phase going begun (.inl (.inl rfl))
    obtain ⟨-, path⟩ := reportFault_flashPhase (code := .oversubscribed)
      (s := { s with sht.oversubscriptions := count, sht.oversubscribed := true }) rfl phase going begun (.inl rfl)
    rw [filed, State.abortStarts, stopWork_eq] at path
    have whole := path.trans (yieldOwn_path _)
    rw [backs]
    refine ⟨by rw [whole.sht]; rfl, (yieldOwn_path _).cause.trans aborts, ?_, whole.base⟩
    exact (path.yieldOwn_claims).trans (removeClaim_eq_filter _ _)

end Sys2Proof.Machine

/-! Admission, the first current phase, and the pause it may begin (O35). -/

namespace Sys2Proof.Machine

/-! ### A pause begins (R113) -/

theorem reportFault_upsetCurrentCut (s : State) : reportFault .upsetCurrentCut s = fileFault .upsetCurrentCut s :=
  reportFault_mild (by simp [FaultCode.severity])

theorem reportFault_supplySag (s : State) : reportFault .supplySag s = fileFault .supplySag s :=
  reportFault_mild (by simp [FaultCode.severity])

/-- A cut of the upset current, once its fault is filed (R95). -/
theorem cutUpset_path (s : State) : ∃ w x, PathWork { s with wrs.working := w, wsq.lastFault := x } (cutUpset s) := by
  unfold cutUpset
  split
  · rw [reportFault_upsetCurrentCut]
    obtain ⟨w, x, e⟩ := fileFault_eq .upsetCurrentCut s
    rw [e]
    exact ⟨w, x, endUpsetCurrent_path _⟩
  · exact ⟨_, _, .refl s⟩

/-- What STL holds at the beginning of a pause. -/
def Stl.pauseBegun (x : Stl) (length : Nat) : Stl :=
  { x with
    pause := .paused
    deglitched := false
    deglitch := none
    pauseCount := bump16 x.pauseCount
    pauseTimer := some length
    lostReported := false }

/-- The beginning of a pause sets STL; what it asks of the drive and the weld leaves it so. -/
theorem beginPause_stl (s : State) : (beginPause s).stl = s.stl.pauseBegun s.loc.pauseMaxMs := by
  have stays : (s.stl.pauseBegun s.loc.pauseMaxMs).stays := ⟨nofun, fun _ => rfl⟩
  have lost := (loseRun_path { s with stl := s.stl.pauseBegun s.loc.pauseMaxMs }).stl stays
  obtain ⟨w, x, path⟩ := cutUpset_path (flashPause (loseRun { s with stl := s.stl.pauseBegun s.loc.pauseMaxMs }))
  have paused : (flashPause (loseRun { s with stl := s.stl.pauseBegun s.loc.pauseMaxMs })).stl =
      s.stl.pauseBegun s.loc.pauseMaxMs := (by simp : (flashPause _).stl = _).trans lost
  have cut := path.stl (by rw [paused]; exact stays)
  obtain ⟨w', x', filed⟩ := fileFault_eq .supplySag
    (cutUpset (flashPause (loseRun { s with stl := s.stl.pauseBegun s.loc.pauseMaxMs })))
  have begins : beginPause s =
      reportFault .supplySag (cutUpset (flashPause (loseRun { s with stl := s.stl.pauseBegun s.loc.pauseMaxMs }))) := rfl
  rw [begins, reportFault_supplySag, filed]
  exact cut.trans paused

/-! ### The first current phase (R14, R23) -/

/-- The phase that an admitted weld enters. -/
def State.firstPhase (s : State) : WeldPhase := if s.sched.preCycles = 0 then .flash else .preheat

/-- The slots once the chosen one is RESERVED (R172). -/
def Wrs.reserved (w : Wrs) : List Slot := ((reservation w).map fun i => w.slots.set i .reserved).getD w.slots

/-- What the entry of the first current phase writes. -/
theorem enterFirstPhase_written (s : State) :
    let t := enterFirstPhase s
    t = { s with wsq := t.wsq, flash := t.flash, pcu := t.pcu, wrs := t.wrs } ∧ t.wsq.station = s.wsq.station ∧
      t.wsq.weldNo = some (s.wrs.counter + 1) ∧ t.wsq.phase = some s.firstPhase ∧ t.wrs.counter = s.wrs.counter + 1 ∧
      t.wrs.slots = s.wrs.reserved ∧ t.wrs.marker = some (s.wrs.counter + 1, s.firstPhase) ∧
      (s.stl.stop = .run → t.pcu.mode = .speed s.loc.touchSpeed) ∧ t.pcu.contactMove = .advance := by
  unfold State.firstPhase enterFirstPhase enterFlash enterPreheat
  split
  · rw [enterPhase_eq]
    exact ⟨rfl, rfl, rfl, rfl, rfl, rfl, rfl, fun runs => if_pos runs, rfl⟩
  · rw [enterPhase_eq]
    exact ⟨rfl, rfl, rfl, rfl, rfl, rfl, rfl, fun runs => if_pos runs, rfl⟩

/-! ### Admission (R132) -/

theorem admitClaim_sent (s : State) :
    ShareSent
      { s with
        sht.claims := updateClaim s.node (fun c => { c with state := .drawing }) s.sht.claims
        sht.claimWait := none
        sht.admissions := bump16 s.sht.admissions }
      (admitClaim s) := queueBeacon_sent _

theorem discord_iff (s : State) : discord s = false ↔ ∀ p ∈ s.sht.peers, p.presence ≠ .discordant := by
  simp [discord]

theorem countedWith_eq (own : Claim) (l : List Claim) :
    countedWith own l = l.filter fun c =>
      c.station ≠ own.station ∧
        ((c.number < own.number ∨ c.number = own.number ∧ c.station < own.station) ∨ c.state ≠ .queued) := by
  refine List.filter_congr fun c _ => ?_
  rw [Bool.eq_iff_iff]
  simp only [Bool.and_eq_true, Bool.or_eq_true, bne_iff_ne, Claim.ahead_iff, Claim.loads, decide_eq_true_eq]

theorem admissible_iff {s : State} {own : Claim} (held : s.ownClaim = some own) :
    admissible s = true ↔
      own.state = .queued ∧ s.sht.settleFlag = true ∧ s.wsq.isolated = false ∧
        (∀ p ∈ s.sht.peers, p.presence ≠ .discordant) ∧
        own.demand + ((countedWith own s.sht.claims).map (·.demand)).sum ≤ s.shr.capacityKva := by
  simp [admissible, held, ← discord_iff, admissionSum, demandSum, and_assoc]
  exact fun _ _ _ _ => decide_eq_true_iff

/-- The slot of the reservation rule. -/
theorem reservation_first {w : Wrs} {k : Nat} (inRange : k < 48) (free : slotFree w ((w.newest + 1 + k) % 48) = true)
    (taken : ∀ j < k, slotFree w ((w.newest + 1 + j) % 48) = false) : reservation w = some ((w.newest + 1 + k) % 48) := by
  have found : (List.range 48).find? (fun j => slotFree w ((w.newest + 1 + j) % 48)) = some k :=
    List.find?_range_eq_some.mpr ⟨free, List.mem_range.mpr inRange, fun j before => by simp [taken j before]⟩
  simp only [reservation, circular, slotFree_eq, slotCount, List.find?_map, Function.comp_def, found, Option.map_some]

theorem reservation_none {w : Wrs} (taken : ∀ j < 48, slotFree w ((w.newest + 1 + j) % 48) = false) : reservation w = none := by
  simp only [reservation, circular, slotFree_eq, slotCount, List.find?_map, Option.map_eq_none_iff, List.find?_eq_none,
    List.mem_range, Function.comp_def]
  exact fun j before => by simp [taken j before]

theorem reserved_of_reservation {w : Wrs} {i : Nat} (chosen : reservation w = some i) :
    w.reserved = w.slots.set i .reserved := by simp [Wrs.reserved, chosen]

theorem reserved_of_none {w : Wrs} (full : reservation w = none) : w.reserved = w.slots := by simp [Wrs.reserved, full]

/-- Settles O35: admission is the beacon's admitClaim, then the first phase, then a pause where the bus sags. -/
theorem admissionRule : Obligations.AdmissionRule := by
  intro s own held
  have sent := admitClaim_sent s
  have admits (yes : admissible s = true) : evaluateAdmission s = pauseAtAdmission (enterFirstPhase (admitClaim s)) := if_pos yes
  obtain ⟨whole, station, number, phase, counter, slots, marker, mode, move⟩ := enterFirstPhase_written (admitClaim s)
  have first : (admitClaim s).firstPhase = s.firstPhase := by rw [sent.whole]; rfl
  have wrs : (admitClaim s).wrs.counter = s.wrs.counter ∧ (admitClaim s).wrs.reserved = s.wrs.reserved := by
    rw [sent.wrs]; exact ⟨rfl, rfl⟩
  rw [first] at phase marker
  rw [wrs.1] at number counter marker
  rw [wrs.2] at slots
  have stl : (enterFirstPhase (admitClaim s)).stl = s.stl := by rw [whole, sent.whole]
  refine ⟨?_, fun yes normal => ?_, fun yes sags deglitched free => ?_, fun no => if_neg (by simp [no])⟩
  · rw [admissible_iff held, countedWith_eq]
  · have unpaused : evaluateAdmission s = enterFirstPhase (admitClaim s) :=
      (admits yes).trans (if_neg (by rw [stl, normal]; simp))
    intro t
    simp only [t, unpaused]
    have sht : (enterFirstPhase (admitClaim s)).sht = (admitClaim s).sht := by rw [whole]
    refine ⟨?_, ?_, ?_, counter, number, fun i chosen => ?_, ⟨fun k inRange free taken => ?_, fun full => ?_⟩, marker, phase,
      fun runs => ?_, move, stl, ?_, ?_, ?_⟩
    · rw [sht, sent.claims, updateClaim_eq_map]
    · rw [sht, sent.sht]
    · rw [sht, sent.sht]; rfl
    · rw [slots, reserved_of_reservation chosen]
    · rw [slots, reserved_of_reservation (reservation_first inRange free taken)]
    · rw [slots, reserved_of_none (reservation_none full)]
    · rw [mode (by rw [sent.stl]; exact runs), sent.whole]; rfl
    · rw [whole]; exact sent.sameHead.2.1
    · rw [whole]; exact sent.sameHead.2.2.2
    · rw [whole]; exact sent.sameBase
  · have held' : (enterFirstPhase (admitClaim s)).motionHeld = false := by
      rw [← free]; unfold State.motionHeld; rw [station, sent.wsq]
    have paused : evaluateAdmission s = beginPause (enterFirstPhase (admitClaim s)) :=
      (admits yes).trans (if_pos ⟨by rw [stl, sags], by rw [stl, deglitched], held'⟩)
    intro t
    have loc : (enterFirstPhase (admitClaim s)).loc = s.loc := by rw [whole, sent.whole]; rfl
    have begun : t.stl = s.stl.pauseBegun s.loc.pauseMaxMs := by
      simp only [t, paused, beginPause_stl, stl, loc]
    refine ⟨?_, by rw [begun]; rfl, by rw [begun]; rfl, by rw [begun]; rfl, by rw [begun]; rfl⟩
    simp only [t, paused]
    simpa using counter

end Sys2Proof.Machine

/-! The listening window's end and the station's timers (O18, O19), with what FAULT_HOLD entry writes in every state. -/

namespace Sys2Proof.Machine

/-! ### The hold of a weld (R120, R122) -/

/-- A retract under way is kept as the step to make again. -/
def Abort.held (a : Abort) : Abort :=
  match a.step with
  | .retracting target => { a with step := .retractStopped target }
  | _ => a

theorem stopStep_eq (s : State) : stopStep s = { s with wsq.abort := s.wsq.abort.map Abort.held } := by
  unfold stopStep setStep
  split
  · next abort => simp [abort, Abort.held]
  · next other =>
    have same : s.wsq.abort.map Abort.held = s.wsq.abort := by
      cases abort : s.wsq.abort with
      | none => rfl
      | some a =>
        obtain ⟨cause, phase, step⟩ := a
        cases step with
        | retracting target => exact absurd abort (other cause phase target)
        | runOn | driveIdle | retractWait | retractStopped => rfl
    rw [same]

theorem holdWeld_eq (s : State) :
    holdWeld s =
      { s with
        wsq.upsetTimer := none
        wsq.abort := s.wsq.abort.map Abort.held
        wsq.ending := s.wsq.ending.map fun e => { e with moving := false } } := by
  rw [holdWeld, stopStep_eq]
  rfl

/-- The trimmer held (R103). -/
def Tru.held (u : Tru) : Tru :=
  if u.state = .retracted then { u with valve := .hold }
  else { u with valve := .hold, stopped := true, strokeTimer := none, dwell := none }

theorem truHold_eq (s : State) : truHold s = { s with tru := s.tru.held } := by
  unfold truHold Tru.held
  split <;> rfl

/-! ### FAULT_HOLD entry (R8, R123) -/

/-- WSQ at FAULT_HOLD entry, but for what the end of current makes of an abort path that waited for it. -/
def State.heldWsq (s : State) : Wsq :=
  { (faultStation s).wsq with
    barred := s.wsq.barred || s.welding
    upsetTimer := none
    abort := s.wsq.abort.map Abort.held
    ending := s.wsq.ending.map fun e => { e with moving := false } }

theorem faultStation_eq (s : State) : faultStation s = { s with wsq := (faultStation s).wsq } := by
  unfold faultStation
  (repeat' split) <;> rfl

theorem faultStation_weld (s : State) :
    (faultStation s).wsq.abort = s.wsq.abort ∧ (faultStation s).wsq.ending = s.wsq.ending := by
  unfold faultStation
  (repeat' split) <;> exact ⟨rfl, rfl⟩

/-- Whatever the station was, its motion is held. -/
theorem faultStation_held (s : State) : (faultStation s).motionHeld = true := by
  unfold faultStation State.motionHeld
  (repeat' split) <;> simp_all

/-- FAULT_HOLD entry: what is written before the drive's OFF, which is the last thing. -/
theorem faultHoldEntry_path (s : State) :
    ∃ x v, PathWork v (faultHoldEntry s) ∧ x.stop = s.stl.stop ∧ v.motionHeld = true ∧
      v = { s with wsq := s.heldWsq, pcu := (stopShoes (platenHold (faultStation s))).pcu, tru := s.tru.held, stl := x } := by
  have held : (truHold (holdWeld { stopShoes (platenHold (faultStation s)) with wsq.barred := s.wsq.barred || s.welding }))
      = { s with wsq := s.heldWsq, pcu := (stopShoes (platenHold (faultStation s))).pcu, tru := s.tru.held } := by
    obtain ⟨abort, ending⟩ := faultStation_weld s
    rw [truHold_eq, holdWeld_eq, State.heldWsq, ← abort, ← ending, faultStation_eq]
    rfl
  have motion : State.motionHeld { s with wsq := s.heldWsq, pcu := (stopShoes (platenHold (faultStation s))).pcu, tru := s.tru.held } = true :=
    faultStation_held s
  obtain ⟨x, paused, stop⟩ := endPause_held
    { s with wsq := s.heldWsq, pcu := (stopShoes (platenHold (faultStation s))).pcu, tru := s.tru.held } motion
  refine ⟨x, { s with wsq := s.heldWsq, pcu := (stopShoes (platenHold (faultStation s))).pcu, tru := s.tru.held, stl := x },
    ?_, stop, motion, rfl⟩
  rw [← paused, ← held]
  exact immediateOff_path _

/-- Entering FAULT_HOLD leaves what the path of the drive leaves, and the platen in HOLD. -/
theorem faultHoldEntry_pcu_eq (s : State) : (faultHoldEntry s).pcu = (stopShoes (platenHold (faultStation s))).pcu := by
  obtain ⟨x, v, path, -, held, e⟩ := faultHoldEntry_path s
  rw [path.still held, e]

/-! ### The end of the listening window (O18) -/

section
variable {s : State}

theorem joinOpen_run (runs : s.stl.stop = .run) :
    joinOpen s = { s with wsq.station := .idle, wsq.idleTimer := idleStart s } := by
  rw [joinOpen, if_neg (by simp [runs]), setStation_eq (.inr (by decide))]
  rfl

theorem joinOpen_stopped (stops : s.stl.stop ≠ .run) :
    joinOpen s = { s with wsq.station := .stopped, wsq.returnState := some .idle } := if_pos stops

/-- With nothing tripped, a station that runs enters RECOVER and makes its top-up at once (R37). -/
theorem joinClosed_run (runs : s.stl.stop = .run) (sound : s.pcu.tripped = false) :
    joinClosed s = setStation .recover (foundClosed s) := by
  simp [joinClosed, runs, sound]

theorem setStation_recover_written (due : s.wsq.topUpDue = true) :
    let t := setStation .recover s
    t = { s with wsq := { s.wsq with station := .recover, idleTimer := none, topUpDue := false }, pcu := t.pcu } ∧
      t.pcu.clampForceInUse = s.pcu.clampForceInUse ∧
      t.pcu.topUp = decide (s.pcu.pressure < s.pcu.clampForceInUse.getD 0) := by
  unfold setStation makeTopUp startTopUp
  simp only [due]
  by_cases reached : s.pcu.clampForceInUse.getD 0 ≤ s.pcu.pressure
  · simp [reached, endTopUp, armSlip, Nat.not_lt.mpr reached]
  · simp [reached, Nat.lt_of_not_le reached]

end

/-- A held station that finds its clamps closed: what O18 asks of the entry to FAULT_HOLD. -/
theorem faultHoldEntry_kept (s : State) :
    let t := faultHoldEntry s
    sameBase s t ∧ t.orq = { s.orq with restartDue := t.orq.restartDue } ∧ t.wsq.station = (faultStation s).wsq.station ∧
      t.wsq.returnState = (faultStation s).wsq.returnState ∧ t.wsq.returnFault = (faultStation s).wsq.returnFault ∧
      t.wsq.topUpDue = s.wsq.topUpDue ∧ t.wsq.recoverTimer = s.wsq.recoverTimer ∧ t.wsq.listenTimer = s.wsq.listenTimer ∧
      t.pcu.clampForceInUse = s.pcu.clampForceInUse := by
  obtain ⟨x, v, path, -, -, rfl⟩ := faultHoldEntry_path s
  have others : (faultStation s).wsq.topUpDue = s.wsq.topUpDue ∧ (faultStation s).wsq.recoverTimer = s.wsq.recoverTimer ∧
      (faultStation s).wsq.listenTimer = s.wsq.listenTimer ∧ (faultStation s).pcu = s.pcu := by
    unfold faultStation
    (repeat' split) <;> exact ⟨rfl, rfl, rfl, rfl⟩
  obtain ⟨topUp, recover, listen, pcu⟩ := others
  refine ⟨path.base, path.orq, congrArg (·.station) path.wsq, congrArg (·.returnState) path.wsq,
    congrArg (·.returnFault) path.wsq, (congrArg (·.topUpDue) path.wsq).trans topUp,
    (congrArg (·.recoverTimer) path.wsq).trans recover, (congrArg (·.listenTimer) path.wsq).trans listen, ?_⟩
  exact (congrArg (·.clampForceInUse) path.pcu).trans (congrArg (·.clampForceInUse) pcu)

/-- Settles O18. -/
theorem windowEndChoosesState : Obligations.WindowEndChoosesState := by
  intro s awake listening expired
  have run : exec .listeningWindowEnd s = .next (listeningEnds s) := exec_taken rfl awake (by simp [listening, expired])
  by_cases closed : s.pcu.clamp = some .closed
  · have joins : listeningEnds s = joinClosed { s with wsq.listenTimer := none } := if_pos closed
    by_cases runs : s.stl.stop = .run <;> cases tripped : s.pcu.tripped
    · obtain ⟨e, force, top⟩ := setStation_recover_written (s := foundClosed { s with wsq.listenTimer := none }) rfl
      refine completes_of run (joins.trans (joinClosed_run runs tripped)) ?_
      generalize setStation _ _ = t at *
      rw [e]
      refine ⟨rfl, ⟨rfl, rfl, rfl, rfl, rfl⟩, rfl, fun _ => ⟨rfl, rfl, rfl, rfl⟩, fun _ => ⟨rfl, rfl, rfl, rfl, rfl, rfl, rfl⟩,
        fun _ => ⟨force, rfl, fun _ _ => ⟨rfl, rfl, top⟩, nofun, fun stops => absurd runs stops⟩, fun opened => absurd closed opened⟩
    · have enters : joinClosed { s with wsq.listenTimer := none } =
          faultHoldEntry { foundClosed { s with wsq.listenTimer := none } with wsq.station := .recover } := by
        simp [joinClosed, runs, tripped]
      refine completes_of run (joins.trans enters) ?_
      obtain ⟨base, orq, station, back, -, due, recover, listen, force⟩ :=
        faultHoldEntry_kept { foundClosed { s with wsq.listenTimer := none } with wsq.station := .recover }
      refine ⟨listen, base, orq, fun going => ?_, ?_, fun _ => ⟨force, recover, nofun, fun _ _ => ⟨station, back, due⟩, ?_⟩, ?_⟩
      · obtain ⟨sht, lkc, orq, wrs⟩ := faultHoldEntry_apart
          { foundClosed { s with wsq.listenTimer := none } with wsq.station := .recover } going
        exact ⟨orq, sht, lkc, wrs⟩
      · exact fun no => no.elim nofun fun opened => absurd closed opened
      · exact fun stops => absurd runs stops
      · exact fun opened => absurd closed opened
    · have enters : joinClosed { s with wsq.listenTimer := none } =
          { foundClosed { s with wsq.listenTimer := none } with wsq.station := .stopped, wsq.returnState := some .recover } := by
        simp [joinClosed, runs, tripped, foundClosed]
      refine completes_of run (joins.trans enters) ?_
      exact ⟨rfl, ⟨rfl, rfl, rfl, rfl, rfl⟩, rfl, fun _ => ⟨rfl, rfl, rfl, rfl⟩, fun _ => ⟨rfl, rfl, rfl, rfl, rfl, rfl, rfl⟩,
        fun _ => ⟨rfl, rfl, fun r => absurd r runs, fun r => absurd r runs, fun _ => ⟨rfl, rfl, rfl, nofun⟩⟩,
        fun opened => absurd closed opened⟩
    · have enters : joinClosed { s with wsq.listenTimer := none } =
          faultHoldEntry { foundClosed { s with wsq.listenTimer := none } with
            wsq.station := .stopped, wsq.returnState := some .recover } := by
        simp [joinClosed, runs, tripped, foundClosed]
      refine completes_of run (joins.trans enters) ?_
      obtain ⟨base, orq, station, back, fault, due, recover, listen, force⟩ := faultHoldEntry_kept
        { foundClosed { s with wsq.listenTimer := none } with wsq.station := .stopped, wsq.returnState := some .recover }
      refine ⟨listen, base, orq, fun going => ?_, ?_, fun _ => ⟨force, recover, nofun, fun r => absurd r runs,
        fun _ => ⟨station, back, due, fun _ => fault⟩⟩, ?_⟩
      · obtain ⟨sht, lkc, orq, wrs⟩ := faultHoldEntry_apart
          { foundClosed { s with wsq.listenTimer := none } with wsq.station := .stopped, wsq.returnState := some .recover } going
        exact ⟨orq, sht, lkc, wrs⟩
      · exact fun no => no.elim nofun fun opened => absurd closed opened
      · exact fun opened => absurd closed opened
  · have joins : listeningEnds s = joinOpen { s with wsq.listenTimer := none } := if_neg closed
    by_cases runs : s.stl.stop = .run
    · refine completes_of run (joins.trans (joinOpen_run runs)) ?_
      exact ⟨rfl, ⟨rfl, rfl, rfl, rfl, rfl⟩, rfl, fun _ => ⟨rfl, rfl, rfl, rfl⟩, fun _ => ⟨rfl, rfl, rfl, rfl, rfl, rfl, rfl⟩,
        fun opened => absurd opened closed, fun _ => ⟨rfl, fun _ => ⟨rfl, rfl⟩, fun stops => absurd runs stops⟩⟩
    · refine completes_of run (joins.trans (joinOpen_stopped runs)) ?_
      exact ⟨rfl, ⟨rfl, rfl, rfl, rfl, rfl⟩, rfl, fun _ => ⟨rfl, rfl, rfl, rfl⟩, fun _ => ⟨rfl, rfl, rfl, rfl, rfl, rfl, rfl⟩,
        fun opened => absurd opened closed, fun _ => ⟨rfl, fun r => absurd r runs, fun _ => ⟨rfl, rfl⟩⟩⟩

/-! ### The station's timers (O19) -/

/-- Settles O19. -/
theorem stationTimersExpire : Obligations.StationTimersExpire := by
  intro s awake
  refine ⟨fun expired => ?_, fun idle expired => ?_, fun back expired => ?_⟩
  · have run : exec .recoveryCoolingExpiry s = .next (recoveryEnds s) := exec_taken rfl awake expired
    by_cases recover : s.wsq.station = .recover
    · refine completes_of run (if_pos recover) ?_
      obtain ⟨d, wsq⟩ := setStation_wsq_eq .clamped { s with wsq.recoverTimer := none }
      refine ⟨by rw [wsq], by rw [wsq, if_pos recover], by simp [sameBase], by simp, by simp, by simp, by simp, by simp,
        by simp, by simp, by simp, fun made => ?_⟩
      exact congrArg (·.pcu) (setStation_eq (st := .clamped) (s := { s with wsq.recoverTimer := none }) (.inl made))
    · refine completes_of run (if_neg recover) ?_
      exact ⟨rfl, (if_neg recover).symm, ⟨rfl, rfl, rfl, rfl, rfl⟩, rfl, rfl, rfl, rfl, rfl, rfl, rfl, rfl, fun _ => rfl⟩
  · have run : exec .idleTimerExpiry s = .next (idleExpires s) := exec_taken rfl awake (by simp [idle, expired])
    by_cases empty : s.orq.queue = [] ∧ s.ownClaim = none
    · refine completes_of run (if_pos empty) ?_
      obtain ⟨station, timer, powered, valve, mode, drive, off, tru, pause⟩ := enterDormant_written s
      exact ⟨by simp [sameBase], by simp, by simp, by simp, by simp,
        fun _ => ⟨station, timer, powered, valve, mode, by rw [tru], drive, off, pause, by simp⟩, fun no => absurd empty no⟩
    · refine completes_of run (if_neg empty) ?_
      exact ⟨⟨rfl, rfl, rfl, rfl, rfl⟩, rfl, rfl, rfl, rfl, fun yes => absurd yes empty, fun _ => rfl⟩
  · intro sampled
    have run : exec (.wakeTimeEnd back) s = .next (wakeEnds back s) := exec_taken rfl awake expired
    have sample : truFirstSample back { s with wsq.wakeTimer := none } = sampled := by cases back <;> rfl
    refine ⟨fun waking => ?_, fun other => ?_⟩
    · rw [run, wakeEnds, if_pos waking, sample, setStation_eq (.inr (by decide))]
      rfl
    · rw [run, wakeEnds, if_neg other, sample]

end Sys2Proof.Machine

/-! The pulses of a half-cycle and the carrier cycles (O56, O57). -/

namespace Sys2Proof.Machine

/-! ### Every abort path leaves the drive's totals and the pause as its end of current does -/

theorem platenHold_drive (s : State) : DriveWork s (platenHold s) := {}

theorem stopWork_drive (s : State) : DriveWork s (stopWork s) := {}

theorem fileFault_drive (code : FaultCode) (s : State) : DriveWork s (fileFault code s) := {}

theorem endWeld_drive (outcome : OrderOutcome) (reason : Reason) (weldNo : Option Nat) (s : State) :
    DriveWork s (endWeld outcome reason weldNo s) := {}

theorem beginEnding_drive (reason : Reason) (s : State) : DriveWork s (beginEnding reason s) := {}

theorem enterCool_drive (s : State) : DriveWork s (enterCool s) := {}

theorem abortCheck_drive (cause : FaultCode) (s : State) : DriveWork s (abortCheck cause s) := by
  unfold abortCheck
  (repeat' split) <;> exact {}

theorem abortBeforeCurrent_drive (cause : FaultCode) (s : State) : DriveWork s (abortBeforeCurrent cause s) := by
  unfold abortBeforeCurrent
  (repeat' split) <;> exact {}

theorem abortFlash_drive (s : State) : DriveWork s (abortFlash s) :=
  (platenHold_drive s).trans (abortFlash_path s).toDriveWork

theorem abortUpset_drive (s : State) : DriveWork s (abortUpset s) := by
  obtain ⟨u, path, e⟩ := abortUpset_path s
  rw [e]
  exact path.toDriveWork.trans {}

theorem abortTrim_drive (s : State) : DriveWork s (abortTrim s) := by
  unfold abortTrim
  split
  · exact .refl s
  · exact enterCool_drive s

theorem beginPath_drive (cause : FaultCode) (p : WeldPhase) (s : State) : DriveWork s (beginPath cause p s) := by
  cases p with
  | check => exact abortCheck_drive cause s
  | touch => exact (platenHold_drive s).trans (abortBeforeCurrent_drive cause _)
  | claimWait => exact (yieldOwn_path s).toDriveWork.trans (abortBeforeCurrent_drive cause _)
  | preheat | flash | boost => exact abortFlash_drive s
  | upset => exact abortUpset_drive s
  | trim => exact abortTrim_drive s
  | hold | cool | closing => exact .refl s

theorem tryAbort_drive (cause : FaultCode) (s : State) : DriveWork s (tryAbort cause s) := by
  unfold tryAbort
  split
  · exact .refl s
  · split
    · exact (DriveWork.trans (t := { s with wsq.abort := some ⟨cause, _, .runOn⟩ }) {} (stopWork_drive _)).trans
        (beginPath_drive cause _ _)
    · exact .refl s

theorem reportFault_drive (code : FaultCode) (s : State) : DriveWork s (reportFault code s) := by
  unfold reportFault
  dsimp only
  split
  · exact (fileFault_drive code s).trans (tryAbort_drive code _)
  · exact fileFault_drive code s

/-! ### Samples (R51, R69) -/

theorem foldl_add (l : List DriveSample) (c : CycleSums) :
    (l.foldl CycleSums.add c).energy = c.energy + (l.map fun d => d.voltage * d.current).sum ∧
      (l.foldl CycleSums.add c).maxCurrent = (l.map (·.current.natAbs)).foldl max c.maxCurrent ∧
      (l.foldl CycleSums.add c).voltageSum = c.voltageSum + ((l.filter (·.conducting)).map (·.voltage.natAbs)).sum ∧
      (l.foldl CycleSums.add c).voltageCount = c.voltageCount + (l.filter (·.conducting)).length := by
  induction l generalizing c with
  | nil => simp
  | cons d l ih =>
    obtain ⟨energy, current, volts, count⟩ := ih (c.add d)
    refine ⟨?_, ?_, ?_, ?_⟩
    · rw [List.foldl_cons, energy]; simp [CycleSums.add, Int.add_assoc]
    · rw [List.foldl_cons, current]; rfl
    · rw [List.foldl_cons, volts]
      cases conducts : d.conducting <;> simp [CycleSums.add, conducts, Nat.add_assoc]
    · rw [List.foldl_cons, count]
      cases conducts : d.conducting <;> simp [CycleSums.add, conducts, Nat.add_assoc, Nat.add_comm]

/-- A BLANKING_END takes its samples in and, with a current read in a blanking interval, begins the comparison (R58). -/
theorem takeReading_blanking {s : State} {amps trip : Nat} {l : List DriveSample} (blanking : s.cdr.pulse = .blanking)
    (applied : s.cdr.applied = some trip) :
    takeReading ⟨some amps, l⟩ s =
      { takeSamples l s with cdr.pulse := if trip ≤ amps then .offTime else .conducting } := by
  have level : (takeSamples l s).cdr.applied = some trip := by
    unfold takeSamples; dsimp only; split <;> exact applied
  simp [takeReading, blanking, blankingEnds, setPulse, level]

/-- Settles O56. -/
theorem pulseEvents : Obligations.PulseEvents := by
  intro s awake
  refine ⟨foldl_add, fun conducting => ?_, fun amps l => ?_, fun offTime => ?_, fun pulsing => ?_, ?_, ?_⟩
  · exact exec_taken (effect := setPulse .offTime) rfl awake (by simp [conducting])
  · intro new taken
    have samples : takeSamples l s = taken := rfl
    have run (reading) : exec (.blankingEnd reading) s = .next (takeReading reading s) := exec_taken rfl awake rfl
    refine ⟨fun trip blanking applied => ?_, fun other => ?_, run _⟩
    · rw [run, takeReading_blanking blanking applied, samples]
    · rw [run]
      simp only [takeReading, other, if_false, samples]
  · rw [exec_taken (effect := fun t => setPulse (freshPulse t) t) rfl awake (by simp [offTime])]
    rfl
  · exact exec_taken (effect := setPulse .closed) rfl awake (by simp [pulsing])
  · intro w p runs unlocked opened room phase before none_yet
    have run : exec .overcurrent s = .next (overcurrentTaken s) := exec_taken rfl awake (by simp [driveRuns, runs, unlocked])
    rw [run, overcurrentTaken, reportFault_mild (by simp [FaultCode.severity, none_yet]),
      fileFault_open (p := p) (w := w) (by exact phase) before (by exact opened)]
    simp [fileEntry, opened, faultListSize, room, none_yet, FaultCode.severity]
  · intro p runs unlocked again phase current going ending
    have run : exec .overcurrent s = .next (overcurrentTaken s) := exec_taken rfl awake (by simp [driveRuns, runs, unlocked])
    have flashes : flashPhase p := by simpa [flashPhase] using current
    have second : FaultCode.severity (s.cdr.overcurrentCount + 1) .overcurrent = .abort := by
      simp only [FaultCode.severity]; rw [if_neg (by omega)]
    have aborts := reportFault_abortOf (code := .overcurrent)
      (s := { s with cdr.pulse := .none, cdr.lockout := true, cdr.whole := false, cdr.overcurrentCount := s.cdr.overcurrentCount + 1 })
      second phase going (by simp [endingBegun, ending]) (.inl flashes)
    have drive := reportFault_drive .overcurrent
      { s with cdr.pulse := .none, cdr.lockout := true, cdr.whole := false, cdr.overcurrentCount := s.cdr.overcurrentCount + 1 }
    exact ⟨_, run, drive.cdr.pulse rfl, congrArg (·.overcurrentCount) drive.cdr.form, aborts, drive.base⟩

/-! ### The half-cycle's end (R51, R57) -/

/-- The samples that a half-cycle's end brings in (R51). -/
def State.cycleSums (s : State) (l : List DriveSample) : CycleSums :=
  (l.take (32 - s.cdr.sampled)).foldl CycleSums.add s.cdr.sums

theorem foldl_add_integrals (l : List DriveSample) (c : CycleSums) :
    (l.foldl CycleSums.add c).posIntegral = c.posIntegral ∧ (l.foldl CycleSums.add c).credited = c.credited := by
  induction l generalizing c with
  | nil => exact ⟨rfl, rfl⟩
  | cons d l ih => exact ih (c.add d)

section
variable {s : State} {l : List DriveSample} {n : Nat}

theorem halfTaken_positive (runs : s.cdr.drive = .running) (half : s.cdr.half = .positive) :
    takeIntegral n (takeSamples l s) =
      { s with
        cdr.sums := { s.cycleSums l with posIntegral := n }
        cdr.sampled := s.cdr.sampled + (l.take (32 - s.cdr.sampled)).length } := by
  have inHalf : s.cdr.half ≠ .boundary := by rw [half]; decide
  simp [takeIntegral, takeSamples, runs, half, State.cycleSums, samplesPerHalf]

theorem halfTaken_negative (runs : s.cdr.drive = .running) (half : s.cdr.half = .negative) :
    takeIntegral n (takeSamples l s) =
      { s with
        cdr.sums := { s.cycleSums l with negIntegral := n }
        cdr.sampled := s.cdr.sampled + (l.take (32 - s.cdr.sampled)).length } := by
  simp [takeIntegral, takeSamples, runs, half, State.cycleSums, samplesPerHalf]

theorem halfTaken_still (still : s.cdr.drive ≠ .running) : takeIntegral n (takeSamples l s) = s := by
  simp [takeIntegral, takeSamples, still]

end

/-! ### The end of carrier timing (R52) -/

theorem driveOff_cdr (s : State) : (driveOff s).cdr = (blockDrive s).cdr := by simp [driveOff]

theorem driveOff_isOff (s : State) : (driveOff s).cdr.isOff := by
  rw [driveOff_cdr]; exact blockDrive_isOff s

/-- An OFF that takes effect in RUNNING adds the cycle in progress (R69). -/
theorem driveOff_added {s : State} (runs : s.cdr.drive = .running) : cycleAdded s.cdr (driveOff s).cdr s.cdr.sums := by
  rw [driveOff_cdr, blockDrive, if_pos runs]
  exact cutRunning_added s

/-! ### The carrier cycle's end (R63 to R69) -/

theorem creditEnergy_added (s : State) : cycleAdded s.cdr (creditEnergy s).cdr s.cdr.sums := cutRunning_added s

/-- What has been added at the boundary is not added again where RUNNING ends there. -/
theorem cycleAdded_once {s : State} {d e : Cdr} (credited : cycleAdded s.cdr d s.cdr.sums)
    (none_left : d.sums.energy = d.sums.credited) (hz : d.carrierHz = s.cdr.carrierHz) (later : CycleAccounted d e) :
    cycleAdded s.cdr e s.cdr.sums := by
  obtain ⟨energy, tally, part, ms, run⟩ := credited
  obtain ⟨energy', tally', part', ms', run', -⟩ | ⟨-, -, energy', tally', part', ms', run'⟩ := later
  · exact ⟨energy'.trans energy, tally'.trans tally, part'.trans part, ms'.trans ms, run'.trans run⟩
  · refine ⟨energy'.trans ?_, tally'.trans ?_, part', ms', run'⟩
    · rw [← energy, energyAdded, part, none_left]
      simp [energy, energyAdded, hz]
    · rw [← tally, timeAdded, ms, run]
      simp

theorem retractStep_drive (s : State) : DriveWork s (retractStep s) := by
  unfold retractStep
  split
  · exact .refl s
  · exact {}

theorem shortEvent_drive (s : State) : DriveWork s (shortEvent s) := by
  unfold shortEvent
  dsimp only
  split
  · split
    · exact DriveWork.trans {} (reportFault_drive _ _)
    · exact DriveWork.trans {} (retractStep_drive _)
  · exact .refl s

theorem openEvent_drive (mode : DriveMode) (s : State) : DriveWork s (openEvent mode s) := by
  unfold openEvent
  (repeat' split)
  · exact {}
  · exact .refl s
  · exact reportFault_drive _ s

theorem contactRegained_drive (s : State) : DriveWork s (contactRegained s) := by
  unfold contactRegained
  split
  · exact {}
  · exact .refl s

theorem drive_ite {s t u : State} {c : Prop} [Decidable c] (h : DriveWork s t) (k : DriveWork s u) :
    DriveWork s (if c then t else u) := by
  split
  · exact h
  · exact k

theorem deliverReports_drive (mode : DriveMode) (r : CycleReports) (s : State) : DriveWork s (deliverReports mode r s) := by
  have short := drive_ite (c := r.short = true) (shortEvent_drive s) (.refl s)
  have opens := short.trans (drive_ite (c := r.openReached = true) (openEvent_drive mode _) (.refl _))
  have regains := opens.trans (drive_ite (c := r.regained = true) (contactRegained_drive _) (.refl _))
  exact regains.trans (drive_ite (c := r.imbalance = true) (reportFault_drive _ _) (.refl _))

theorem cycleClass_state (s : State) : ∃ f, (cycleClass s).2 = { s with free := f } := by
  unfold cycleClass
  dsimp only
  split <;> exact ⟨_, rfl⟩

/-- CDR once a complete cycle has been evaluated, but for what the reports ask of it (R64 to R68). -/
def Cdr.evaluated (c : Cdr) (k : CycleClass) (s : State) : Cdr :=
  { c with
    flux := (evaluateRuns k s).2.cdr.flux
    boundCount := (evaluateRuns k s).2.cdr.boundCount
    fluxReported := (evaluateRuns k s).2.cdr.fluxReported
    shortRun := (evaluateRuns k s).2.cdr.shortRun
    openRun := (evaluateRuns k s).2.cdr.openRun
    openReported := (evaluateRuns k s).2.cdr.openReported }

theorem evaluateCycle_drive (s : State) :
    ∃ f k, DriveWork { s with free := f, cdr := s.cdr.evaluated k s } (evaluateCycle s) := by
  obtain ⟨f, e⟩ := cycleClass_state s
  refine ⟨f, (cycleClass s).1, ?_⟩
  have runs : (evaluateRuns (cycleClass s).1 (cycleClass s).2).2 =
      { s with free := f, cdr := s.cdr.evaluated (cycleClass s).1 s } := by
    rw [e]; rfl
  rw [← runs]
  exact deliverReports_drive _ _ _

/-- The boundary of a cycle driven to it: its energy is added, and the flux correction moves if it was complete. -/
theorem cycleEnds_drive {s : State} (runs : s.cdr.drive = .running) :
    ∃ f c, DriveWork { s with free := f, cdr := c } (cycleEnds s) ∧
      (∃ k, c = if s.cdr.whole then (creditEnergy s).cdr.evaluated k (creditEnergy s) else (creditEnergy s).cdr) := by
  unfold cycleEnds driveRuns
  simp only [runs]
  show ∃ f c, DriveWork _ (if s.cdr.whole = true then evaluateCycle (creditEnergy s) else creditEnergy s) ∧ _
  split
  · next whole =>
    obtain ⟨f, k, work⟩ := evaluateCycle_drive (creditEnergy s)
    exact ⟨f, _, work, k, rfl⟩
  · exact ⟨_, _, .refl (creditEnergy s), .conducting, rfl⟩

/-- The flux correction after the boundary (R67). -/
def Cdr.fluxNext (c : Cdr) : Int :=
  if c.whole = false then c.flux
  else if c.sums.negIntegral < c.sums.posIntegral then min (c.flux + 1) 16
  else if c.sums.posIntegral < c.sums.negIntegral then max (c.flux - 1) (-16)
  else c.flux

/-- What a boundary that ends RUNNING's cycle leaves of CDR. -/
theorem cycleEnds_cdr {s : State} {e : Cdr} (runs : s.cdr.drive = .running)
    (later : CdrPath (cycleEnds s).cdr e) : e.flux = s.cdr.fluxNext ∧ cycleAdded s.cdr e s.cdr.sums := by
  obtain ⟨f, c, work, k, rfl⟩ := cycleEnds_drive runs
  have path := work.cdr.trans later
  refine ⟨?_, ?_⟩
  · rw [path.form]
    unfold Cdr.fluxNext
    cases whole : s.cdr.whole <;> rfl
  · refine cycleAdded_once (d := _) ?_ ?_ ?_ path.cycle <;> split
    · exact creditEnergy_added s
    · exact creditEnergy_added s
    all_goals rfl

/-! ### The next carrier cycle (R54, R59) -/

/-- The totals, tallies and reports of CDR, which the beginning of a cycle leaves. -/
def Cdr.sameReports (c d : Cdr) : Prop :=
  d.energy = c.energy ∧ d.tally = c.tally ∧ d.partEnergy = c.partEnergy ∧ d.partMs = c.partMs ∧ d.runMs = c.runMs ∧
    d.flux = c.flux ∧ d.boundCount = c.boundCount ∧ d.fluxReported = c.fluxReported ∧ d.shortRun = c.shortRun ∧
    d.openRun = c.openRun ∧ d.openReported = c.openReported ∧ d.mode = c.mode

theorem beginCycle_eq (s : State) : ∃ c, beginCycle s = { s with cdr := c } ∧ s.cdr.sameReports c := by
  unfold beginCycle startPulse rampStep
  dsimp only
  (repeat' split) <;> exact ⟨_, rfl, rfl, rfl, rfl, rfl, rfl, rfl, rfl, rfl, rfl, rfl, rfl, rfl⟩

theorem roundDiv_toNat {m k : Nat} {x : Int} (e : x = m) : ((2 * x + k) / (2 * k)).toNat = roundDiv m k := by
  subst e
  exact congrArg Int.toNat (show (2 * (m : Int) + k) / (2 * k) = (((2 * m + k) / (2 * k) : Nat) : Int) by push_cast; rfl)

/-- A step of the ramp, upward or downward, by one formula (R59). -/
theorem rampLevel_eq {start target i k : Nat} (within : i ≤ k) :
    rampLevel start target i k = ((2 * ((start : Int) * k + (target - start) * i) + k) / (2 * k)).toNat := by
  unfold rampLevel
  split
  · next up => exact (roundDiv_toNat (by simp only [Int.natCast_add, Int.natCast_mul, Int.natCast_sub up])).symm
  · next down =>
    have below : target ≤ start := Nat.le_of_not_le down
    have bounded : (start - target) * i ≤ start * k := Nat.mul_le_mul (Nat.sub_le _ _) within
    refine (roundDiv_toNat ?_).symm
    simp only [Int.natCast_sub bounded, Int.natCast_mul, Int.natCast_sub below, Int.sub_mul]
    omega

theorem rampStep_last {s : State} {r : Ramp} (ramp : s.cdr.ramp = some r) (last : r.cycles ≤ r.step + 1) :
    rampStep s = { s with cdr.applied := some (s.cdr.tripTarget.getD r.start), cdr.ramp := none } := by
  simp only [rampStep, ramp, last, if_true]

theorem rampStep_next {s : State} {r : Ramp} (ramp : s.cdr.ramp = some r) (more : r.step + 1 < r.cycles) :
    rampStep s =
      { s with
        cdr.applied := some (rampLevel r.start (s.cdr.tripTarget.getD r.start) (r.step + 1) r.cycles)
        cdr.ramp := some { r with step := r.step + 1 } } := by
  simp only [rampStep, ramp, (Nat.not_le.mpr more), if_false]

/-- The state in which a cycle begins. -/
def State.cycleStart (s : State) : State :=
  { s with
    cdr.half := .positive
    cdr.sums := .zero
    cdr.sampled := 0
    cdr.lockout := false
    cdr.drive := if s.runConditions then .running else .ready
    cdr.whole := s.runConditions }

theorem beginCycle_ready {s : State} (waits : s.runConditions = false) : beginCycle s = startPulse s.cycleStart := by
  simp only [beginCycle, waits, State.cycleStart]; rfl

theorem beginCycle_driven {s : State} (runs : s.runConditions = true) : beginCycle s = startPulse (rampStep s.cycleStart) := by
  simp only [beginCycle, runs, State.cycleStart]; rfl

/-- The next cycle is driven by the run conditions of its beginning, with the next step of a ramp. -/
theorem beginCycle_written (s : State) :
    let c := (beginCycle s).cdr
    c.half = .positive ∧ c.drive = (if s.runConditions then .running else .ready) ∧ c.whole = s.runConditions ∧
      c.sums = .zero ∧ c.sampled = 0 ∧
      (s.runConditions = false ∨ s.cdr.ramp = none → c.applied = s.cdr.applied ∧ c.ramp = s.cdr.ramp) ∧
      (∀ r target, s.runConditions = true → s.cdr.ramp = some r → s.cdr.tripTarget = some target →
        (r.cycles ≤ r.step + 1 → c.applied = some target ∧ c.ramp = none) ∧
          (r.step + 1 < r.cycles →
            c.applied = some (rampLevel r.start target (r.step + 1) r.cycles) ∧ c.ramp = some { r with step := r.step + 1 })) ∧
      (s.runConditions = false → c.pulse = .none) ∧
      (s.runConditions = true → c.pulse = if s.loc.blankPct = 0 then .conducting else .blanking) := by
  cases runs : s.runConditions
  · rw [beginCycle_ready runs]
    exact ⟨rfl, by simp [startPulse, State.cycleStart, runs], runs, rfl, rfl, fun _ => ⟨rfl, rfl⟩, nofun,
      fun _ => by simp [startPulse, State.cycleStart, runs], nofun⟩
  · rw [beginCycle_driven runs]
    have drive : s.cycleStart.cdr.drive = .running := by simp [State.cycleStart, runs]
    have fresh {u : State} (runs : u.cdr.drive = .running) (unlocked : u.cdr.lockout = false) :
        (startPulse u).cdr.pulse = if u.loc.blankPct = 0 then .conducting else .blanking := if_pos ⟨runs, unlocked⟩
    cases ramp : s.cdr.ramp with
    | none =>
      have stays : rampStep s.cycleStart = s.cycleStart := by simp only [rampStep, show s.cycleStart.cdr.ramp = none from ramp]
      rw [stays]
      exact ⟨rfl, drive, runs, rfl, rfl, fun _ => ⟨rfl, ramp⟩, nofun, nofun, fun _ => fresh drive rfl⟩
    | some r =>
      by_cases last : r.cycles ≤ r.step + 1
      · rw [rampStep_last (by exact ramp) last]
        refine ⟨rfl, drive, runs, rfl, rfl, nofun, fun x target _ same known => ?_, nofun, fun _ => fresh drive rfl⟩
        cases same
        exact ⟨fun _ => ⟨congrArg (fun o : Option Nat => some (o.getD r.start)) known, rfl⟩, fun more => absurd last (Nat.not_le.mpr more)⟩
      · rw [rampStep_next (by exact ramp) (Nat.lt_of_not_le last)]
        refine ⟨rfl, drive, runs, rfl, rfl, nofun, fun x target _ same known => ?_, nofun, fun _ => fresh drive rfl⟩
        cases same
        exact ⟨fun done => absurd done last,
          fun _ => ⟨congrArg (fun o : Option Nat => some (rampLevel r.start (o.getD r.start) (r.step + 1) r.cycles)) known, rfl⟩⟩

/-! ### The half-cycle's end and the boundary (O57) -/

theorem nextCycle_eq (s : State) (other : s.stl.pause ≠ .resuming) : nextCycle s = beginCycle s := by
  simp [nextCycle, other]

theorem nextCycle_base (s : State) : sameBase s (nextCycle s) ∧ s.cdr.sameReports (nextCycle s).cdr := by
  unfold nextCycle
  split
  · obtain ⟨c, e, kept⟩ := beginCycle_eq (resumeRecovered s)
    rw [e]
    exact ⟨by simp [sameBase], by simpa using kept⟩
  · obtain ⟨c, e, kept⟩ := beginCycle_eq s
    rw [e]
    exact ⟨by simp [sameBase], kept⟩

/-- What the boundary's evaluation leaves reaches the end of the boundary. -/
theorem cycleBoundary_kept (s : State) :
    sameBase (cycleEnds s) (cycleBoundary s) ∧ (cycleEnds s).cdr.sameReports (cycleBoundary s).cdr := by
  unfold cycleBoundary
  dsimp only
  split
  · exact nextCycle_base _
  · exact ⟨⟨rfl, rfl, rfl, rfl, rfl⟩, rfl, rfl, rfl, rfl, rfl, rfl, rfl, rfl, rfl, rfl, rfl, rfl⟩

theorem sameBase_trans {s t u : State} (h : sameBase s t) (k : sameBase t u) : sameBase s u := by
  obtain ⟨h1, h2, h3, h4, h5⟩ := h
  obtain ⟨k1, k2, k3, k4, k5⟩ := k
  exact ⟨k1.trans h1, k2.trans h2, k3.trans h3, k4.trans h4, k5.trans h5⟩

theorem cycleEnds_base (s : State) (runs : s.cdr.drive = .running) : sameBase s (cycleEnds s) := by
  obtain ⟨f, c, work, -⟩ := cycleEnds_drive runs
  exact work.base

/-- A waiting OFF takes effect at the boundary, after the evaluation, unless that has ended the run already. -/
theorem negativeEnds_off {s : State} (runs : s.cdr.drive = .running) (waits : s.cdr.offPending = true) :
    DriveWork (cycleEnds { s with cdr.half := .boundary, cdr.pulse := .none }) (negativeEnds s) ∧
      (negativeEnds s).cdr.isOff := by
  obtain ⟨f, c, work, k, form⟩ := cycleEnds_drive (s := { s with cdr.half := .boundary, cdr.pulse := .none }) runs
  have start : c.offPending = true ∧ c.drive = .running := by
    rw [form]; split <;> exact ⟨waits, runs⟩
  have ends := work.cdr.waits start.1 start.2
  have takes : negativeEnds s =
      if offWaits (cycleEnds { s with cdr.half := .boundary, cdr.pulse := .none }) then
        driveOff (cycleEnds { s with cdr.half := .boundary, cdr.pulse := .none })
      else cycleEnds { s with cdr.half := .boundary, cdr.pulse := .none } :=
    if_pos (by simp [offWaits, driveRuns, waits, runs])
  rw [takes]
  generalize cycleEnds { s with cdr.half := .boundary, cdr.pulse := .none } = u at ends ⊢
  obtain ⟨pending, runs'⟩ | stopped := ends
  · rw [if_pos (by simp [offWaits, driveRuns, pending, runs'])]
    exact ⟨(driveOff_path u).toDriveWork, driveOff_isOff u⟩
  · rw [if_neg (by simp [offWaits, stopped.2.2.1])]
    exact ⟨.refl u, stopped⟩

/-- Settles O57. -/
theorem carrierCycles : Obligations.CarrierCycles := by
  intro s awake timed
  have half (l n) (inHalf : s.cdr.half ≠ .boundary) : exec (.halfCycleEnd l n) s = .next (halfEnds l n s) :=
    exec_taken rfl awake (by simp [timingRuns, timed, inHalf])
  have boundary (at_end : s.cdr.half = .boundary) : exec .carrierCycleEnd s = .next (cycleBoundary s) :=
    exec_taken rfl awake (by simp [timingRuns, timed, at_end])
  refine ⟨fun l n positive runs => ?_, fun l n negative none_waits => ?_, fun l n negative waits runs => ?_,
    fun at_end ready incomplete other => ?_, fun at_end runs => ?_⟩
  · have ends : halfEnds l n s = positiveEnds
        { s with
          cdr.sums := { s.cycleSums l with posIntegral := n }
          cdr.sampled := s.cdr.sampled + (l.take (32 - s.cdr.sampled)).length } := by
      simp only [halfEnds, positive, halfTaken_positive runs positive, if_true]
    refine completes_of (half l n (by rw [positive]; decide)) ends ?_
    cases pending : s.cdr.offPending
    · have goes : positiveEnds
          { s with
            cdr.sums := { s.cycleSums l with posIntegral := n }
            cdr.sampled := s.cdr.sampled + (l.take (32 - s.cdr.sampled)).length } =
          startPulse
            { s with
              cdr.sums := { s.cycleSums l with posIntegral := n }
              cdr.half := .negative
              cdr.sampled := 0 } := if_neg (by simp [offWaits, pending])
      rw [goes]
      refine ⟨fun _ => ⟨?_, rfl, rfl, rfl, rfl⟩, nofun, rfl, rfl, rfl, rfl, rfl⟩
      cases locked : s.cdr.lockout <;> simp [startPulse, runs, locked, freshPulse, State.loc, State.cycleSums, pending] <;> rfl
    · have stops : positiveEnds
          { s with
            cdr.sums := { s.cycleSums l with posIntegral := n }
            cdr.sampled := s.cdr.sampled + (l.take (32 - s.cdr.sampled)).length } =
          driveOff
            { s with
              cdr.sums := { s.cycleSums l with posIntegral := n }
              cdr.sampled := s.cdr.sampled + (l.take (32 - s.cdr.sampled)).length } :=
        if_pos (by simp [offWaits, driveRuns, pending, runs])
      rw [stops]
      obtain ⟨drive, mode, off, -, -⟩ := driveOff_isOff
        { s with
          cdr.sums := { s.cycleSums l with posIntegral := n }
          cdr.sampled := s.cdr.sampled + (l.take (32 - s.cdr.sampled)).length }
      exact ⟨nofun, fun _ => ⟨mode, drive, off, driveOff_added (by exact runs)⟩, (driveOff_path _).base⟩
  · have inHalf : s.cdr.half ≠ .boundary := by rw [negative]; decide
    have ends (u : State) (taken : takeIntegral n (takeSamples l s) = u) (waits : u.cdr.offPending = false) :
        halfEnds l n s = { u with cdr.half := .boundary, cdr.pulse := .none } := by
      simp [halfEnds, negative, taken, negativeEnds, offWaits, waits]
    by_cases runs : s.cdr.drive = .running
    · refine completes_of (half l n inHalf) (ends _ (halfTaken_negative runs negative) none_waits) ?_
      exact ⟨rfl, rfl, rfl, rfl, fun _ => rfl, rfl, rfl, rfl, rfl, rfl, rfl, rfl, rfl, rfl⟩
    · refine completes_of (half l n inHalf) (ends _ (halfTaken_still runs) none_waits) ?_
      exact ⟨rfl, rfl, rfl, rfl, fun r => absurd r runs, rfl, rfl, rfl, rfl, rfl, rfl, rfl, rfl, rfl⟩
  · have ends : halfEnds l n s = negativeEnds
        { s with
          cdr.sums := { s.cycleSums l with negIntegral := n }
          cdr.sampled := s.cdr.sampled + (l.take (32 - s.cdr.sampled)).length } := by
      simp only [halfEnds, negative, halfTaken_negative runs negative]
      rfl
    refine completes_of (half l n (by rw [negative]; decide)) ends ?_
    obtain ⟨work, drive, mode, off, half', pulse⟩ := negativeEnds_off
      (s := { s with
        cdr.sums := { s.cycleSums l with negIntegral := n }
        cdr.sampled := s.cdr.sampled + (l.take (32 - s.cdr.sampled)).length }) runs waits
    obtain ⟨flux, added⟩ := cycleEnds_cdr (by exact runs) work.cdr
    have base := sameBase_trans (cycleEnds_base _ (by exact runs)) work.base
    refine ⟨mode, drive, off, half', pulse, flux.trans ?_, added, base⟩
    unfold Cdr.fluxNext State.cycleSums
    simp only [foldl_add_integrals]
  · have ends : cycleBoundary s = beginCycle s := by
      have nothing : cycleEnds s = s := by simp [cycleEnds, driveRuns, ready, incomplete]
      rw [cycleBoundary, nothing]
      exact (if_pos (by simp [timingRuns, timed, at_end])).trans (nextCycle_eq s other)
    refine completes_of (boundary at_end) ends ?_
    have written := beginCycle_written s
    obtain ⟨c, e, energy, tally, -, -, -, flux, -, -, -, -, -, mode⟩ := beginCycle_eq s
    rw [e] at written ⊢
    obtain ⟨half', drive, whole, sums, sampled, ramp, steps, still, pulse⟩ := written
    refine ⟨half', drive, whole, mode, flux, energy, tally, sums, sampled, ramp, fun r target runs known set => ?_, still, pulse,
      rfl, rfl, rfl, rfl, rfl, rfl, rfl, rfl, rfl, rfl, rfl⟩
    obtain ⟨last, next⟩ := steps r target runs known set
    refine ⟨last, fun more => ?_⟩
    obtain ⟨applied, stepped⟩ := next more
    rw [rampLevel_eq (by omega : r.step + 1 ≤ r.cycles), Int.natCast_add_one] at applied
    exact ⟨applied, stepped⟩
  · obtain ⟨flux, added⟩ := cycleEnds_cdr runs (.refl _)
    obtain ⟨energy, tally, part, ms, run⟩ := added
    obtain ⟨base, energy', tally', part', ms', run', flux', -⟩ := cycleBoundary_kept s
    exact ⟨_, boundary at_end, flux'.trans flux, ⟨energy'.trans energy, tally'.trans tally, part'.trans part, ms'.trans ms,
      run'.trans run⟩, sameBase_trans (cycleEnds_base s runs) base⟩

end Sys2Proof.Machine

/-! What a complete carrier cycle reports (O58). -/

namespace Sys2Proof.Machine

/-! ### The class of a complete cycle (R63) -/

section
variable {s : State}

/-- A complete cycle with a sample taken in a pulse is SHORT by its largest current and its mean voltage. -/
theorem cycleClass_eq (sampled : s.cdr.sums.voltageCount ≠ 0) :
    cycleClass s =
      (classify s.cdr.sums.maxCurrent s.sched.shortKa s.loc.contactKa
        (decide (s.cdr.sums.voltageSum ≤ s.sched.shortV * s.cdr.sums.voltageCount)), s) := by
  simp [cycleClass, sampled, lowVoltage]

theorem classify_short {i shortKa contactKa : Nat} {low : Bool} :
    classify i shortKa contactKa low = .short ↔ shortKa ≤ i ∧ low = true := by
  unfold classify
  (repeat' split) <;> simp_all

theorem classify_open {i shortKa contactKa : Nat} {low : Bool} :
    classify i shortKa contactKa low = .open ↔ ¬(shortKa ≤ i ∧ low = true) ∧ i < contactKa := by
  unfold classify
  (repeat' split) <;> simp_all

/-! ### Flash control's answers (R82 to R84) -/

theorem flashActs_iff :
    flashActs s = true ↔
      s.wsq.abort = none ∧ (s.wsq.phase = some .flash ∨ s.wsq.phase = some .boost) ∧
        (s.flash.feed = some .feeding ∨ s.flash.feed = some .stepping ∨ s.flash.feed = some .held) := by
  unfold flashActs followsMark State.aborting
  cases s.wsq.abort <;> cases feed : s.flash.feed with
  | none => simp [feed]
  | some x => cases x <;> simp [feed]

/-- Contact regained changes two fields of flash control. -/
theorem contactRegained_eq (s : State) :
    ∃ mark lost, contactRegained s = { s with flash.openMark := mark, flash.lostTimer := lost } := by
  unfold contactRegained
  split <;> exact ⟨_, _, rfl⟩

/-- A short cycle counted by flash control, before what it leads to. -/
def State.shortCounted (s : State) : State :=
  { s with
    flash.shortCount := bump16 s.flash.shortCount
    flash.streak := s.flash.streak + 1
    flash.streakTimer := some s.sched.streakResetMs }

theorem shortEvent_retracts (acts : flashActs s = true) (within : s.flash.streak + 1 ≤ s.sched.streakLimit) :
    shortEvent s = retractStep s.shortCounted := by
  rw [shortEvent, if_pos acts]
  exact if_neg (Nat.not_lt.mpr within)

theorem shortEvent_freezes (acts : flashActs s = true) (past : s.sched.streakLimit < s.flash.streak + 1) :
    shortEvent s = reportFault .flashFreeze s.shortCounted := by
  rw [shortEvent, if_pos acts]
  exact if_pos past

theorem retractStep_held (held : s.flash.feed = some .held) : retractStep s = s := if_pos held

/-- A retract step, with the emergency stop released (R82). -/
theorem retractStep_eq (free : s.flash.feed ≠ some .held) (runs : s.stl.stop = .run) :
    retractStep s =
      { s with
        flash.feed := some .stepping
        pcu := { s.pcu with
          mode := .retract (clampInt 0 s.loc.strokeFwd (s.pcu.position - s.sched.retractStep))
          commanded := formCommand s s.pcu.position
          moveTimer := some s.loc.moveTimeoutMs
          nearCount := 0
          forceReported := false
          contactMove := .none
          contactSense := false
          contactRun := 0
          contactFromStart := false
          touchTimer := none } } := by
  rw [retractStep, if_neg free, platenRetract, platenMove, if_pos runs]
  simp only [platenMode, runs, if_true]
  rfl

/-- A fault reported once the weld is aborted changes nothing of the path under way. -/
theorem reportFault_aborting (code : FaultCode) {a : FaultCode × WeldPhase} (aborts : s.abortOf = some a) :
    (reportFault code s).abortOf = some a := by
  have under_way : s.wsq.abort ≠ none := by
    intro going; simp [State.abortOf, going] at aborts
  have cannot : mayAbort s = false := by
    rw [Bool.eq_false_iff]; exact fun may => under_way ((mayAbort_iff s).mp may).2.1
  obtain ⟨w, x, e⟩ := fileFault_eq code s
  rw [reportFault_filed cannot, e]
  exact aborts

end

/-! ### The order of the reports (R63 to R68) -/

section
variable {m : DriveMode} {r : CycleReports} {v : State}

/-- The part of the reports behind the first two. -/
def laterReports (r : CycleReports) (v : State) : State :=
  let c := if r.regained then contactRegained v else v
  if r.imbalance then reportFault .fluxImbalance c else c

theorem deliverReports_short (short : r.short = true) (unopened : r.openReached = false) :
    deliverReports m r v = laterReports r (shortEvent v) := by simp [deliverReports, laterReports, short, unopened]

theorem deliverReports_open (unshort : r.short = false) (opened : r.openReached = true) :
    deliverReports m r v = laterReports r (openEvent m v) := by simp [deliverReports, laterReports, unshort, opened]

theorem deliverReports_later (unshort : r.short = false) (unopened : r.openReached = false) :
    deliverReports m r v = laterReports r v := by simp [deliverReports, laterReports, unshort, unopened]

theorem laterReports_balanced (balanced : r.imbalance = false) :
    ∃ mark lost, laterReports r v = { v with flash.openMark := mark, flash.lostTimer := lost } := by
  cases regained : r.regained with
  | true => simpa [laterReports, balanced, regained] using contactRegained_eq v
  | false => exact ⟨v.flash.openMark, v.flash.lostTimer, by simp [laterReports, balanced, regained]⟩

theorem laterReports_aborting {a : FaultCode × WeldPhase} (aborts : v.abortOf = some a) :
    (laterReports r v).abortOf = some a := by
  obtain ⟨mark, lost, e⟩ := contactRegained_eq v
  have kept : (if r.regained then contactRegained v else v).abortOf = some a := by
    split
    · rw [e]; exact aborts
    · exact aborts
  unfold laterReports
  dsimp only
  split
  · exact reportFault_aborting _ kept
  · exact kept

end

/-! ### The runs and counts of a complete cycle (R64 to R68) -/

/-- A SHORT cycle (R63). -/
abbrev State.cycleShort (s : State) : Prop :=
  s.sched.shortKa ≤ s.cdr.sums.maxCurrent ∧ s.cdr.sums.voltageSum ≤ s.sched.shortV * s.cdr.sums.voltageCount

/-- An OPEN cycle (R63). -/
abbrev State.cycleOpen (s : State) : Prop := ¬s.cycleShort ∧ s.cdr.sums.maxCurrent < s.loc.contactKa

/-- The run of short cycles, before an event ends it (R64). -/
def State.shortRunNext (s : State) : Nat :=
  if (s.cdr.mode = .flash ∨ s.cdr.mode = .boost) ∧ s.cycleShort then s.cdr.shortRun + 1 else 0

/-- The run of open cycles (R65). -/
def State.openRunNext (s : State) : Nat := if s.cycleOpen then s.cdr.openRun + 1 else 0

/-- The flux correction and the bound count (R67, R68). -/
def State.fluxNext (s : State) : Int := fluxAfter s.cdr.flux s.cdr.sums.posIntegral s.cdr.sums.negIntegral

def State.boundNext (s : State) : Nat := boundAfter s.fluxNext s.cdr.boundCount

/-- A SHORT event, an open run at its count, and a flux imbalance (R64, R65, R68). -/
abbrev State.shortDue (s : State) : Prop := shortNeeded s.sched.shortDeglitchMs s.cdr.carrierHz ≤ s.shortRunNext

abbrev State.openDue (s : State) : Prop := s.cycleOpen ∧ s.openRunNext = s.sched.openCycles

abbrev State.imbalanceDue (s : State) : Prop := 50 ≤ s.boundNext ∧ s.cdr.fluxReported = false

/-- What the evaluation of a complete cycle reports, and CDR before the reports. -/
structure CycleEvaluated (s : State) (r : CycleReports) (c : Cdr) : Prop where
  short : r.short = true ↔ s.shortDue
  opens : r.openReached = true ↔ s.openDue
  regained : r.regained = true ↔ ¬s.cycleOpen ∧ s.cdr.openReported = true
  imbalance : r.imbalance = true ↔ s.imbalanceDue
  shortRun : c.shortRun = if s.shortDue then 0 else s.shortRunNext
  openRun : c.openRun = s.openRunNext
  reported : c.openReported = true ↔ s.cycleOpen ∧ (s.cdr.openReported = true ∨ s.openDue)
  flux : c.flux = s.fluxNext
  bound : c.boundCount = s.boundNext
  fluxReported : c.fluxReported = true ↔ s.cdr.fluxReported = true ∨ s.imbalanceDue

section
variable {s : State}

theorem evaluateRuns_eq {k : CycleClass} (short : k = .short ↔ s.cycleShort) (opens : k = .open ↔ s.cycleOpen) :
    evaluateRuns k s =
      (⟨decide s.shortDue, decide s.openDue, decide (¬s.cycleOpen) && s.cdr.openReported, decide s.imbalanceDue⟩,
        { s with
          cdr.flux := s.fluxNext
          cdr.boundCount := s.boundNext
          cdr.fluxReported := s.cdr.fluxReported || decide s.imbalanceDue
          cdr.shortRun := if s.shortDue then 0 else s.shortRunNext
          cdr.openRun := s.openRunNext
          cdr.openReported := s.cdr.openReported && decide s.cycleOpen || decide s.openDue }) := by
  have shortRun : (if evaluatesShort s.cdr.mode && k == .short then s.cdr.shortRun + 1 else 0) = s.shortRunNext :=
    ite_congr (by simp [evaluatesShort, short]) (fun _ => rfl) fun _ => rfl
  have openRun : (if k = .open then s.cdr.openRun + 1 else 0) = s.openRunNext := ite_congr (propext opens) (fun _ => rfl) fun _ => rfl
  have class_open : (k == .open) = decide s.cycleOpen := decide_eq_decide.mpr opens
  have reached : (decide s.cycleOpen && s.openRunNext == s.sched.openCycles) = decide s.openDue :=
    (Bool.decide_and s.cycleOpen (s.openRunNext = s.sched.openCycles)).symm
  have imbalance : (decide (50 ≤ s.boundNext) && !s.cdr.fluxReported) = decide s.imbalanceDue := by
    rw [Bool.decide_and]; cases s.cdr.fluxReported <;> rfl
  unfold evaluateRuns
  simp only [shortRun, openRun, bne, class_open, reached, decide_eq_true_eq, decide_not]
  rw [← imbalance]
  rfl

theorem evaluateRuns_evaluated {k : CycleClass} (short : k = .short ↔ s.cycleShort) (opens : k = .open ↔ s.cycleOpen) :
    CycleEvaluated s (evaluateRuns k s).1 (evaluateRuns k s).2.cdr := by
  rw [evaluateRuns_eq short opens]
  have reported (b : Bool) : (b && decide s.cycleOpen || decide s.openDue) = true ↔ s.cycleOpen ∧ (b = true ∨ s.openDue) := by
    rw [Bool.or_eq_true, Bool.and_eq_true, decide_eq_true_iff, decide_eq_true_iff]
    exact ⟨fun h => h.elim (fun ⟨b, o⟩ => ⟨o, .inl b⟩) fun due => ⟨due.1, .inr due⟩, fun ⟨o, h⟩ => h.imp (⟨·, o⟩) id⟩
  have once (b : Bool) : (b || decide s.imbalanceDue) = true ↔ b = true ∨ s.imbalanceDue := by
    rw [Bool.or_eq_true, decide_eq_true_iff]
  have again (b : Bool) : (decide (¬s.cycleOpen) && b) = true ↔ ¬s.cycleOpen ∧ b = true := by
    rw [Bool.and_eq_true, decide_eq_true_iff]
  exact ⟨decide_eq_true_iff, decide_eq_true_iff, again _, decide_eq_true_iff, rfl, rfl, reported _, rfl, rfl, once _⟩

/-- What is added to the totals and tallies does not enter the evaluation. -/
theorem CycleEvaluated.uncredited {r : CycleReports} {c : Cdr} (h : CycleEvaluated (creditEnergy s) r c) :
    CycleEvaluated s r c :=
  ⟨h.short, h.opens, h.regained, h.imbalance, h.shortRun, h.openRun, h.reported, h.flux, h.bound, h.fluxReported⟩

theorem classify_cycle (s : State) :
    let low := decide (s.cdr.sums.voltageSum ≤ s.sched.shortV * s.cdr.sums.voltageCount)
    (classify s.cdr.sums.maxCurrent s.sched.shortKa s.loc.contactKa low = .short ↔ s.cycleShort) ∧
      (classify s.cdr.sums.maxCurrent s.sched.shortKa s.loc.contactKa low = .open ↔ s.cycleOpen) := by
  intro low
  rw [classify_short, classify_open, decide_eq_true_iff]
  exact ⟨Iff.rfl, Iff.rfl⟩

/-- The end of a complete cycle in which a sample was taken in a pulse. -/
theorem cycleEnds_evaluated (whole : s.cdr.whole = true) (sampled : s.cdr.sums.voltageCount ≠ 0) :
    ∃ r c, CycleEvaluated s r c ∧ c.mode = s.cdr.mode ∧ cycleEnds s = deliverReports s.cdr.mode r { s with cdr := c } := by
  cases runs : driveRuns s
  · have ends : cycleEnds s = evaluateCycle s := by simp [cycleEnds, whole, runs]
    obtain ⟨short, opens⟩ := classify_cycle s
    rw [ends, evaluateCycle_eq, cycleClass_eq sampled]
    exact ⟨_, _, evaluateRuns_evaluated short opens, rfl, rfl⟩
  · have ends : cycleEnds s = evaluateCycle (creditEnergy s) := by simp [cycleEnds, whole, runs]
    obtain ⟨short, opens⟩ := classify_cycle (creditEnergy s)
    have evaluated := (evaluateRuns_evaluated short opens).uncredited
    rw [ends, evaluateCycle_eq, cycleClass_eq (s := creditEnergy s) sampled]
    dsimp only
    rw [evaluateRuns_eq short opens] at evaluated ⊢
    exact ⟨_, _, evaluated, rfl, rfl⟩

end

/-! ### The boundary of a complete cycle (O58) -/

section
variable {s : State}

/-- The next carrier cycle changes CDR only, where STL waits for no boundary. -/
theorem cycleBoundary_eq (other : (cycleEnds s).stl.pause ≠ .resuming) :
    ∃ c, cycleBoundary s = { cycleEnds s with cdr := c } ∧ (cycleEnds s).cdr.sameReports c := by
  unfold cycleBoundary
  dsimp only
  split
  · rw [nextCycle_eq _ other]
    exact beginCycle_eq _
  · exact ⟨_, rfl, rfl, rfl, rfl, rfl, rfl, rfl, rfl, rfl, rfl, rfl, rfl, rfl⟩

/-- A SHORT event needs a SHORT cycle. -/
theorem cycleShort_of_due (due : s.shortDue) : s.cycleShort := by
  refine Classical.byContradiction fun other => ?_
  have none_run : s.shortRunNext = 0 := if_neg fun h => other h.2
  have reached : 1 ≤ s.shortRunNext := Nat.le_trans (Nat.le_max_left _ _) due
  omega

theorem laterReports_none {r : CycleReports} (balanced : r.imbalance = false) (stays : r.regained = false) :
    laterReports r s = s := by simp [laterReports, balanced, stays]

theorem laterReports_regained {r : CycleReports} (balanced : r.imbalance = false) (regained : r.regained = true) :
    laterReports r s = contactRegained s := by simp [laterReports, balanced, regained]

/-- A flux imbalance aborts the weld, also where contact was regained in the same cycle. -/
theorem laterReports_imbalance {r : CycleReports} {p : WeldPhase} (imbalance : r.imbalance = true)
    (phase : s.wsq.phase = some p) (current : flashPhase p ∨ p = .upset) (going : s.wsq.abort = none)
    (ending : s.wsq.ending = none) : (laterReports r s).abortOf = some (.fluxImbalance, p) := by
  obtain ⟨mark, lost, e⟩ := contactRegained_eq s
  simp only [laterReports, imbalance, if_true]
  split
  · rw [e]
    exact reportFault_abortOf rfl phase going (by simp [endingBegun, ending]) current
  · exact reportFault_abortOf rfl phase going (by simp [endingBegun, ending]) current

/-- The answer to a SHORT event within the streak limit (R82). -/
theorem shortEvent_written (acts : flashActs s = true) (within : s.flash.streak + 1 ≤ s.sched.streakLimit)
    (runs : s.stl.stop = .run) :
    let t := shortEvent s
    t.flash.shortCount = bump16 s.flash.shortCount ∧ t.flash.streak = s.flash.streak + 1 ∧
      t.flash.streakTimer = some s.sched.streakResetMs ∧ t.wsq = s.wsq ∧
      (s.flash.feed = some .held → t.flash.feed = some .held ∧ t.pcu = s.pcu) ∧
      (s.flash.feed ≠ some .held →
        t.flash.feed = some .stepping ∧ t.pcu.moveTimer = some s.loc.moveTimeoutMs ∧
          t.pcu.mode = .retract (clampInt 0 s.loc.strokeFwd (s.pcu.position - s.sched.retractStep))) := by
  rw [shortEvent_retracts acts within]
  by_cases held : s.flash.feed = some .held
  · rw [retractStep_held (s := s.shortCounted) held]
    exact ⟨rfl, rfl, rfl, rfl, fun _ => ⟨held, rfl⟩, fun free => absurd held free⟩
  · rw [retractStep_eq (s := s.shortCounted) held runs]
    exact ⟨rfl, rfl, rfl, rfl, fun h => absurd h held, fun _ => ⟨rfl, rfl, rfl⟩⟩

end

/-- Settles O58: the class of the cycle decides which of the reports come, and their order what is left of each. -/
theorem completeCycleReports : Obligations.CompleteCycleReports := by
  intro s awake timed at_end whole sampled other c short isOpen flashing needed shortRun shortEvent openRun openEvent regained
    flux bound imbalance acts aborts
  obtain ⟨r, d, evaluated, mode, ends⟩ := cycleEnds_evaluated whole sampled
  have drive := deliverReports_drive s.cdr.mode r { s with cdr := d }
  rw [← ends] at drive
  obtain ⟨e, boundary, kept⟩ := cycleBoundary_eq (drive.pause other)
  have run : exec .carrierCycleEnd s = .next (cycleBoundary s) := exec_taken rfl awake (by simp [timingRuns, timed, at_end])
  refine completes_of run boundary ?_
  obtain ⟨-, -, -, -, -, flux', bound', fluxReported, shortRun', openRun', reported, -⟩ := kept
  have form := drive.cdr.form
  have acts_of (h : acts) : flashActs { s with cdr := d } = true := flashActs_iff.mpr h
  have balanced (h : ¬imbalance) : r.imbalance = false := by rwa [Bool.eq_false_iff, ne_eq, evaluated.imbalance]
  have unshort (h : ¬shortEvent) : r.short = false := by rwa [Bool.eq_false_iff, ne_eq, evaluated.short]
  have unopened (h : ¬openEvent) : r.openReached = false := by rwa [Bool.eq_false_iff, ne_eq, evaluated.opens]
  have stays (h : ¬regained) : r.regained = false := by rwa [Bool.eq_false_iff, ne_eq, evaluated.regained]
  have short_not_open (h : shortEvent) : ¬openEvent := fun o => o.1.1 (cycleShort_of_due h)
  have open_not_short (h : openEvent) : ¬shortEvent := fun o => h.1.1 (cycleShort_of_due o)
  have open_not_regained (h : openEvent) : ¬regained := fun o => o.1 h.1
  have open_reports (h : openEvent) :
      cycleEnds s = laterReports r (Machine.openEvent s.cdr.mode { s with cdr := d }) :=
    ends.trans (deliverReports_open (unshort (open_not_short h)) (evaluated.opens.mpr h))
  have short_reports (h : shortEvent) : cycleEnds s = laterReports r (Machine.shortEvent { s with cdr := d }) :=
    ends.trans (deliverReports_short (evaluated.short.mpr h) (unopened (short_not_open h)))
  have later (h : ¬shortEvent) (h' : ¬openEvent) : cycleEnds s = laterReports r { s with cdr := d } :=
    ends.trans (deliverReports_later (unshort h) (unopened h'))
  refine ⟨?_, ?_, ?_, ?_, ?_, ?_, drive.base, ?_, ?_, ?_, ?_, ?_, ?_, ?_⟩
  · exact (shortRun'.trans (congrArg (·.shortRun) form)).trans evaluated.shortRun
  · exact (openRun'.trans (congrArg (·.openRun) form)).trans evaluated.openRun
  · exact (iff_of_eq (congrArg (· = true) (reported.trans (congrArg (·.openReported) form)))).trans evaluated.reported
  · exact (flux'.trans (congrArg (·.flux) form)).trans evaluated.flux
  · exact (bound'.trans (congrArg (·.boundCount) form)).trans evaluated.bound
  · exact (iff_of_eq (congrArg (· = true) (fluxReported.trans (congrArg (·.fluxReported) form)))).trans evaluated.fluxReported
  · intro due act even within runs
    have written := shortEvent_written (s := { s with cdr := d }) (acts_of act) within runs
    obtain ⟨mark, lost, e'⟩ := laterReports_balanced (r := r) (v := Machine.shortEvent { s with cdr := d }) (balanced even)
    rw [short_reports due, e']
    generalize Machine.shortEvent { s with cdr := d } = u at written ⊢
    exact written
  · intro p due act phase ending past
    have current : flashPhase p := by
      obtain ⟨-, at_flash | at_boost, -⟩ := act
      · exact .inr (.inl (Option.some.inj (phase.symm.trans at_flash)))
      · exact .inr (.inr (Option.some.inj (phase.symm.trans at_boost)))
    have freezes := reportFault_abortOf (code := .flashFreeze) (s := State.shortCounted { s with cdr := d }) rfl phase act.1
      (by simp [endingBegun, State.shortCounted, ending]) (.inl current)
    rw [← shortEvent_freezes (acts_of act) past] at freezes
    have aborting := laterReports_aborting (r := r) freezes
    rw [← short_reports due] at aborting
    exact aborting
  · intro opened current act even
    have e' : Machine.openEvent s.cdr.mode { s with cdr := d } =
        { s with cdr := d, flash.openMark := true, flash.lostTimer := some s.sched.flashLostMs } :=
      (if_pos current).trans (if_pos (acts_of act))
    rw [open_reports opened, e', laterReports_none (balanced even) (stays (open_not_regained opened))]
    exact ⟨rfl, rfl, rfl⟩
  · intro p opened other_mode phase current going ending
    have e' : Machine.openEvent s.cdr.mode { s with cdr := d } = reportFault .noContact { s with cdr := d } := if_neg other_mode
    have starts := reportFault_abortOf (code := .noContact) (s := { s with cdr := d }) rfl phase going
      (by simp [endingBegun, ending]) (current.imp_left .inl)
    rw [← e'] at starts
    have aborting := laterReports_aborting (r := r) starts
    rw [← open_reports opened] at aborting
    exact aborting
  · intro again none_due act marked even
    have e' : contactRegained { s with cdr := d } = { s with cdr := d, flash.openMark := false, flash.lostTimer := none } :=
      if_pos ⟨acts_of act, marked⟩
    rw [later none_due (fun h => again.1 h.1), laterReports_regained (balanced even) (evaluated.regained.mpr again), e']
    exact ⟨rfl, rfl, rfl⟩
  · intro p uneven none_due unopened' phase current going ending
    have four : flashPhase p ∨ p = .upset := by simpa [flashPhase, or_assoc] using current
    have aborting := laterReports_imbalance (s := { s with cdr := d }) (evaluated.imbalance.mpr uneven) phase four going ending
    rw [← later none_due unopened'] at aborting
    exact aborting
  · intro none_due unopened' none_again even
    rw [later none_due unopened', laterReports_none (balanced even) (stays none_again)]
    exact ⟨rfl, rfl, rfl⟩

end Sys2Proof.Machine

/-! The trimmer's events, and the end of HOLD (O55). -/

namespace Sys2Proof.Machine

/-! ### COOL and TRIM are entered (R101, R105) -/

section
variable {s : State}

/-- COOL with a cooling time: the phase, its timer and the time of its entry. -/
theorem enterCool_lasts (lasts : s.sched.coolS ≠ 0) :
    (enterCool s).wsq.phase = some .cool ∧ (enterCool s).wsq.coolTimer = some (s.sched.coolS * 1000) ∧
      (enterCool s).wsq.coolAt = some s.now := by
  unfold enterCool
  simp only [lasts, if_false, enterPhase_eq]
  exact ⟨trivial, rfl, trivial⟩

theorem trimReport_other {result : TrimResult} (other : s.wsq.phase ≠ some .trim) :
    trimReport result s = { s with tru.result := some result } := if_neg other

theorem trimReport_trim {result : TrimResult} (trims : s.wsq.phase = some .trim) :
    trimReport result s = enterCool { s with tru.result := some result } := if_pos trims

/-- What a report of the trimmer leaves, in any phase. -/
theorem trimReport_kept (result : TrimResult) (s : State) :
    let t := trimReport result s
    t.tru = { s.tru with result := some result } ∧ sameBase s t ∧ t.cdr = s.cdr ∧ t.sht = s.sht ∧ t.lkc = s.lkc ∧
      t.orq = s.orq ∧ t.stl = s.stl := by
  unfold trimReport
  dsimp only
  split <;> simp [sameBase]

/-- A result reported in TRIM ends it in COOL. -/
theorem trimReport_cools {result : TrimResult} (trims : s.wsq.phase = some .trim) (lasts : s.sched.coolS ≠ 0) :
    (trimReport result s).wsq.phase = some .cool ∧
      (trimReport result s).wsq.coolTimer = some (s.sched.coolS * 1000) := by
  rw [trimReport_trim trims]
  obtain ⟨phase, timer, -⟩ := enterCool_lasts (s := { s with tru.result := some result }) lasts
  exact ⟨phase, timer⟩

/-- A report of the trimmer leaves the faults of the open record, before CLOSING completes it. -/
theorem trimReport_working (result : TrimResult) (s : State) :
    (trimReport result s).wrs.working.map (fun u => (u.record.faults, u.quality)) =
      s.wrs.working.map (fun u => (u.record.faults, u.quality)) := by
  have closes (u : State) : (enterClosing u).wrs.working.map (fun v => (v.record.faults, v.quality)) =
      u.wrs.working.map (fun v => (v.record.faults, v.quality)) := by
    have entered : (enterPhase .closing u).wrs.working = u.wrs.working := by rw [enterPhase_eq]
    unfold enterClosing
    dsimp only
    rw [entered]
    cases e : u.wrs.working with
    | none => rw [← entered] at e; simp only [e]
    | some w => rfl
  unfold trimReport
  dsimp only
  split
  · unfold enterCool
    dsimp only
    split
    · rw [endCool, closes, enterPhase_eq]
    · rw [enterPhase_eq]
  · rfl

end

/-! ### The end of HOLD (R48, R98) -/

section
variable {s : State}

/-- The pull at HOLD end, and what filing STRESS_DEVIATION writes. -/
theorem readPull_eq (s : State) :
    ∃ w x, readPull s =
      { s with
        wrs.working := w, wsq.lastFault := x
        pcu.pullAtHoldEnd :=
          if s.wsq.kind = .closure ∧ s.pcu.tripped = false then some s.pcu.force else s.pcu.pullAtHoldEnd } := by
  unfold readPull
  by_cases reads : s.wsq.kind = .closure ∧ s.pcu.tripped = false
  · simp only [if_pos reads]
    split
    · exact ⟨_, _, rfl⟩
    · rw [reportFault_mild (by simp [FaultCode.severity])]
      obtain ⟨w, x, e⟩ := fileFault_eq .stressDeviation { s with pcu.pullAtHoldEnd := some s.pcu.force }
      exact ⟨w, x, e⟩
  · simp only [if_neg reads]
    exact ⟨s.wrs.working, s.wsq.lastFault, rfl⟩

theorem readPull_kept (s : State) :
    (readPull s).sched = s.sched ∧ (readPull s).tru = s.tru ∧ (readPull s).loc = s.loc ∧ (readPull s).now = s.now := by
  obtain ⟨w, x, e⟩ := readPull_eq s
  rw [e]
  exact ⟨rfl, rfl, rfl, rfl⟩

/-- The state in which HOLD ends, before its pull is read. -/
def State.holdOver (s : State) : State := { s with wsq.holdTimer := none, wsq.expired := false }

theorem endHold_trims (going : s.wsq.abort = none) (trims : s.sched.trimEnable ≠ 0) :
    endHold s = enterTrim (readPull s.holdOver) := by
  obtain ⟨w, x, e⟩ := readPull_eq s.holdOver
  unfold endHold
  dsimp only
  rw [← State.holdOver, e]
  exact if_neg (by simp [State.aborting, State.holdOver, going, trims])

theorem endHold_cools (skips : s.wsq.abort.isSome = true ∨ s.sched.trimEnable = 0) :
    endHold s = enterCool (readPull s.holdOver) := by
  obtain ⟨w, x, e⟩ := readPull_eq s.holdOver
  unfold endHold
  dsimp only
  rw [← State.holdOver, e]
  exact if_pos (by simpa [State.aborting, State.holdOver, State.sched, State.schedule] using skips)

theorem enterTrim_late (late : s.tru.result = some .late) : enterTrim s = enterCool (enterPhase .trim s) := if_pos late

theorem enterTrim_requests (timely : s.tru.result ≠ some .late) : enterTrim s = requestStroke (enterPhase .trim s) :=
  if_neg timely

theorem requestStroke_starts (ready : s.tru.state = .retracted) (opened : s.tru.window.isSome = true) :
    requestStroke s = startStroke s := if_pos ⟨ready, opened⟩

theorem requestStroke_waits (fault : s.tru.state = .fault) (opened : s.tru.window.isSome = true) :
    requestStroke s = { s with tru.startWaiting := true } := by simp [requestStroke, fault, opened]

end

/-- A trimmer in FAULT makes the start wait for its return switch (R101). -/
theorem enterTrim_waits (fault : s.tru.state = .fault) (opened : s.tru.window.isSome = true) (undecided : s.tru.result = none) :
    (enterTrim s).wsq.phase = some .trim ∧ (enterTrim s).tru = { s.tru with startWaiting := true } := by
  rw [enterTrim_requests (by simp [undecided]), enterPhase_eq, requestStroke_waits (by exact fault) (by exact opened)]
  exact ⟨rfl, rfl⟩

/-- The stroke starts at TRIM entry, and the window is kept (R101). -/
theorem enterTrim_starts (ready : s.tru.state = .retracted) (opened : s.tru.window.isSome = true)
    (undecided : s.tru.result = none) :
    (enterTrim s).wsq.phase = some .trim ∧
      (enterTrim s).tru =
        { s.tru with
          windowKept := s.tru.window, window := none, startWaiting := false, state := .advancing, valve := .advance
          strokeTimer := some s.loc.trimStrokeMs } := by
  rw [enterTrim_requests (by simp [undecided]), enterPhase_eq, requestStroke_starts (by exact ready) (by exact opened)]
  exact ⟨rfl, rfl⟩

/-- A result LATE ends TRIM at once (R101). -/
theorem enterTrim_cools (late : s.tru.result = some .late) (lasts : s.sched.coolS ≠ 0) :
    (enterTrim s).wsq.phase = some .cool ∧ (enterTrim s).wsq.coolTimer = some (s.sched.coolS * 1000) ∧
      (enterTrim s).tru = s.tru := by
  have same : (enterPhase .trim s).sched = s.sched := by rw [enterPhase_eq]; rfl
  obtain ⟨phase, timer, -⟩ := enterCool_lasts (s := enterPhase .trim s) (by rw [same]; exact lasts)
  rw [enterTrim_late late]
  exact ⟨phase, by rw [timer, same], by rw [enterPhase_eq]; simp⟩

/-! ### The stroke's faults (R102) -/

/-- A fault filed in the open record is no last fault. -/
theorem fileFault_last {code : FaultCode} {s : State} {p : WeldPhase} (phase : s.wsq.phase = some p) (before : p ≠ .closing)
    (opened : s.wrs.working.isSome = true) : (fileFault code s).wsq.lastFault = s.wsq.lastFault := by
  obtain ⟨w, opened⟩ := Option.isSome_iff_exists.mp opened
  rw [fileFault_open phase before opened]
  simp [fileEntry, opened]

/-- TRIM_FAIL is filed once in a weld, and starts no abort path. -/
theorem fileTrimFail_eq (s : State) :
    ∃ w x, fileTrimFail s = { s with tru.failFiled := true, wrs.working := w, wsq.lastFault := x } ∧
      (s.tru.failFiled = true → w = s.wrs.working ∧ x = s.wsq.lastFault) ∧
      (s.wsq.phase = none → s.tru.failFiled = false → w = s.wrs.working ∧ x = .fault .trimFail) ∧
      ∀ p, s.wsq.phase = some p → p ≠ .closing →
        files s { s with wrs.working := w } p (if s.tru.failFiled then [] else [(.trimFail, .quality)]) ∧
          (s.wrs.working.isSome = true → x = s.wsq.lastFault) := by
  cases filed : s.tru.failFiled
  · obtain ⟨w, x, e⟩ := fileFault_eq .trimFail { s with tru.failFiled := true }
    have reports : fileTrimFail s = fileFault .trimFail { s with tru.failFiled := true } := by
      rw [fileTrimFail, filed, reportFault_mild (by simp [FaultCode.severity])]
      rfl
    refine ⟨w, x, reports.trans e, nofun, fun idle _ => ?_, fun p phase before => ⟨?_, fun opened => ?_⟩⟩
    · have unfiled := (fileFault_unwelding (code := .trimFail) (s := { s with tru.failFiled := true }) idle).symm.trans e
      exact ⟨(congrArg (·.wrs.working) unfiled).symm, (congrArg (·.wsq.lastFault) unfiled).symm⟩
    · have entry := fileFault_files (code := .trimFail) (s := { s with tru.failFiled := true }) phase before
      rw [e] at entry
      exact entry
    · exact (congrArg (·.wsq.lastFault) e).symm.trans
        (fileFault_last (code := .trimFail) (s := { s with tru.failFiled := true }) phase before opened)
  · refine ⟨s.wrs.working, s.wsq.lastFault, ?_, fun _ => ⟨rfl, rfl⟩, nofun, fun p phase before => ⟨?_, fun _ => rfl⟩⟩
    · exact (if_pos filed).trans (by rw [← filed])
    · intro w opened room
      simp [opened]

/-- The faults of the open record are all that filing asks of the later state. -/
theorem files_mapped {s t u : State} {p : WeldPhase} {l : List (FaultCode × Severity)}
    (same : u.wrs.working.map (fun v => (v.record.faults, v.quality)) = t.wrs.working.map fun v => (v.record.faults, v.quality))
    (h : files s t p l) : files s u p l := fun w opened room => same.trans (h w opened room)

/-! ### The trimmer's events (O55) -/

section
variable {s : State} (awake : s.inReset = false)
include awake

/-- HOLD's end at a trimmer in FAULT, and with the trim late. -/
theorem holdTimeExpiry_trims (free : s.motionHeld = false) (unpaused : s.paused = false) (over' : due s.wsq.holdTimer = true)
    (going : s.wsq.abort = none) (trims : s.sched.trimEnable ≠ 0) :
    completes .holdTimeExpiry s fun t =>
      (s.tru.state = .fault → s.tru.window.isSome = true → s.tru.result = none →
        t.wsq.phase = some .trim ∧ t.tru = { s.tru with startWaiting := true }) ∧
      (s.tru.result = some .late → s.sched.coolS ≠ 0 →
        t.wsq.phase = some .cool ∧ t.wsq.coolTimer = some (s.sched.coolS * 1000) ∧ t.tru = s.tru) := by
  have run : exec .holdTimeExpiry s = .next (holdTimeEnds s) := exec_taken rfl awake (by simp [dueUnpaused, over', unpaused])
  have ends : holdTimeEnds s = endHold s := by simp [holdTimeEnds, free]
  refine completes_of run (ends.trans (endHold_trims going trims)) ?_
  obtain ⟨sched, tru, -⟩ := readPull_kept s.holdOver
  change _ = s.sched at sched
  change _ = s.tru at tru
  generalize readPull s.holdOver = u at sched tru
  rw [← sched, ← tru]
  exact ⟨enterTrim_waits, enterTrim_cools⟩

/-- The stroke comes back (R102). -/
theorem returnSwitchMade_back (returning : s.tru.state = .returning) (moves : s.tru.stopped = false) :
    completes .returnSwitchMade s fun t =>
      t.tru = { s.tru with
        state := .retracted, strokeTimer := none, result := some (if s.tru.failFiled then .failed else .done) } ∧
      (s.wsq.phase ≠ some .trim → t.wsq = s.wsq ∧ t.wrs = s.wrs ∧ t.pcu = s.pcu) ∧
      (s.wsq.phase = some .trim → s.sched.coolS ≠ 0 →
        t.wsq.phase = some .cool ∧ t.wsq.coolTimer = some (s.sched.coolS * 1000)) ∧
      sameBase s t ∧ t.cdr = s.cdr ∧ t.sht = s.sht ∧ t.lkc = s.lkc ∧ t.orq = s.orq ∧ t.stl = s.stl := by
  have run : exec .returnSwitchMade s = .next (returned s) := exec_taken rfl awake (by simp [returning, moves])
  have back : returned s = strokeBack s := by simp [returned, returning]
  refine completes_of run back ?_
  obtain ⟨tru, base, cdr, sht, lkc, orq, stl⟩ :=
    trimReport_kept (strokeResult s) { s with tru.state := .retracted, tru.strokeTimer := none }
  refine ⟨tru, fun other => ?_, fun trims lasts => ?_, base, cdr, sht, lkc, orq, stl⟩
  · rw [strokeBack, trimReport_other (by exact other)]
    exact ⟨rfl, rfl, rfl⟩
  · exact trimReport_cools (s := { s with tru.state := .retracted, tru.strokeTimer := none }) trims lasts

/-- The first half of a stroke times out (R102). -/
theorem trimStrokeTimerExpiry_advancing (over' : due s.tru.strokeTimer = true) (advancing : s.tru.state = .advancing) :
    completes .trimStrokeTimerExpiry s fun t =>
      t.tru = { s.tru with
        state := .returning, valve := .return, dwell := none, strokeTimer := some s.loc.trimStrokeMs, failFiled := true } ∧
      (s.tru.failFiled = true → t.wrs = s.wrs ∧ t.wsq = s.wsq) ∧
      (∀ p, s.wsq.phase = some p → p ≠ .closing →
        files s t p (if s.tru.failFiled then [] else [(.trimFail, .quality)]) ∧
          (s.wrs.working.isSome = true → t.wsq = s.wsq)) ∧
      (s.wsq.phase = none → s.tru.failFiled = false → t.wsq = { s.wsq with lastFault := .fault .trimFail }) ∧
      sameBase s t ∧ t.cdr = s.cdr ∧ t.pcu = s.pcu ∧ t.sht = s.sht ∧ t.lkc = s.lkc := by
  have run : exec .trimStrokeTimerExpiry s = .next (strokeTimesOut s) := exec_taken rfl awake (by simp [over', advancing])
  obtain ⟨w, x, e, again, idle, welding⟩ := fileTrimFail_eq s
  have turns : strokeTimesOut s = startReturn { s with tru.failFiled := true, wrs.working := w, wsq.lastFault := x } := by
    rw [strokeTimesOut, if_pos advancing, e]
  refine completes_of run turns ⟨rfl, fun filed => ?_, fun p phase before => ?_, fun unphased unfiled => ?_,
    ⟨rfl, rfl, rfl, rfl, rfl⟩, rfl, rfl, rfl, rfl⟩
  · obtain ⟨rfl, rfl⟩ := again filed
    exact ⟨rfl, rfl⟩
  · obtain ⟨entry, last⟩ := welding p phase before
    refine ⟨entry, fun opened => ?_⟩
    rw [last opened]
    rfl
  · obtain ⟨-, rfl⟩ := idle unphased unfiled
    rfl

/-- A stroke or a trim window ends in a report that files a fault first (R100, R102). -/
theorem trimReport_filed {result : TrimResult} {u : State} {l : List (FaultCode × Severity)} {p : WeldPhase}
    (h : files s u p l) : files s (trimReport result u) p l := files_mapped (trimReport_working result u) h

/-- The second half of a stroke times out (R102). -/
theorem trimStrokeTimerExpiry_returning (over' : due s.tru.strokeTimer = true) (returning : s.tru.state = .returning) :
    completes .trimStrokeTimerExpiry s fun t =>
      t.tru = { s.tru with
        state := .fault, valve := .return, strokeTimer := none, failFiled := true, result := some .failed } ∧
      (∀ p, s.wsq.phase = some p → p ≠ .closing → files s t p (if s.tru.failFiled then [] else [(.trimFail, .quality)])) ∧
      (s.wsq.phase = some .trim → s.sched.coolS ≠ 0 → t.wsq.phase = some .cool) ∧
      sameBase s t ∧ t.cdr = s.cdr ∧ t.sht = s.sht ∧ t.lkc = s.lkc := by
  have run : exec .trimStrokeTimerExpiry s = .next (strokeTimesOut s) := exec_taken rfl awake (by simp [over', returning])
  obtain ⟨w, x, e, -, -, welding⟩ :=
    fileTrimFail_eq { s with tru.state := .fault, tru.valve := .return, tru.strokeTimer := none }
  have fails : strokeTimesOut s = trimReport .failed
      { s with
        tru := { s.tru with state := .fault, valve := .return, strokeTimer := none, failFiled := true }
        wrs.working := w, wsq.lastFault := x } := by
    rw [strokeTimesOut, if_neg (by simp [returning]), e]
  refine completes_of run fails ?_
  obtain ⟨tru, base, cdr, sht, lkc, -, -⟩ := trimReport_kept .failed
    { s with
      tru := { s.tru with state := .fault, valve := .return, strokeTimer := none, failFiled := true }
      wrs.working := w, wsq.lastFault := x }
  refine ⟨tru, fun p phase before => ?_, fun trims lasts => ?_, base, cdr, sht, lkc⟩
  · obtain ⟨entry, -⟩ := welding p phase before
    exact trimReport_filed awake entry
  · exact (trimReport_cools (by exact trims) (by exact lasts)).1

/-- The trim window ends with no stroke (R100). -/
theorem trimWindowExpiry_late (over' : due s.tru.window = true) :
    completes .trimWindowExpiry s fun t =>
      t.tru = { s.tru with window := none, startWaiting := false, result := some .late } ∧
      (∀ p, s.wsq.phase = some p → p ≠ .closing → files s t p [(.trimLate, .quality)]) ∧
      (s.wsq.phase = some .trim → s.sched.coolS ≠ 0 → t.wsq.phase = some .cool) ∧
      sameBase s t ∧ t.cdr = s.cdr ∧ t.sht = s.sht ∧ t.lkc = s.lkc := by
  have run : exec .trimWindowExpiry s = .next (windowEnds s) := exec_taken rfl awake over'
  obtain ⟨w, x, e⟩ := fileFault_eq .trimLate
    { s with tru.window := none, tru.startWaiting := false, tru.result := some .late }
  have filed := reportFault_mild (code := .trimLate)
    (s := { s with tru.window := none, tru.startWaiting := false, tru.result := some .late }) (by simp [FaultCode.severity])
  have ends := congrArg (trimReport .late) (filed.trans e)
  refine completes_of run ends ?_
  obtain ⟨tru, base, cdr, sht, lkc, -, -⟩ := trimReport_kept .late
    { s with
      tru := { s.tru with window := none, startWaiting := false, result := some .late }
      wrs.working := w, wsq.lastFault := x }
  refine ⟨tru, fun p phase before => ?_, fun trims lasts => ?_, base, cdr, sht, lkc⟩
  · have entry := fileFault_files (code := .trimLate)
      (s := { s with tru.window := none, tru.startWaiting := false, tru.result := some .late }) phase before
    rw [e] at entry
    exact trimReport_filed awake entry
  · exact (trimReport_cools (by exact trims) (by exact lasts)).1

end

/-- Settles O55: each event by its own rule above. -/
theorem trimmerEvents : Obligations.TrimmerEvents := by
  intro s awake fails
  refine ⟨fun advancing moves => ?_, fun atEnd dwelt => ?_, fun fault settled => ?_, fun fault waits => ?_,
    holdTimeExpiry_trims awake, returnSwitchMade_back awake, trimStrokeTimerExpiry_advancing awake,
    trimStrokeTimerExpiry_returning awake, trimWindowExpiry_late awake⟩
  · exact exec_taken (effect := reachEnd) rfl awake (by simp [advancing, moves])
  · exact exec_taken (effect := startReturn) rfl awake (by simp [atEnd, dwelt])
  · rw [exec_taken (effect := returned) rfl awake (by simp [fault]), returned, if_pos fault, faultBack, settled]
    rfl
  · rw [exec_taken (effect := returned) rfl awake (by simp [fault]), returned, if_pos fault, faultBack, waits]
    rfl

end Sys2Proof.Machine

/-! HOLD, COOL and CLOSING end (O54). -/

namespace Sys2Proof.Machine

/-! ### What the phases from HOLD to CLOSING leave -/

/-- What a phase entered behind HOLD leaves of the weld. -/
structure LaterPhase (s t : State) : Prop where
  base : sameBase s t := by simp [sameBase]
  cdr : t.cdr = s.cdr := by simp
  sht : t.sht = s.sht := by simp
  lkc : t.lkc = s.lkc := by simp
  orq : t.orq = s.orq := by simp
  stl : t.stl = s.stl := by simp
  hold : t.wsq.holdTimer = s.wsq.holdTimer
  pull : t.pcu.pullAtHoldEnd = s.pcu.pullAtHoldEnd
  faults : t.wrs.working.map (fun u => (u.record.faults, u.quality)) = s.wrs.working.map fun u => (u.record.faults, u.quality)

namespace LaterPhase
variable {s t u : State}

theorem trans (h : LaterPhase s t) (k : LaterPhase t u) : LaterPhase s u where
  base := sameBase_trans h.base k.base
  cdr := k.cdr.trans h.cdr
  sht := k.sht.trans h.sht
  lkc := k.lkc.trans h.lkc
  orq := k.orq.trans h.orq
  stl := k.stl.trans h.stl
  hold := k.hold.trans h.hold
  pull := k.pull.trans h.pull
  faults := k.faults.trans h.faults

end LaterPhase

section
variable {s : State}

theorem enterPhase_later (p : WeldPhase) (s : State) : LaterPhase s (enterPhase p s) where
  hold := by rw [enterPhase_eq]
  pull := by rw [enterPhase_eq]
  faults := by rw [enterPhase_eq]

/-- CLOSING with an open record: it is completed, and its write starts (R106, R173). -/
theorem enterClosing_opened {w : WorkingRecord} (opened : s.wrs.working = some w) :
    enterClosing s =
      startWrite (completedRecord (enterPhase .closing s) w)
        { enterPhase .closing s with
          wrs.working := some { w with record := completedRecord (enterPhase .closing s) w } } := by
  have kept : (enterPhase .closing s).wrs.working = some w := by rw [enterPhase_eq]; exact opened
  simp only [enterClosing, kept]

theorem enterClosing_unopened (unopened : s.wrs.working = none) : enterClosing s = enterPhase .closing s := by
  have kept : (enterPhase .closing s).wrs.working = none := by rw [enterPhase_eq]; exact unopened
  simp only [enterClosing, kept]

theorem enterClosing_later (s : State) : LaterPhase s (enterClosing s) := by
  cases opened : s.wrs.working with
  | none =>
    rw [enterClosing_unopened opened]
    exact enterPhase_later .closing s
  | some w =>
    rw [enterClosing_opened opened]
    refine (enterPhase_later .closing s).trans { hold := rfl, pull := rfl, faults := ?_ }
    have kept : (enterPhase .closing s).wrs.working = some w := by rw [enterPhase_eq]; exact opened
    rw [kept]
    rfl

theorem endCool_later (s : State) : LaterPhase s (endCool s) :=
  LaterPhase.trans (t := { s with
      wsq.coolTimer := none
      wsq.expired := false
      wsq.coolingDone := s.wsq.coolAt.map fun t => (s.now - t) / 1000
      pcu.driftWatch := false }) { hold := rfl, pull := rfl, faults := rfl } (enterClosing_later _)

theorem enterCool_later (s : State) : LaterPhase s (enterCool s) := by
  have entered := (enterPhase_later .cool s).trans (u := { enterPhase .cool s with
      wsq.coolTimer := some (seconds s.sched.coolS)
      wsq.coolAt := some s.now
      wsq.expired := false
      pcu.lowestForce := none
      pcu.driftWatch := s.wsq.kind == .closure && s.pcu.pullAtHoldEnd.isSome }) { hold := rfl, pull := rfl, faults := rfl }
  unfold enterCool
  dsimp only
  split
  · exact entered.trans (endCool_later _)
  · exact entered

theorem enterTrim_later (s : State) : LaterPhase s (enterTrim s) := by
  have starts (u : State) : LaterPhase u (requestStroke u) := by
    unfold requestStroke
    (repeat' split) <;> exact { hold := rfl, pull := rfl, faults := rfl }
  unfold enterTrim
  dsimp only
  split
  · exact (enterPhase_later .trim s).trans (enterCool_later _)
  · exact (enterPhase_later .trim s).trans (starts _)

/-! ### The pull at HOLD end (R48) -/

/-- The band around the target, compared unrounded. -/
theorem pullInBand_iff (target : Nat) (pull : Int) :
    pullInBand s target pull = true ↔
      ¬max (target * s.loc.pullTolPct) (100 * s.loc.pullMinBand) < 100 * (pull - target).natAbs := by
  have width : halfWidth100 s target = ((max (target * s.loc.pullTolPct) (100 * s.loc.pullMinBand) : Nat) : Int) := by
    rw [halfWidth100]; omega
  rw [pullInBand, width, Bool.and_eq_true, decide_eq_true_iff, decide_eq_true_iff]
  omega

/-- The open record and the time are all that filing asks of the earlier state. -/
theorem files_from {s s' t : State} {p : WeldPhase} {l : List (FaultCode × Severity)}
    (working : s'.wrs.working = s.wrs.working) (now : s'.now = s.now) (h : files s' t p l) : files s t p l :=
  fun w opened room => by
    have filed := h w (working.trans opened) room
    rwa [now] at filed

/-- STRESS_DEVIATION is filed for a pull that is read outside its band, and nothing else. -/
theorem readPull_files {target : Nat} (holds : s.wsq.phase = some .hold) (known : s.pcu.pullTarget = some target) :
    files s (readPull s) .hold
      (if s.wsq.kind = .closure ∧ s.pcu.tripped = false ∧
          max (target * s.loc.pullTolPct) (100 * s.loc.pullMinBand) < 100 * (s.pcu.force - target).natAbs
        then [(.stressDeviation, .quality)] else []) := by
  have nothing : files s s .hold [] := fun w opened _ => by simp [opened]
  unfold readPull
  by_cases reads : s.wsq.kind = .closure ∧ s.pcu.tripped = false
  · have wanted : s.pcu.pullTarget.getD 0 = target := by rw [known]; rfl
    simp only [if_pos reads, wanted]
    split
    · next within =>
      rw [if_neg fun h => (pullInBand_iff _ _).mp within h.2.2]
      exact nothing
    · next outside =>
      rw [if_pos ⟨reads.1, reads.2, Classical.not_not.mp fun h => outside ((pullInBand_iff _ _).mpr h)⟩,
        reportFault_mild (by simp [FaultCode.severity])]
      have entry := fileFault_files (code := .stressDeviation) (s := { s with pcu.pullAtHoldEnd := some s.pcu.force }) holds
        (by decide)
      exact files_from (show _ = s.wrs.working from rfl) rfl entry
  · simp only [if_neg reads]
    rw [if_neg fun h => reads ⟨h.1, h.2.1⟩]
    exact nothing

/-- HOLD ends in TRIM or COOL; what either leaves. -/
theorem endHold_later (s : State) : LaterPhase (readPull s.holdOver) (endHold s) := by
  show LaterPhase (readPull s.holdOver) (ite _ _ _)
  split
  · exact enterCool_later _
  · exact enterTrim_later _

end

/-! ### The events (O54) -/

section
variable {s : State} (awake : s.inReset = false)
include awake

theorem pullSettlePoint_holds {n : Nat} (holds : s.wsq.phase = some .hold) (unasked : s.wsq.pullRequested = false)
    (unpaused : s.paused = false) (left : s.wsq.holdTimer = some n) (near : n ≤ s.loc.pullSettleMs) :
    completes .pullSettlePoint s fun t =>
      t.wsq = { s.wsq with pullRequested := true } ∧ (s.motionHeld = false → s.wsq.barred = false → t.pcu.mode = .hold) ∧
        (s.motionHeld = true ∨ s.wsq.barred = true → t.pcu = s.pcu) ∧ sameBase s t ∧ t.cdr = s.cdr ∧ t.tru = s.tru ∧
        t.flash = s.flash ∧ t.stl = s.stl ∧ t.sht = s.sht ∧ t.lkc = s.lkc ∧ t.orq = s.orq ∧ t.wrs = s.wrs := by
  have run : exec .pullSettlePoint s = .next (settlePull s) :=
    exec_taken rfl awake (by simp [settlePoint, holds, unasked, unpaused, left, near])
  by_cases still : s.motionHeld = true ∨ s.wsq.barred = true
  · have stays : settlePull s = { s with wsq.pullRequested := true } := if_pos (by simpa using still)
    refine completes_of run stays ⟨rfl, fun free unbarred => ?_, fun _ => rfl, ⟨rfl, rfl, rfl, rfl, rfl⟩, rfl, rfl, rfl, rfl, rfl,
      rfl, rfl, rfl⟩
    simp [free, unbarred] at still
  · have moves : settlePull s = platenHold { s with wsq.pullRequested := true } := if_neg (by simpa using still)
    refine completes_of run moves ⟨rfl, fun _ _ => platenHold_mode _, fun h => absurd h still, ⟨rfl, rfl, rfl, rfl, rfl⟩, rfl,
      rfl, rfl, rfl, rfl, rfl, rfl, rfl⟩

theorem holdTimeExpiry_ends (free : s.motionHeld = false) (unpaused : s.paused = false) (over' : due s.wsq.holdTimer = true) :
    completes .holdTimeExpiry s fun t =>
      t.wsq.holdTimer = none ∧ sameBase s t ∧ t.cdr = s.cdr ∧ t.sht = s.sht ∧ t.lkc = s.lkc ∧ t.orq = s.orq ∧
        t.stl = s.stl ∧
        (s.wsq.kind = .closure → s.pcu.tripped = false → t.pcu.pullAtHoldEnd = some s.pcu.force) ∧
        (s.wsq.kind = .join ∨ s.pcu.tripped = true → t.pcu.pullAtHoldEnd = s.pcu.pullAtHoldEnd) ∧
        (∀ target, s.wsq.phase = some .hold → s.pcu.pullTarget = some target →
          let off := 100 * (s.pcu.force - target).natAbs
          let width := max (target * s.loc.pullTolPct) (100 * s.loc.pullMinBand)
          files s t .hold
            (if s.wsq.kind = .closure ∧ s.pcu.tripped = false ∧ width < off then [(.stressDeviation, .quality)] else [])) ∧
        (s.wsq.abort = none → s.sched.trimEnable ≠ 0 → s.tru.result = none → s.tru.state = .retracted →
          s.tru.window.isSome = true →
          t.wsq.phase = some .trim ∧
            t.tru = { s.tru with
              windowKept := s.tru.window, window := none, startWaiting := false, state := .advancing, valve := .advance
              strokeTimer := some s.loc.trimStrokeMs }) ∧
        (s.wsq.abort.isSome = true ∨ s.sched.trimEnable = 0 → s.sched.coolS ≠ 0 →
          t.wsq.phase = some .cool ∧ t.wsq.coolTimer = some (s.sched.coolS * 1000) ∧ t.wsq.coolAt = some s.now ∧
            t.tru = s.tru) := by
  have run : exec .holdTimeExpiry s = .next (holdTimeEnds s) := exec_taken rfl awake (by simp [dueUnpaused, over', unpaused])
  have ends : holdTimeEnds s = endHold s := by simp [holdTimeEnds, free]
  refine completes_of run ends ?_
  have later := endHold_later s
  obtain ⟨sched, tru, loc, now⟩ := readPull_kept s.holdOver
  change _ = s.sched at sched
  change _ = s.tru at tru
  change _ = s.loc at loc
  change _ = s.now at now
  obtain ⟨w, x, e⟩ := readPull_eq s.holdOver
  have pull := congrArg (·.pcu.pullAtHoldEnd) e
  have read : LaterPhase { s.holdOver with
      wrs.working := w, wsq.lastFault := x
      pcu.pullAtHoldEnd :=
        if s.wsq.kind = .closure ∧ s.pcu.tripped = false then some s.pcu.force else s.pcu.pullAtHoldEnd } (endHold s) := by
    rw [e] at later; exact later
  refine ⟨read.hold, read.base, read.cdr, read.sht, read.lkc, read.orq, read.stl, fun closure good => ?_, fun skips => ?_,
    fun target holds known => ?_, fun going trims undecided ready opened => ?_, fun skips lasts => ?_⟩
  · rw [read.pull]
    exact if_pos ⟨closure, good⟩
  · rw [read.pull]
    refine if_neg fun h => ?_
    obtain join | bad := skips
    · rw [join] at h; cases h.1
    · rw [bad] at h; cases h.2
  · exact files_mapped later.faults (readPull_files (s := s.holdOver) (target := target) holds known)
  · rw [endHold_trims going trims]
    generalize readPull s.holdOver = u at tru loc
    rw [← tru, ← loc]
    exact enterTrim_starts (by rw [tru]; exact ready) (by rw [tru]; exact opened) (by rw [tru]; exact undecided)
  · rw [endHold_cools skips]
    generalize readPull s.holdOver = u at tru sched now
    rw [← tru, ← sched, ← now]
    obtain ⟨phase, timer, since⟩ := enterCool_lasts (s := u) (by rw [sched]; exact lasts)
    exact ⟨phase, timer, since, by simp⟩

omit awake in
/-- The record's outcome (R29). -/
theorem outcomeOf_eq (abort : Option Abort) (quality : Bool) (trim : Option TrimResult) (trimEnable : Nat) :
    outcomeOf abort quality trim trimEnable =
      abort.elim
        (if quality = false ∧ (trim = some .done ∨ (trim = some .skipped ∧ trimEnable = 0)) then .good else .reject)
        fun a => if a.phase = .preheat ∨ a.phase = .flash ∨ a.phase = .boost then .incomplete else .reject := by
  cases abort with
  | none => cases quality <;> simp [outcomeOf]
  | some a =>
    unfold outcomeOf
    obtain ⟨cause, phase, step⟩ := a
    cases phase <;> simp

theorem coolingTimeExpiry_closes {w : WorkingRecord} (free : s.motionHeld = false) (unpaused : s.paused = false)
    (over' : due s.wsq.coolTimer = true) (opened : s.wrs.working = some w) :
    completes .coolingTimeExpiry s fun t =>
      t.wsq.phase = some .closing ∧ t.wsq.coolTimer = none ∧ t.pcu.driftWatch = false ∧
        t.wsq.coolingDone = s.wsq.coolAt.map (fun c => (s.now - c) / 1000) ∧ t.wrs.writeTimer = some 50 ∧
        t.wrs.writing.map (·.outcome) = some (outcomeOf s.wsq.abort w.quality s.tru.result s.sched.trimEnable) ∧
        t.wrs.slots = s.wrs.slots ∧ sameBase s t ∧ t.cdr = s.cdr ∧ t.tru = s.tru ∧ t.sht = s.sht ∧ t.lkc = s.lkc := by
  have run : exec .coolingTimeExpiry s = .next (coolTimeEnds s) := exec_taken rfl awake (by simp [dueUnpaused, over', unpaused])
  have ends : coolTimeEnds s = endCool s := by simp [coolTimeEnds, free]
  refine completes_of run (ends.trans (enterClosing_opened (by exact opened))) ?_
  rw [enterPhase_eq]
  exact ⟨rfl, rfl, rfl, rfl, rfl, rfl, rfl, ⟨rfl, rfl, rfl, rfl, rfl⟩, rfl, rfl, rfl, rfl⟩

end

/-! ### The record is written (R30, R173) -/

/-- A weld that ends while its station is held leaves the station so. -/
theorem endWeld_station (outcome : OrderOutcome) (reason : Reason) (weldNo : Option Nat) (s : State) :
    (endWeld outcome reason weldNo s).wsq.station = if s.motionHeld then s.wsq.station else .clamped := by
  cases held : s.motionHeld
  · exact (endWeld_written held outcome reason weldNo).1
  · have left : (leaveWeld s).wsq.station = s.wsq.station := by simp only [leaveWeld, held, if_true]; rfl
    simp [endWeld, left]

/-- A weld's end leaves both sets neutral, held or not (R22). -/
theorem endWeld_sets (outcome : OrderOutcome) (reason : Reason) (weldNo : Option Nat) (s : State) :
    let t := endWeld outcome reason weldNo s
    t.wsq.phase = none ∧ t.wsq.pendingSet = .neutral ∧ t.wsq.inForce = .neutral ∧ t.wsq.switchPending = false := by
  cases held : s.motionHeld
  · obtain ⟨-, phase, -, sets⟩ := endWeld_written held outcome reason weldNo
    exact ⟨phase, sets⟩
  · have left : ∃ r, (leaveWeld s).wsq = { (neutralSets (pcuWeldEnd (wsqWeldEnd s))).wsq with returnState := r } := by
      simp only [leaveWeld, held, if_true]
      exact ⟨_, rfl⟩
    obtain ⟨r, left⟩ := left
    simp only [endWeld, endOrder_frame, left]
    exact ⟨rfl, rfl, rfl, rfl⟩

/-- A record is written (R173), and ends its weld where it is in CLOSING. -/
theorem recordWriteComplete_written {s : State} {r : WeldRecord} {i : Nat} (awake : s.inReset = false)
    (writes : s.wrs.writing = some r) (slot : reservedSlot s.wrs = some i) :
    completes .recordWriteComplete s fun t =>
      t.wrs = { s.wrs with
        slots := s.wrs.slots.set i (if r.outcome = .good then .valid r else .held r)
        newest := i
        marker := none
        writing := none
        writeTimer := none
        working := none } ∧ sameBase s t ∧ t.cdr = s.cdr ∧ t.sht = s.sht ∧ t.tru = s.tru ∧ t.stl = s.stl ∧
      (s.wsq.phase = some .closing →
        t.wsq.phase = none ∧ t.wsq.station = (if s.motionHeld then s.wsq.station else .clamped) ∧
          t.wsq.pendingSet = ⟨100, 0, 0, 0⟩ ∧ t.wsq.inForce = ⟨100, 0, 0, 0⟩ ∧ t.wsq.switchPending = false ∧
          ∀ o, executing s = some o →
            outgoing t =
              outgoing s ++ [⟨.notice, o.src, doneBody o.tag o.kind.code r.outcome r.cause (some r.weldNo), .doneNotice⟩]) ∧
      (s.wsq.phase ≠ some .closing → t.wsq = s.wsq ∧ t.pcu = s.pcu ∧ t.orq = s.orq ∧ t.lkc = s.lkc) := by
  have run : exec .recordWriteComplete s = .next (writeEnds s) := exec_taken rfl awake (by simp [writes])
  have written : (completeWrite r s).wrs = { s.wrs with
      slots := s.wrs.slots.set i (writtenSlot r)
      newest := i
      marker := none
      writing := none
      writeTimer := none
      working := none } := by simp [completeWrite, slot]
  by_cases closes : s.wsq.phase = some .closing
  · have ends : writeEnds s = endWeld r.outcome r.cause (some r.weldNo) (completeWrite r s) := by
      simp only [writeEnds, writes, if_pos closes]
    obtain ⟨phase, pending, inForce, switched⟩ := endWeld_sets r.outcome r.cause (some r.weldNo) (completeWrite r s)
    have station := endWeld_station r.outcome r.cause (some r.weldNo) (completeWrite r s)
    refine completes_of run ends ⟨?_, by simp [sameBase], by simp, by simp, by simp, by simp, fun _ => ?_, fun h => absurd closes h⟩
    · rw [endWeld, endOrder_wrs, (leaveWeld_frame _).2.2.2.2.2.2.2.2.2.2.2.2.2.2.2]
      exact written
    · refine ⟨phase, ?_, pending, inForce, switched, fun o runs => ?_⟩
      · rw [station]
        rfl
      · exact outgoing_endWeld r.outcome r.cause (some r.weldNo) (completeWrite r s) o runs
  · have ends : writeEnds s = completeWrite r s := by simp only [writeEnds, writes, if_neg closes]
    exact completes_of run ends ⟨written, by simp [sameBase], rfl, rfl, rfl, rfl, fun h => absurd h closes, fun _ =>
      ⟨rfl, rfl, rfl, rfl⟩⟩

/-- Settles O54. -/
theorem holdCoolAndClose : Obligations.HoldCoolAndClose := by
  intro s awake
  refine ⟨fun n => pullSettlePoint_holds awake, fun held unpaused => ⟨fun over' => ?_, fun over' => ?_⟩,
    holdTimeExpiry_ends awake, fun w free unpaused over' opened => ?_, fun r i => recordWriteComplete_written awake⟩
  · rw [exec_taken (effect := holdTimeEnds) rfl awake (by simp [dueUnpaused, over', unpaused]), holdTimeEnds, held]
    rfl
  · rw [exec_taken (effect := coolTimeEnds) rfl awake (by simp [dueUnpaused, over', unpaused]), coolTimeEnds, held]
    rfl
  · have closes := coolingTimeExpiry_closes awake free unpaused over' opened
    rw [outcomeOf_eq] at closes
    cases aborts : s.wsq.abort <;> rw [aborts] at closes <;> exact closes

end Sys2Proof.Machine

/-! The timers of PREHEAT and FLASH (O52). -/

namespace Sys2Proof.Machine

/-! ### The contact interval's end (R76, R77) -/

section
variable {s : State}

theorem timingStopped_still (other : s.stl.pause ≠ .resuming) : timingStopped s = s := if_neg other

/-- A CONTACT step that waited for the drive off report goes on to PART (R77). -/
theorem driveOffReport_parts (waits : s.flash.offAwaited = true) (going : s.wsq.abort = none) (free : s.motionHeld = false) :
    driveOffReport s = { platenRetract s.sched.preOpenDist s with flash.offAwaited := false, flash.step := some .part } := by
  have parts : contactStepEnds s =
      { platenRetract s.sched.preOpenDist s with flash.offAwaited := false, flash.step := some .part } :=
    if_pos ⟨waits, by simp [State.aborting, going], free⟩
  have unawaited (u : State) (none_under_way : u.wsq.abort = none) : abortStepEnds u = u := by
    simp [abortStepEnds, awaitsDriveOff, none_under_way]
  rw [driveOffReport, parts]
  exact unawaited _ (by simp [going])

theorem platenRetract_mode (d : Nat) (runs : s.stl.stop = .run) :
    (platenRetract d s).pcu.mode = .retract (clampInt 0 s.loc.strokeFwd (s.pcu.position - d)) := by
  rw [platenRetract, platenMove, if_pos runs]
  simp only [platenMode, runs, if_true]
  rfl

/-- A retract is a move of the platen, and of nothing else. -/
theorem platenRetract_eq (d : Nat) (s : State) : platenRetract d s = { s with pcu := (platenRetract d s).pcu } := by
  unfold platenRetract platenMove platenMode
  split <;> rfl

end

/-- The contact interval ends while the drive is READY: it is off at once, and the part step begins (R52, R76, R77). -/
theorem contactIntervalExpiry_ready {s : State} (awake : s.inReset = false) (unpaused : s.paused = false)
    (over' : due s.wsq.contactTimer = true) (ready : s.cdr.drive = .ready) (going : s.wsq.abort = none)
    (free : s.motionHeld = false) (runs : s.stl.stop = .run) :
    completes .contactIntervalExpiry s fun t =>
      t.cdr.drive = .blocked ∧ t.cdr.mode = .off ∧ t.flash = { s.flash with step := some .part, offAwaited := false } ∧
        t.wsq = { s.wsq with contactTimer := none } ∧
        t.pcu.mode = .retract (clampInt 0 s.loc.strokeFwd (s.pcu.position - s.sched.preOpenDist)) ∧
        sameBase s t ∧ t.sht = s.sht ∧ t.lkc = s.lkc ∧ t.wrs = s.wrs ∧ t.tru = s.tru ∧ t.orq = s.orq := by
  have run : exec .contactIntervalExpiry s = .next (contactEnds s) := exec_taken rfl awake (by simp [dueUnpaused, over', unpaused])
  have other : s.stl.pause ≠ .resuming := fun h => by simp [State.paused, h] at unpaused
  have blocks : ∃ c, blockDrive { s with wsq.contactTimer := none, flash.offAwaited := true } =
      { s with wsq.contactTimer := none, flash.offAwaited := true, cdr := c } ∧ c.drive = .blocked ∧ c.mode = .off := by
    unfold blockDrive
    exact ⟨_, by rw [if_neg (by simp [ready])], rfl, rfl⟩
  obtain ⟨c, blocked, drive, mode⟩ := blocks
  have ends : contactEnds s =
      { platenRetract s.sched.preOpenDist { s with wsq.contactTimer := none, flash.offAwaited := true, cdr := c } with
        flash.offAwaited := false, flash.step := some .part } := by
    have stops : contactEnds s = driveOff { s with wsq.contactTimer := none, flash.offAwaited := true } := by
      simp [contactEnds, normalOff, ready]
    rw [stops, driveOff, blocked, timingStopped_still (by exact other)]
    exact driveOffReport_parts (s := { s with wsq.contactTimer := none, flash.offAwaited := true, cdr := c }) rfl going free
  refine completes_of run ends ?_
  have moves := platenRetract_mode (s := { s with wsq.contactTimer := none, flash.offAwaited := true, cdr := c })
    s.sched.preOpenDist runs
  rw [platenRetract_eq]
  exact ⟨drive, mode, rfl, rfl, moves, ⟨rfl, rfl, rfl, rfl, rfl⟩, rfl, rfl, rfl, rfl, rfl⟩

/-! ### The open interval's end (R21, R77, R79) -/

section
variable {s : State}

/-- FLASH is entered behind PREHEAT or at admission (R79). -/
theorem enterFlash_written (s : State) :
    let t := enterFlash s
    t.wsq =
        { (enterPhase .flash s).wsq with flashTimer := some (s.sched.flashTimeS * 1000) } ∧
      t.flash = { s.flash with feed := some .approach, step := none, flashTime := 0 } ∧
      (∀ w, t.wrs.working = some w → w.record.flashScale = some t.wsq.inForce.scale) ∧
      sameBase s t ∧ t.cdr = s.cdr ∧ t.lkc = s.lkc ∧ t.sht = s.sht := by
  unfold enterFlash startContactMove onRecord platenSpeed platenMode
  dsimp only
  rw [enterPhase_eq]
  refine ⟨rfl, rfl, fun w opened => ?_, ⟨rfl, rfl, rfl, rfl, rfl⟩, rfl, rfl, rfl⟩
  obtain ⟨v, -, rfl⟩ := Option.map_eq_some_iff.mp opened
  rfl

/-- The preheat adaptation writes the pending set (R21). -/
theorem adaptPreheat_scaled (wanted : s.sched.preEnergyRef ≠ 0) (drawn : energyKj s.cdr.carrierHz s.cdr.energy.preheat ≠ 0) :
    adaptPreheat s =
      { s with
        wsq.pendingSet.scale :=
          adaptedScale s.sched.preEnergyRef (energyKj s.cdr.carrierHz s.cdr.energy.preheat)
        wsq.switchPending := true } := if_neg (by simp [wanted, drawn])

theorem adaptPreheat_none
    (skips : s.sched.preEnergyRef = 0 ∨ energyKj s.cdr.carrierHz s.cdr.energy.preheat = 0) : adaptPreheat s = s := if_pos skips

/-- The state in which the open interval is over, and its preheat cycle counted. -/
def State.openOver (s : State) : State := { s with wsq.openTimer := none, flash.cyclesDone := s.flash.cyclesDone + 1 }

theorem adaptedScale_eq (r e : Nat) : adaptedScale r e = clampNat 80 120 ((200 * r + e) / (2 * e)) := by
  rw [adaptedScale, roundDiv]
  congr 2
  omega

end

section
variable {s : State} (awake : s.inReset = false) (unpaused : s.paused = false)
include awake unpaused

theorem openIntervalExpiry_next (over' : due s.wsq.openTimer = true) (more : s.flash.cyclesDone + 1 < s.sched.preCycles) :
    completes .openIntervalExpiry s fun t =>
      t.flash = { s.flash with step := some .advance, cyclesDone := s.flash.cyclesDone + 1 } ∧
        t.wsq = { s.wsq with openTimer := none } ∧ t.pcu.contactMove = .advance ∧ t.pcu.contactSense = true ∧
        sameBase s t ∧ t.cdr = s.cdr ∧ t.wrs = s.wrs ∧ t.lkc = s.lkc ∧ t.sht = s.sht := by
  have run : exec .openIntervalExpiry s = .next (openStepEnds s) := exec_taken rfl awake (by simp [dueUnpaused, over', unpaused])
  exact completes_of run (if_pos more) ⟨rfl, rfl, rfl, rfl, ⟨rfl, rfl, rfl, rfl, rfl⟩, rfl, rfl, rfl, rfl⟩

theorem openIntervalExpiry_flashes (over' : due s.wsq.openTimer = true) (done : s.sched.preCycles ≤ s.flash.cyclesDone + 1) :
    completes .openIntervalExpiry s fun t =>
      let e := energyKj s.cdr.carrierHz s.cdr.energy.preheat
      let r := s.sched.preEnergyRef
      t.wsq.phase = some .flash ∧ t.flash.feed = some .approach ∧ t.flash.step = none ∧
        t.flash.cyclesDone = s.flash.cyclesDone + 1 ∧ t.wsq.flashTimer = some (s.sched.flashTimeS * 1000) ∧
        (r ≠ 0 → e ≠ 0 →
          t.wsq.inForce = { s.wsq.pendingSet with scale := clampNat 80 120 ((200 * r + e) / (2 * e)) } ∧
            t.wsq.switchPending = false) ∧
        (r = 0 ∨ e = 0 → t.wsq.inForce = if s.wsq.switchPending then s.wsq.pendingSet else s.wsq.inForce) ∧
        t.wsq.active = formActive s.sched t.wsq.inForce s.wsq.active .flash ∧
        (∀ w, t.wrs.working = some w → w.record.flashScale = some t.wsq.inForce.scale) ∧
        sameBase s t ∧ t.cdr = s.cdr ∧ t.lkc = s.lkc ∧ t.sht = s.sht := by
  have run : exec .openIntervalExpiry s = .next (openStepEnds s) := exec_taken rfl awake (by simp [dueUnpaused, over', unpaused])
  have ends : openStepEnds s = enterFlash (adaptPreheat s.openOver) := if_neg (Nat.not_lt.mpr done)
  refine completes_of run ends ?_
  obtain ⟨wsq, flash, scale, base, cdr, lkc, sht⟩ := enterFlash_written (adaptPreheat s.openOver)
  rw [enterPhase_eq] at wsq
  generalize enterFlash (adaptPreheat s.openOver) = t at wsq flash scale base cdr lkc sht
  by_cases skips : s.sched.preEnergyRef = 0 ∨ energyKj s.cdr.carrierHz s.cdr.energy.preheat = 0
  · rw [adaptPreheat_none (by exact skips)] at wsq flash base cdr lkc sht
    rw [wsq] at scale ⊢
    rw [flash]
    exact ⟨rfl, rfl, rfl, rfl, rfl, fun r e => absurd skips (by simp [r, e]), fun _ => rfl, rfl, scale, base, cdr, lkc, sht⟩
  · obtain ⟨wanted, drawn⟩ := not_or.mp skips
    rw [adaptPreheat_scaled (by exact wanted) (by exact drawn)] at wsq flash base cdr lkc sht
    rw [wsq] at scale ⊢
    rw [flash]
    refine ⟨rfl, rfl, rfl, rfl, rfl, fun _ _ => ⟨?_, rfl⟩, fun h => absurd h skips, rfl, scale, base, cdr, lkc, sht⟩
    rw [← adaptedScale_eq]
    rfl

/-! ### The flash is lost, or lasts too long (R85, R86) -/

/-- FLASH_LOST and FLASH_TIMEOUT start the abort path of FLASH or BOOST. -/
theorem flashFault_aborts {code : FaultCode} {u : State} {p : WeldPhase} (severe : code.severity u.cdr.overcurrentCount = .abort)
    (base : sameBase s u) (phase : u.wsq.phase = some p) (current : p = .flash ∨ p = .boost) (going : u.wsq.abort = none)
    (ending : u.wsq.ending = none) :
    let t := reportFault code u
    t.wsq.abort.map (fun a => (a.cause, a.phase)) = some (code, p) ∧ t.wsq.flashTimer = none ∧
      t.flash.feed = none ∧ t.flash.lostTimer = none ∧
      t.flash.flashTime = u.wsq.flashTimer.elim u.flash.flashTime (fun left => u.sched.flashTimeS * 1000 - left) ∧
      sameBase s t := by
  have begun : endingBegun u = false := by simp [endingBegun, ending]
  have flashes : flashPhase p := .inr current
  obtain ⟨-, path⟩ := reportFault_flashPhase severe phase going begun flashes
  obtain ⟨w, x, e⟩ := fileFault_eq code u
  have starts : ((fileFault code u).abortStarts code p).aborting = true := by rw [State.abortStarts, stopWork_eq]; rfl
  have flash := path.flash (by simpa [State.aborting] using starts)
  have timer : (reportFault code u).wsq.flashTimer = none := by
    rw [path.wsq, e, State.abortStarts, stopWork_eq]
    rfl
  rw [e, State.abortStarts, stopWork_eq] at flash
  refine ⟨reportFault_abortOf severe phase going begun (.inl flashes), timer, ?_, ?_, ?_,
    sameBase_trans base (reportFault_drive code u).base⟩
  all_goals rw [flash]; rfl

end

/-- Settles O52. -/
theorem preheatAndFlashTimers : Obligations.PreheatAndFlashTimers := by
  intro s awake
  refine ⟨fun paused c timed => ?_, fun unpaused => ⟨fun over' => ⟨fun runs => ?_, fun ready going free running => ?_⟩,
    fun over' => ⟨openIntervalExpiry_next awake unpaused over', openIntervalExpiry_flashes awake unpaused over'⟩,
    fun over' => ?_, fun p phase current going ending => ⟨fun over' => ?_, fun over' => ?_⟩⟩⟩
  · have waits (timer : Timer) : dueUnpaused timer s = false := by simp [dueUnpaused, paused]
    simp only [List.mem_cons, List.not_mem_nil, or_false] at timed
    rcases timed with rfl | rfl | rfl | rfl | rfl <;> exact exec_impossible rfl (waits _)
  · rw [exec_taken (effect := contactEnds) rfl awake (by simp [dueUnpaused, over', unpaused]), contactEnds]
    simp [normalOff, runs]
  · exact contactIntervalExpiry_ready awake unpaused over' ready going free running
  · exact exec_taken (effect := streakEnds) rfl awake (by simp [dueUnpaused, over', unpaused])
  · obtain ⟨aborts, -, feed, lost, -, base⟩ := flashFault_aborts (code := .flashLost) (u := { s with flash.lostTimer := none })
      awake unpaused rfl ⟨rfl, rfl, rfl, rfl, rfl⟩ phase current going ending
    have run : exec .flashLostExpiry s = .next (flashLoses s) := exec_taken rfl awake (by simp [dueUnpaused, over', unpaused])
    exact ⟨_, run, aborts, lost, feed, base⟩
  · have timer : s.wsq.flashTimer = some 0 := by simpa [due] using over'
    have stopped : stopFlashTime s = { s with wsq.flashTimer := none, flash.flashTime := s.sched.flashTimeS * 1000 } := by
      simp [stopFlashTime, timer, seconds]
    obtain ⟨aborts, none_left, feed, -, time, base⟩ := flashFault_aborts (code := .flashTimeout)
      (u := { s with wsq.flashTimer := none, flash.flashTime := s.sched.flashTimeS * 1000 })
      awake unpaused rfl ⟨rfl, rfl, rfl, rfl, rfl⟩ phase current going ending
    have run : exec .flashTimeExpiry s = .next (flashTimesOut s) := exec_taken rfl awake (by simp [dueUnpaused, over', unpaused])
    exact completes_of run (congrArg (reportFault .flashTimeout) stopped) ⟨aborts, none_left, time, feed, base⟩

end Sys2Proof.Machine

/-! UPSET: its entry, its current and its end (O53). -/

namespace Sys2Proof.Machine

/-! ### The end of current where no abort path waits for it -/

/-- The end of current, with no path that waits for the drive off report: the weld stays as it is, and where no pause is ended so
do flash control, the platen and the pause; with a path under way the platen does in any case. -/
structure DriveOnly (s t : State) : Prop where
  wsq : t.wsq = s.wsq
  working : t.wrs.working = s.wrs.working
  still : s.stl.stays → s.flash.offAwaited = false → t.flash = s.flash ∧ t.pcu = s.pcu ∧ t.stl = s.stl
  calm : s.aborting = true → t.pcu = s.pcu

namespace DriveOnly
variable {s t u : State}

theorem refl (s : State) : DriveOnly s s := ⟨rfl, rfl, fun _ _ => ⟨rfl, rfl, rfl⟩, fun _ => rfl⟩

theorem trans (h : DriveOnly s t) (k : DriveOnly t u) : DriveOnly s u where
  wsq := k.wsq.trans h.wsq
  working := k.working.trans h.working
  still stays unawaited := by
    obtain ⟨flash, pcu, stl⟩ := h.still stays unawaited
    obtain ⟨flash', pcu', stl'⟩ := k.still (by rwa [stl]) (by rwa [flash])
    exact ⟨flash'.trans flash, pcu'.trans pcu, stl'.trans stl⟩
  calm aborts := (k.calm (by rwa [State.aborting, h.wsq])).trans (h.calm aborts)

end DriveOnly

section
variable {s t : State}

theorem awaitsDriveOff_congr (wsq : t.wsq = s.wsq) : awaitsDriveOff t = awaitsDriveOff s := by
  unfold awaitsDriveOff; rw [wsq]

theorem awaitsDriveOff_upset (upsets : s.wsq.phase = some .upset) : awaitsDriveOff s = false := by
  simp [awaitsDriveOff, upsets]

/-- The end of a pause asked for where none is to end. -/
theorem drawingEnded_stays (stays : s.stl.stays) : drawingEnded s = s := by
  obtain ⟨other, early⟩ := stays
  refine if_neg fun h => ?_
  obtain ⟨paused, lost⟩ := (Bool.and_eq_true _ _).mp h
  have paused' : s.stl.pause = .paused := by simpa [State.paused, other] using paused
  rw [early paused'] at lost
  cases lost

theorem contactStepEnds_unawaited (unawaited : s.flash.offAwaited = false) : contactStepEnds s = s := by
  simp [contactStepEnds, unawaited]

/-- Flash control has ended its work once the abort path has started: a resume moves nothing, and neither does a drive off
report (R92, R116). -/
theorem flashResume_aborting (aborts : s.aborting = true) : flashResume s = s := by simp [flashResume, aborts]

theorem contactStepEnds_aborting (aborts : s.aborting = true) : contactStepEnds s = s := by simp [contactStepEnds, aborts]

theorem drawingEnded_aborting (aborts : s.aborting = true) : (drawingEnded s).pcu = s.pcu := by
  unfold drawingEnded resumeForced
  split
  · rw [flashResume_aborting (by exact aborts)]
  · rfl

theorem timingStopped_aborting (aborts : s.aborting = true) : (timingStopped s).pcu = s.pcu := by
  unfold timingStopped resumeRecovered
  split
  · rw [flashResume_aborting (by exact aborts)]
  · rfl

/-- The drive off report at a path that waited for it: the claim goes, and the retract begins (R119). -/
theorem driveOff_awaited (waits : awaitsDriveOff s = true) :
    driveOff s = beginRetract (yieldClaim (timingStopped (blockDrive s))) := by
  have waits' : awaitsDriveOff (timingStopped (blockDrive s)) = true := by
    rwa [awaitsDriveOff_congr (s := s) (by simp)]
  have path : s.wsq.abort ≠ none := by
    intro none_yet
    simp [awaitsDriveOff, none_yet] at waits
  have aborts : (timingStopped (blockDrive s)).aborting = true := by
    simpa [State.aborting, Option.isSome_iff_ne_none] using path
  rw [driveOff, driveOffReport, contactStepEnds_aborting aborts, abortStepEnds, if_pos waits']

theorem yieldClaim_only (s : State) : DriveOnly s (yieldClaim s) := by
  unfold yieldClaim
  split
  · exact .refl s
  · next own _ =>
    have sent := yieldFrames_sent own.number (dropOwnClaim s)
    have frames : DriveOnly s (yieldFrames own.number (dropOwnClaim s)) :=
      ⟨by simp, by rw [sent.wrs]; simp, fun _ _ => by simp, fun _ => by simp⟩
    dsimp only
    split
    · refine frames.trans ⟨by simp, by simp, fun stays _ => ?_, drawingEnded_aborting⟩
      rw [drawingEnded_stays stays]
      exact ⟨rfl, rfl, rfl⟩
    · exact frames

theorem cutRunning_only (s : State) : DriveOnly s (cutRunning s) := ⟨by simp, by simp, fun _ _ => by simp, fun _ => by simp⟩

section
variable (idle : awaitsDriveOff s = false)
include idle

theorem driveOffReport_only : DriveOnly s (driveOffReport s) := by
  have parts : driveOffReport s = contactStepEnds s := by
    have waits : awaitsDriveOff (contactStepEnds s) = false := by rw [awaitsDriveOff_congr (s := s) (by simp)]; exact idle
    simp [driveOffReport, abortStepEnds, waits]
  rw [parts]
  refine ⟨by simp, by simp, fun _ unawaited => ?_, fun aborts => by rw [contactStepEnds_aborting aborts]⟩
  rw [contactStepEnds_unawaited unawaited]
  exact ⟨rfl, rfl, rfl⟩

theorem driveOff_only : DriveOnly s (driveOff s) := by
  have blocked : DriveOnly s (blockDrive s) := ⟨by simp, by simp, fun _ _ => by simp, fun _ => by simp⟩
  have stopped : DriveOnly (blockDrive s) (timingStopped (blockDrive s)) := by
    refine ⟨by simp, by simp, fun stays _ => ?_, timingStopped_aborting⟩
    rw [timingStopped_still stays.1]
    exact ⟨rfl, rfl, rfl⟩
  refine (blocked.trans stopped).trans (driveOffReport_only ?_)
  rw [awaitsDriveOff_congr (s := s) (by simp)]
  exact idle

theorem normalOff_only : DriveOnly s (normalOff s) := by
  unfold normalOff
  split
  · exact ⟨rfl, rfl, fun _ _ => ⟨rfl, rfl, rfl⟩, fun _ => rfl⟩
  · exact driveOff_only idle
  · split
    · exact .refl s
    · exact driveOffReport_only idle

theorem loseRun_only : DriveOnly s (loseRun s) := by
  unfold loseRun
  split
  · dsimp only
    split
    · refine (cutRunning_only s).trans (driveOff_only ?_)
      rw [awaitsDriveOff_congr (s := s) (by simp)]
      exact idle
    · exact cutRunning_only s
  · exact .refl s

theorem yieldOwn_only : DriveOnly s (yieldOwn s) := by
  refine (yieldClaim_only s).trans (loseRun_only ?_)
  rw [awaitsDriveOff_congr (s := s) (by simp)]
  exact idle

/-- Upset current ends: its mark goes, and the weld stays as it is (R94). -/
theorem endUpsetCurrent_only : DriveOnly { s with wsq.upsetMark := false } (endUpsetCurrent s) := by
  cases marked : s.wsq.upsetMark
  · have ends : endUpsetCurrent s = s := by simp [endUpsetCurrent, marked]
    rw [ends]
    exact ⟨by rw [← marked], rfl, fun _ _ => ⟨rfl, rfl, rfl⟩, fun _ => rfl⟩
  · have ends : endUpsetCurrent s = yieldOwn (normalOff { s with wsq.upsetMark := false }) := if_pos marked
    have off : DriveOnly { s with wsq.upsetMark := false } (normalOff { s with wsq.upsetMark := false }) := normalOff_only idle
    rw [ends]
    refine off.trans (yieldOwn_only ?_)
    rw [awaitsDriveOff_congr off.wsq]
    exact idle

end

/-- A claim that is withdrawn while the drive runs takes the run conditions with it: a waiting OFF takes effect. -/
theorem yieldOwn_waiting (runs : s.cdr.drive = .running) (waits : s.cdr.offPending = true) :
    (yieldOwn s).cdr.mode = .off ∧ (yieldOwn s).cdr.drive = .blocked := by
  have undrawn : (yieldClaim s).runConditions = false := by
    have gone := yieldClaim_claims s
    have unclaimed : (yieldClaim s).ownClaim = none := by
      simp [State.ownClaim, gone, removeClaim, List.find?_eq_none]
    simp [State.runConditions, State.drawing, unclaimed]
  have loses : yieldOwn s = driveOff (cutRunning (yieldClaim s)) := by
    have pending : (cutRunning (yieldClaim s)).cdr.offPending = true := by
      show (yieldClaim s).cdr.offPending = true
      simp [waits]
    rw [yieldOwn, loseRun, if_pos ⟨by simp [runs], undrawn⟩]
    simp [waits]
  obtain ⟨drive, mode, -⟩ := driveOff_isOff (cutRunning (yieldClaim s))
  rw [loses]
  exact ⟨mode, drive⟩

/-- Upset current ends with the drive off (R94). -/
theorem endUpsetCurrent_off (marked : s.wsq.upsetMark = true) (drives : s.cdr.drive ≠ .blocked) :
    (endUpsetCurrent s).cdr.mode = .off ∧ (endUpsetCurrent s).cdr.drive = .blocked := by
  have ends : endUpsetCurrent s = yieldOwn (normalOff { s with wsq.upsetMark := false }) := if_pos marked
  rw [ends]
  cases drive : s.cdr.drive with
  | blocked => exact absurd drive drives
  | running =>
    have pends : normalOff { s with wsq.upsetMark := false } = { s with wsq.upsetMark := false, cdr.offPending := true } := by
      simp [normalOff, drive]
    rw [pends]
    exact yieldOwn_waiting drive rfl
  | ready =>
    have off : normalOff { s with wsq.upsetMark := false } = driveOff { s with wsq.upsetMark := false } := by
      simp [normalOff, drive]
    rw [off]
    obtain ⟨drive', mode, -⟩ := (yieldOwn_path (driveOff { s with wsq.upsetMark := false })).cdr.off (driveOff_isOff _)
    exact ⟨mode, drive'⟩

end

/-! ### A current-mode request (R52, R59, R69) -/

/-- What a current-mode request makes of CDR before a BLOCKED drive starts its carrier timing. -/
def State.requested (mode : DriveMode) (trip hz : Nat) (fresh : Bool) (s : State) : State :=
  let runs := setRuns mode (if s.cdr.drive = .running ∧ s.cdr.mode ≠ mode then divideCycle s else s)
  { (if fresh then weldContext trip runs else setTarget trip runs) with
    cdr.mode := mode
    cdr.carrierHz := hz
    cdr.offPending := false }

section
variable {s : State} {mode : DriveMode} {trip hz : Nat} {fresh : Bool}

theorem requestCurrent_requested : requestCurrent mode trip hz fresh s =
    if s.cdr.drive = .blocked then beginCycle (s.requested mode trip hz fresh) else s.requested mode trip hz fresh := rfl

/-- A request in the weld's own context. -/
theorem requested_again : s.requested mode trip hz false =
    { setTarget trip (setRuns mode (if s.cdr.drive = .running ∧ s.cdr.mode ≠ mode then divideCycle s else s)) with
      cdr.mode := mode
      cdr.carrierHz := hz
      cdr.offPending := false } := rfl

theorem requested_eq : ∃ c, s.requested mode trip hz fresh = { s with cdr := c } ∧ c.mode = mode := by
  unfold State.requested weldContext setTarget setRuns divideCycle
  dsimp only
  (repeat' split) <;> exact ⟨_, rfl, rfl⟩

/-- A request changes CDR only, and its mode is the one asked for. -/
theorem requestCurrent_eq : ∃ c, requestCurrent mode trip hz fresh s = { s with cdr := c } ∧ c.mode = mode := by
  obtain ⟨c, e, asked⟩ := requested_eq (s := s) (mode := mode) (trip := trip) (hz := hz) (fresh := fresh)
  rw [requestCurrent_requested]
  split
  · obtain ⟨d, e', kept⟩ := beginCycle_eq (s.requested mode trip hz fresh)
    obtain ⟨-, -, -, -, -, -, -, -, -, -, -, mode'⟩ := kept
    rw [e'] at *
    rw [e] at mode' ⊢
    exact ⟨d, rfl, mode'.trans asked⟩
  · exact ⟨c, e, asked⟩

theorem driveRequest_eq (runs : s.stl.stop = .run) :
    ∃ c, driveRequest mode trip s = { s with cdr := c, wsq.weldStarted := true } ∧ c.mode = mode ∧
      c = (requestCurrent mode trip s.sched.carrierHz (!s.wsq.weldStarted) s).cdr := by
  obtain ⟨c, e, asked⟩ := requestCurrent_eq (s := s) (mode := mode) (trip := trip) (hz := s.sched.carrierHz)
    (fresh := !s.wsq.weldStarted)
  refine ⟨c, ?_, asked, ?_⟩
  · rw [driveRequest, if_pos runs, e]
  · rw [e]

/-- A request in a weld context, with carrier timing running: the ramp starts from the applied level unless the target is set
already (R59). -/
theorem requestCurrent_ramps {amps : Nat} (drives : s.cdr.drive ≠ .blocked) (applied : s.cdr.applied = some amps) :
    let c := (requestCurrent mode trip hz false s).cdr
    c.tripTarget = some trip ∧ c.applied = some amps ∧
      c.ramp = if s.cdr.tripTarget = some trip then s.cdr.ramp else some ⟨amps, s.loc.rampCycles, 0⟩ := by
  rw [requestCurrent_requested, if_neg drives]
  have kept : ∀ u : State, u.cdr.tripTarget = s.cdr.tripTarget → u.cdr.applied = some amps → u.cdr.ramp = s.cdr.ramp →
      u.loc = s.loc → (setTarget trip u).cdr.tripTarget = some trip ∧ (setTarget trip u).cdr.applied = some amps ∧
        (setTarget trip u).cdr.ramp =
          if s.cdr.tripTarget = some trip then s.cdr.ramp else some ⟨amps, s.loc.rampCycles, 0⟩ := by
    intro u target level ramp loc
    unfold setTarget
    rw [target]
    split
    · next set => exact ⟨target.trans set, level, ramp⟩
    · exact ⟨rfl, level, by rw [level, loc]; rfl⟩
  have runs : ∀ u : State, (setRuns mode u).cdr.tripTarget = u.cdr.tripTarget ∧ (setRuns mode u).cdr.applied = u.cdr.applied ∧
      (setRuns mode u).cdr.ramp = u.cdr.ramp ∧ (setRuns mode u).loc = u.loc := by
    intro u
    unfold setRuns
    split <;> exact ⟨rfl, rfl, rfl, rfl⟩
  rw [requested_again]
  split
  · obtain ⟨target, level, ramp, loc⟩ := runs (divideCycle s)
    exact kept _ target (level.trans applied) ramp loc
  · obtain ⟨target, level, ramp, loc⟩ := runs s
    exact kept _ target (level.trans applied) ramp loc

/-- A request of BOOST in FLASH divides the cycle in progress (R69). -/
theorem requestCurrent_divides (runs : s.cdr.drive = .running) (flashes : s.cdr.mode = .flash) :
    let c := (requestCurrent .boost trip hz false s).cdr
    c.energy = s.cdr.energy ∧ c.tally = s.cdr.tally ∧
      c.partEnergy = { s.cdr.partEnergy with flash := s.cdr.partEnergy.flash + (s.cdr.sums.energy - s.cdr.sums.credited) } ∧
      c.partMs = { s.cdr.partMs with flash := s.cdr.partMs.flash + s.cdr.runMs } ∧ c.runMs = 0 ∧
      c.sums = { s.cdr.sums with credited := s.cdr.sums.energy } := by
  have prepared : setRuns .boost (if s.cdr.drive = .running ∧ s.cdr.mode ≠ .boost then divideCycle s else s) = divideCycle s := by
    rw [if_pos ⟨runs, by rw [flashes]; decide⟩, setRuns, if_pos (by simp [divideCycle, keepsRuns, flashes])]
  have divided : (divideCycle s).cdr.partEnergy =
        { s.cdr.partEnergy with flash := s.cdr.partEnergy.flash + (s.cdr.sums.energy - s.cdr.sums.credited) } ∧
      (divideCycle s).cdr.partMs = { s.cdr.partMs with flash := s.cdr.partMs.flash + s.cdr.runMs } := by
    simp [divideCycle, PerMode.update, flashes]
  rw [requestCurrent_requested, if_neg (by rw [runs]; decide)]
  rw [requested_again, prepared]
  unfold setTarget
  split <;> exact ⟨rfl, rfl, divided.1, divided.2, rfl, rfl⟩

end

/-! ### BOOST and UPSET are entered (R87, R89, R93) -/

section
variable {s : State}

theorem stopFlashTime_eq (s : State) :
    stopFlashTime s =
      { s with
        wsq.flashTimer := none
        flash.flashTime := s.wsq.flashTimer.elim s.flash.flashTime fun left => s.sched.flashTimeS * 1000 - left } := by
  cases timer : s.wsq.flashTimer with
  | none => simp only [stopFlashTime, timer, Option.elim_none]; rw [← timer]
  | some left => simp only [stopFlashTime, timer]; rfl

/-- The weld as UPSET is entered, before its current is asked for. -/
def State.upsetEntry (s : State) : State :=
  { requestUpset (enterPhase .upset (flashEnds (stopFlashTime s))) with
    wsq.upsetStart := some s.pcu.plausPosition
    wsq.upsetMark := true
    wsq.upsetDistance := none
    wsq.upsetPeak := none }

theorem enterUpset_eq (runs : s.stl.stop = .run) :
    ∃ c, c.mode = .upsetCurrent ∧ enterUpset s =
      if s.paused then
        cutUpset { s.upsetEntry with cdr := c, wsq.weldStarted := true, wsq.upsetTimer := some s.sched.upsetTimeMs }
      else { s.upsetEntry with cdr := c, wsq.weldStarted := true, wsq.upsetTimer := some s.sched.upsetTimeMs } := by
  have runs' : s.upsetEntry.stl.stop = .run := by
    simp [State.upsetEntry, requestUpset, platenForce, platenMode, runs]
  obtain ⟨c, e, asked, -⟩ := driveRequest_eq (s := s.upsetEntry) (mode := .upsetCurrent)
    (trip := (enterPhase .upset (flashEnds (stopFlashTime s))).wsq.active.trip) runs'
  have entered : enterUpset s =
      if s.paused then
        cutUpset
          { driveRequest .upsetCurrent (enterPhase .upset (flashEnds (stopFlashTime s))).wsq.active.trip s.upsetEntry with
            wsq.upsetTimer := some s.sched.upsetTimeMs }
      else
        { driveRequest .upsetCurrent (enterPhase .upset (flashEnds (stopFlashTime s))).wsq.active.trip s.upsetEntry with
          wsq.upsetTimer := some s.sched.upsetTimeMs } := rfl
  refine ⟨c, asked, ?_⟩
  rw [entered, e]

/-- What UPSET begins with, in no pause (R89, R93). -/
theorem enterUpset_written (runs : s.stl.stop = .run) (unpaused : s.paused = false) :
    let t := enterUpset s
    t.wsq.phase = some .upset ∧ t.wsq.upsetStart = some s.pcu.plausPosition ∧ t.flash.feed = none ∧
      t.flash.streakTimer = none ∧ t.wsq.flashTimer = none ∧ t.wsq.upsetTimer = some s.sched.upsetTimeMs ∧
      t.pcu.mode.isForce = true ∧ t.wsq.upsetMark = true ∧ t.cdr.mode = .upsetCurrent ∧
      t.wsq.active.upsetForce =
        (2 * (s.sched.upsetForce *
          (100 + (if s.wsq.switchPending then s.wsq.pendingSet else s.wsq.inForce).force).toNat) + 100) / 200 ∧
      sameBase s t ∧ t.sht = s.sht ∧ t.lkc = s.lkc ∧ t.orq = s.orq ∧ t.tru = s.tru := by
  obtain ⟨c, asked, e⟩ := enterUpset_eq runs
  rw [unpaused] at e
  have moves : s.upsetEntry.pcu.mode.isForce = true := by
    simp [State.upsetEntry, requestUpset, platenForce, platenMode, runs, PlatenMode.isForce]
  have weld : ∃ w, s.upsetEntry = { s with wsq := s.upsetEntry.wsq, flash := s.upsetEntry.flash, pcu := s.upsetEntry.pcu, wrs := w } := by
    simp only [State.upsetEntry, enterPhase_eq, stopFlashTime_eq]
    exact ⟨_, rfl⟩
  have wsq : s.upsetEntry.wsq =
      { s.wsq with
        flashTimer := none
        phase := some .upset
        inForce := if s.wsq.switchPending then s.wsq.pendingSet else s.wsq.inForce
        switchPending := false
        active := formActive s.sched (if s.wsq.switchPending then s.wsq.pendingSet else s.wsq.inForce) s.wsq.active .upset
        upsetStart := some s.pcu.plausPosition, upsetMark := true, upsetDistance := none, upsetPeak := none } := by
    simp only [State.upsetEntry, enterPhase_eq, stopFlashTime_eq]
    rfl
  have flash : s.upsetEntry.flash.feed = none ∧ s.upsetEntry.flash.streakTimer = none := by
    simp only [State.upsetEntry, enterPhase_eq, stopFlashTime_eq]
    exact ⟨rfl, rfl⟩
  obtain ⟨w, weld⟩ := weld
  rw [e]
  generalize s.upsetEntry = u at moves weld wsq flash
  obtain ⟨feed, streak⟩ := flash
  rw [weld]
  simp only [wsq]
  exact ⟨rfl, rfl, feed, streak, rfl, rfl, moves, rfl, asked, rfl, ⟨rfl, rfl, rfl, rfl, rfl⟩, rfl, rfl, rfl, rfl⟩

/-- UPSET entered in a pause has its current cut at once (R95). -/
theorem enterUpset_paused (runs : s.stl.stop = .run) (paused : s.paused = true) :
    (enterUpset s).wsq.phase = some .upset ∧ (enterUpset s).wsq.upsetMark = false := by
  obtain ⟨c, -, e⟩ := enterUpset_eq runs
  rw [paused] at e
  have upsets : s.upsetEntry.wsq.phase = some .upset ∧ s.upsetEntry.wsq.upsetMark = true := by
    simp only [State.upsetEntry, enterPhase_eq]
    exact ⟨rfl, trivial⟩
  have cut : ∀ v : State, v.wsq.phase = some .upset → v.wsq.upsetMark = true →
      (cutUpset v).wsq.phase = some .upset ∧ (cutUpset v).wsq.upsetMark = false := by
    intro v phase marked
    obtain ⟨w, x, filed⟩ := fileFault_eq .upsetCurrentCut v
    have cuts : cutUpset v = endUpsetCurrent { v with wrs.working := w, wsq.lastFault := x } := by
      rw [cutUpset, if_pos marked, reportFault_upsetCurrentCut, filed]
    have weld := (endUpsetCurrent_only (s := { v with wrs.working := w, wsq.lastFault := x })
      (awaitsDriveOff_upset phase)).wsq
    rw [cuts, weld]
    exact ⟨phase, rfl⟩
  have cuts := e.trans (if_pos rfl)
  rw [cuts]
  exact cut _ upsets.1 upsets.2

/-- The weld as BOOST is entered, before its current is asked for. -/
def State.boostEntry (s : State) : State :=
  { enterPhase .boost s with flash.boostBase := s.flash.highMark, flash.boostDone := some 0 }

theorem boostEntry_drive (s : State) : s.boostEntry.cdr = s.cdr ∧ s.boostEntry.loc = s.loc := by
  rw [State.boostEntry, enterPhase_eq]
  exact ⟨rfl, rfl⟩

/-- BOOST is entered (R87). -/
theorem enterBoost_written (runs : s.stl.stop = .run) :
    let t := enterBoost s
    t.wsq.phase = some .boost ∧ t.flash = { s.flash with boostBase := s.flash.highMark, boostDone := some 0 } ∧
      t.wsq.active.trip = s.sched.boostTripA ∧ t.wsq.active.speed = s.sched.boostSpeed ∧ t.cdr.mode = .boost ∧
      t.pcu = s.pcu ∧ sameBase s t ∧ t.sht = s.sht ∧ t.lkc = s.lkc ∧
      t.cdr = (requestCurrent .boost s.sched.boostTripA s.sched.carrierHz (!s.wsq.weldStarted) s.boostEntry).cdr := by
  have trip : (enterPhase .boost s).wsq.active.trip = s.sched.boostTripA ∧
      (enterPhase .boost s).wsq.active.speed = s.sched.boostSpeed ∧ (enterPhase .boost s).wsq.weldStarted = s.wsq.weldStarted ∧
      (enterPhase .boost s).wsq.phase = some .boost ∧ (enterPhase .boost s).sched = s.sched := by
    rw [enterPhase_eq]; exact ⟨rfl, rfl, rfl, rfl, rfl⟩
  obtain ⟨trip, speed, started, phase, sched⟩ := trip
  obtain ⟨c, e, asked, form⟩ := driveRequest_eq
    (s := s.boostEntry)
    (mode := .boost) (trip := s.sched.boostTripA) (by simp [State.boostEntry, runs])
  have entered : enterBoost s = driveRequest .boost (enterPhase .boost s).wsq.active.trip s.boostEntry := rfl
  change _ = (requestCurrent _ _ (enterPhase .boost s).sched.carrierHz (!(enterPhase .boost s).wsq.weldStarted) _).cdr at form
  rw [sched, started] at form
  rw [entered, trip, e]
  exact ⟨phase, by simp [State.boostEntry], trip, speed, asked, by simp [State.boostEntry], by simp [State.boostEntry, sameBase],
    by simp [State.boostEntry], by simp [State.boostEntry], form⟩

/-- The drive of BOOST, in the weld's own context (R59, R69). -/
theorem enterBoost_drive (runs : s.stl.stop = .run) (started : s.wsq.weldStarted = true) :
    let c := (enterBoost s).cdr
    (∀ amps, s.cdr.drive ≠ .blocked → s.cdr.applied = some amps →
      c.tripTarget = some s.sched.boostTripA ∧ c.applied = some amps ∧
        c.ramp = (if s.cdr.tripTarget = some s.sched.boostTripA then s.cdr.ramp else some ⟨amps, s.loc.rampCycles, 0⟩)) ∧
    (s.cdr.drive = .running → s.cdr.mode = .flash →
      c.energy = s.cdr.energy ∧ c.tally = s.cdr.tally ∧
        c.partEnergy = { s.cdr.partEnergy with flash := s.cdr.partEnergy.flash + (s.cdr.sums.energy - s.cdr.sums.credited) } ∧
        c.partMs = { s.cdr.partMs with flash := s.cdr.partMs.flash + s.cdr.runMs } ∧ c.runMs = 0 ∧
        c.sums = { s.cdr.sums with credited := s.cdr.sums.energy }) := by
  obtain ⟨-, -, -, -, -, -, -, -, -, form⟩ := enterBoost_written runs
  rw [started] at form
  obtain ⟨cdr, loc⟩ := boostEntry_drive s
  rw [← cdr, ← loc, form]
  exact ⟨fun _ => requestCurrent_ramps, requestCurrent_divides⟩

end

end Sys2Proof.Machine

/-! The end of UPSET, and the change from FLASH to UPSET (O53). -/

namespace Sys2Proof.Machine

/-! ### Faults filed one behind the other (R28) -/

/-- The open record of `t` is that of `s` with these faults at the end of its list, opened at the same time. -/
def filesOn (s t : State) (p : WeldPhase) (l : List (FaultCode × Severity)) : Prop :=
  ∀ w, s.wrs.working = some w → w.record.faults.length + l.length ≤ 6 →
    ∃ v, t.wrs.working = some v ∧ v.openedAt = w.openedAt ∧
      v.record.faults = w.record.faults ++ l.map (fun f => ⟨f.1, f.2, p, s.now - w.openedAt⟩) ∧
      v.quality = (w.quality || l.any (·.2 == .quality))

section
variable {s t u : State} {p : WeldPhase} {l l' : List (FaultCode × Severity)}

theorem files_of_filesOn (h : filesOn s t p l) : files s t p l := fun w opened room => by
  obtain ⟨v, opened', -, faults, quality⟩ := h w opened room
  rw [opened', Option.map_some, faults, quality]

theorem filesOn_none (same : t.wrs.working = s.wrs.working) : filesOn s t p [] := fun w opened _ =>
  ⟨w, same.trans opened, rfl, by simp, by simp⟩

theorem filesOn_append (h : filesOn s t p l) (k : filesOn t u p l') (now : t.now = s.now) : filesOn s u p (l ++ l') :=
  fun w opened room => by
    rw [List.length_append] at room
    obtain ⟨v, opened', at_, faults, quality⟩ := h w opened (by omega)
    have room' : v.record.faults.length + l'.length ≤ 6 := by rw [faults, List.length_append, List.length_map]; omega
    obtain ⟨x, opened'', at', faults', quality'⟩ := k v opened' room'
    refine ⟨x, opened'', at'.trans at_, ?_, ?_⟩
    · rw [faults', faults, at_, now, List.map_append, List.append_assoc]
    · rw [quality', quality, List.any_append, Bool.or_assoc]

theorem filesOn_congr (same : u.wrs.working = t.wrs.working) (h : filesOn s t p l) : filesOn s u p l := fun w opened room => by
  rw [same]; exact h w opened room

theorem filesOn_from (working : t.wrs.working = s.wrs.working) (now : t.now = s.now) (h : filesOn t u p l) : filesOn s u p l :=
  fun w opened room => by
    have filed := h w (working.trans opened) room
    rwa [now] at filed

theorem fileFault_filesOn {code : FaultCode} {severity : Severity} (phase : s.wsq.phase = some p) (before : p ≠ .closing)
    (degree : code.severity s.cdr.overcurrentCount = severity) : filesOn s (fileFault code s) p [(code, severity)] := by
  intro w opened room
  have fits : w.record.faults.length < 6 := by simp at room; omega
  rw [fileFault_open phase before opened, ← degree]
  refine ⟨_, congrArg (Option.map _) opened, rfl, ?_, by simp⟩
  simp [faultListSize, fits]

/-! ### The end of UPSET (R96, R97) -/

/-- The comparison of the upset distance files what it finds, and nothing else. -/
theorem checkUpset_eq (distance : Int) (s : State) :
    ∃ w x, checkUpset distance s = { s with wrs.working := w, wsq.lastFault := x } ∧
      ∀ p, s.wsq.phase = some p → p ≠ .closing → filesOn s { s with wrs.working := w } p (upsetFaults s distance) := by
  have filed (code : FaultCode) (mild : code.severity s.cdr.overcurrentCount = .quality) :
      ∃ w x, reportFault code s = { s with wrs.working := w, wsq.lastFault := x } ∧
        ∀ p, s.wsq.phase = some p → p ≠ .closing → filesOn s { s with wrs.working := w } p [(code, .quality)] := by
    obtain ⟨w, x, e⟩ := fileFault_eq code s
    refine ⟨w, x, (reportFault_mild (by rw [mild]; decide)).trans e, fun p phase before => ?_⟩
    have entry := fileFault_filesOn phase before mild
    rw [e] at entry
    exact entry
  unfold checkUpset upsetFaults
  split
  · exact filed .upsetShort rfl
  · split
    · exact filed .upsetLong rfl
    · exact ⟨s.wrs.working, s.wsq.lastFault, rfl, fun _ _ _ => filesOn_none rfl⟩

theorem openWindow_opened (s : State) : windowOpened s (openWindow s) := by
  unfold windowOpened openWindow State.aborting
  split
  · rfl
  · split <;> rfl

/-- HOLD is entered (R98). -/
theorem enterHold_written (s : State) :
    let t := enterHold s
    (∃ w, t.wsq =
      { s.wsq with
        phase := some .hold, holdTimer := some (s.sched.holdS * 1000), pullRequested := false, expired := false
        inForce := w, switchPending := false
        active := { ActiveSet.none with holdForce := s.sched.holdForce } }) ∧
      t.wrs.working = s.wrs.working ∧
      (s.wsq.barred = true → t.pcu = s.pcu) ∧
      (s.stl.stop = .run → s.wsq.barred = false →
        t.pcu.mode = .force (min (s.sched.holdForce + s.pcu.forceBasis) s.loc.platenMaxKn) s.loc.moveSpeed) := by
  have entered : enterHold s =
      { (if s.wsq.barred then enterPhase .hold s
          else platenForce (enterPhase .hold s).wsq.active.holdForce s.loc.moveSpeed (enterPhase .hold s)) with
        wsq.holdTimer := some (seconds s.sched.holdS)
        wsq.pullRequested := false
        wsq.expired := false } := rfl
  rw [entered, enterPhase_eq]
  by_cases barred : s.wsq.barred = true
  · rw [if_pos barred]
    exact ⟨⟨_, rfl⟩, rfl, fun _ => rfl, fun _ free => by rw [barred] at free; cases free⟩
  · rw [if_neg barred]
    refine ⟨⟨_, rfl⟩, rfl, fun h => absurd h barred, fun runs _ => ?_⟩
    simp only [platenForce, platenMode, runs, if_true]
    rfl

/-- UPSET ends at a position with a highest force, whatever its current was (R96, R97). -/
theorem endUpset_written (position peak : Int) (upsets : s.wsq.phase = some .upset) :
    let t := endUpset position peak s
    let distance := position - s.wsq.upsetStart.getD position
    t.wsq.phase = some .hold ∧ t.wsq.upsetDistance = some distance ∧ t.wsq.upsetPeak = some peak ∧
      t.wsq.upsetTimer = none ∧ t.wsq.upsetMark = false ∧ t.wsq.holdTimer = some (s.sched.holdS * 1000) ∧
      t.wsq.active.holdForce = s.sched.holdForce ∧ filesOn s t .upset (upsetFaults s distance) ∧ windowOpened s t ∧
      (s.wsq.barred = true → s.paused = false → s.flash.offAwaited = false → t.pcu.mode = s.pcu.mode) ∧
      (s.stl.stop = .run → s.wsq.barred = false →
        t.pcu.mode = .force (min (s.sched.holdForce + s.pcu.forceBasis) s.loc.platenMaxKn) s.loc.moveSpeed) ∧
      sameBase s t := by
  intro t distance
  have path := endUpsetCurrent_path { s with wsq.upsetTimer := none }
  have only := endUpsetCurrent_only (s := { s with wsq.upsetTimer := none }) (awaitsDriveOff_upset upsets)
  have ends : t = enterHold (openWindow (checkUpset distance
      { endUpsetCurrent { s with wsq.upsetTimer := none } with
        wsq.upsetDistance := some distance, wsq.upsetPeak := some peak })) := rfl
  generalize endUpsetCurrent { s with wsq.upsetTimer := none } = a at path only ends
  have weld := only.wsq
  have working : a.wrs.working = s.wrs.working := only.working
  have basis : a.pcu.forceBasis = s.pcu.forceBasis := by rw [path.pcu]
  have tru : a.tru = s.tru := path.tru
  have stop : a.stl.stop = s.stl.stop := path.stop
  have base : sameBase s a := path.base
  obtain ⟨-, -, settings, now, -⟩ := base
  have sched : a.sched = s.sched := by simp [State.sched, State.schedule, settings, weld]
  have loc : a.loc = s.loc := by simp [State.loc, settings]
  obtain ⟨w, x, checked, filed⟩ := checkUpset_eq distance
    { a with wsq.upsetDistance := some distance, wsq.upsetPeak := some peak }
  rw [checked] at ends
  have faults : filesOn s { a with wrs.working := w } .upset (upsetFaults s distance) := by
    have entry := filed .upset (by simp [weld, upsets]) (by decide)
    have same : upsetFaults { a with wsq.upsetDistance := some distance, wsq.upsetPeak := some peak } distance =
        upsetFaults s distance := by
      unfold upsetFaults
      change (if distance < a.sched.upsetMin then _ else if (a.sched.upsetMax : Int) < distance then _ else _) = _
      rw [sched]
    rw [same] at entry
    exact filesOn_from working now entry
  obtain ⟨c, form⟩ : ∃ c : State, c =
    { a with wsq.upsetDistance := some distance, wsq.upsetPeak := some peak, wrs.working := w, wsq.lastFault := x } := ⟨_, rfl⟩
  rw [← form] at ends
  have window := openWindow_opened c
  obtain ⟨⟨y, hold⟩, held, still, force⟩ := enterHold_written (openWindow c)
  have stopped : (openWindow c).stl.stop = s.stl.stop := by simp [form, stop]
  have schedules : (openWindow c).sched = s.sched := by simp [State.sched, State.schedule, form, settings, weld]
  have locals : (openWindow c).loc = s.loc := by simp [State.loc, form, settings]
  have wsq : (openWindow c).wsq = c.wsq := by simp
  have pcu : (openWindow c).pcu = a.pcu := by simp [form]
  have record : (openWindow c).wrs.working = w := by simp [form]
  rw [← ends, record] at held
  rw [← ends, wsq, schedules, form, weld] at hold
  rw [← ends, wsq, pcu, form, weld] at still
  rw [← ends, wsq, pcu, schedules, locals, stopped, form, weld] at force
  refine ⟨by rw [hold], by rw [hold], by rw [hold], by rw [hold], by rw [hold], by rw [hold], by rw [hold],
    filesOn_congr held faults, ?_, fun barred unpaused unawaited => ?_, fun runs unbarred => ?_, ?_⟩
  · have trimmed : t.tru = (openWindow c).tru := by rw [ends]; simp
    rw [form] at trimmed window
    have window' : t.tru = if a.sched.trimEnable = 0 then { a.tru with result := some .skipped }
        else if a.wsq.abort.isSome then a.tru
        else { a.tru with window := some (a.sched.trimWindowS * 1000) } := trimmed.trans window
    rw [sched, tru, weld] at window'
    exact window'
  · obtain ⟨-, pcu, -⟩ := only.still (stays_of_unpaused unpaused) unawaited
    rw [still barred, pcu]
  · rw [force runs unbarred, basis]
  · refine sameBase_trans path.base ?_
    rw [ends]
    simp [sameBase, form]

/-- The upset time limit expires (R97). -/
theorem upsetTimeExpiry_ends {start : Int} (awake : s.inReset = false) (runs : s.stl.stop = .run)
    (upsets : s.wsq.phase = some .upset) (over' : due s.wsq.upsetTimer = true) (unpaused : s.paused = false)
    (started : s.wsq.upsetStart = some start) :
    completes .upsetTimeExpiry s fun t =>
      t.wsq.phase = some .hold ∧ t.wsq.upsetDistance = some (s.pcu.plausPosition - start) ∧
        t.wsq.upsetPeak = some s.pcu.highForce ∧ t.wsq.upsetTimer = none ∧ t.wsq.upsetMark = false ∧
        t.wsq.holdTimer = some (s.sched.holdS * 1000) ∧ t.wsq.active.holdForce = s.sched.holdForce ∧
        files s t .upset ((.upsetTimeout, .quality) :: upsetFaults s (s.pcu.plausPosition - start)) ∧
        windowOpened s t ∧ (s.wsq.barred = true → s.flash.offAwaited = false → t.pcu.mode = .hold) ∧
        (s.wsq.barred = false →
          t.pcu.mode = .force (min (s.sched.holdForce + s.pcu.forceBasis) s.loc.platenMaxKn) s.loc.moveSpeed) ∧
        sameBase s t := by
  have run : exec .upsetTimeExpiry s = .next (upsetTimesOut s) := exec_taken rfl awake (by simp [dueUnpaused, over', unpaused])
  obtain ⟨w, x, e⟩ := fileFault_eq .upsetTimeout { s with wsq.upsetTimer := none }
  have filed : reportFault .upsetTimeout { s with wsq.upsetTimer := none } =
      { s with wsq.upsetTimer := none, wsq.lastFault := x, wrs.working := w } :=
    (reportFault_mild (by simp [FaultCode.severity])).trans e
  have entry : filesOn s { s with wsq.upsetTimer := none, wsq.lastFault := x, wrs.working := w } .upset
      [(.upsetTimeout, .quality)] := by
    have entered := fileFault_filesOn (code := .upsetTimeout) (severity := .quality) (s := { s with wsq.upsetTimer := none })
      upsets (by decide) rfl
    rw [e] at entered
    exact entered
  have ends : upsetTimesOut s = endUpset s.pcu.plausPosition s.pcu.highForce
      (platenHold { s with wsq.upsetTimer := none, wsq.lastFault := x, wrs.working := w }) := by
    rw [upsetTimesOut, filed]
  refine completes_of run ends ?_
  obtain ⟨phase, distance, peak, timer, mark, hold, force, faults, window, still, moves, base⟩ := endUpset_written
    (s := platenHold { s with wsq.upsetTimer := none, wsq.lastFault := x, wrs.working := w })
    s.pcu.plausPosition s.pcu.highForce upsets
  have covered : s.pcu.plausPosition - s.wsq.upsetStart.getD s.pcu.plausPosition = s.pcu.plausPosition - start := by
    rw [started]; rfl
  refine ⟨phase, ?_, peak, timer, mark, hold, force, ?_, window, fun barred unawaited => ?_, moves runs, base⟩
  · rw [← covered]
    exact distance
  · rw [← covered]
    exact files_of_filesOn (filesOn_append entry (filesOn_from rfl rfl faults) rfl)
  · exact (still barred unpaused unawaited).trans (platenHold_mode _)

end

/-- The upset current distance is reached (R94). -/
theorem upsetCurrentDistance_ends {s : State} {own : Claim} {start : Int} (awake : s.inReset = false)
    (upsets : s.wsq.phase = some .upset) (marked : s.wsq.upsetMark = true) (plausible : s.pcu.posOk = true)
    (started : s.wsq.upsetStart = some start) (reached : start + s.sched.upsetCurDist ≤ s.pcu.plausPosition)
    (held : s.ownClaim = some own) (drives : s.cdr.drive ≠ .blocked) (unawaited : s.flash.offAwaited = false)
    (unpaused : s.paused = false) :
    completes .upsetCurrentDistance s fun t =>
      t.wsq = { s.wsq with upsetMark := false } ∧ t.cdr.mode = .off ∧ t.cdr.drive = .blocked ∧
        t.sht.claims = s.sht.claims.filter (·.station ≠ s.node) ∧ sameBase s t ∧ t.flash = s.flash ∧ t.tru = s.tru ∧
        t.orq.queue = s.orq.queue ∧ t.wrs.slots = s.wrs.slots := by
  have run : exec .upsetCurrentDistance s = .next (endUpsetCurrent s) :=
    exec_taken rfl awake (by simp [upsets, marked, upsetDistanceReached, plausible, started, reached])
  have path := endUpsetCurrent_path s
  have only := endUpsetCurrent_only (awaitsDriveOff_upset upsets)
  obtain ⟨mode, drive⟩ := endUpsetCurrent_off marked drives
  have claims : (endUpsetCurrent s).sht.claims = removeClaim s.node s.sht.claims := by
    have ends : endUpsetCurrent s = yieldOwn (normalOff { s with wsq.upsetMark := false }) := if_pos marked
    rw [ends]
    exact (normalOff_path { s with wsq.upsetMark := false }).yieldOwn_claims
  refine ⟨_, run, only.wsq, mode, drive, ?_, path.base, (only.still (stays_of_unpaused unpaused) unawaited).1, path.tru, ?_, path.store.1⟩
  · rw [claims, removeClaim_eq_filter]
  · rw [path.orq]

/-- Settles O53. -/
theorem flashAndUpsetEnd : Obligations.FlashAndUpsetEnd := by
  intro s awake runs upset
  refine ⟨fun d flashes follows burnt reached => ?_, fun d boosts follows done reached => ?_,
    fun own start upsets marked plausible started reached held drives _ unawaited unpaused =>
      upsetCurrentDistance_ends awake upsets marked plausible started reached held drives unawaited unpaused,
    fun start upsets over' unpaused started => upsetTimeExpiry_ends awake runs upsets over' unpaused started⟩
  · have run : exec .burnOffReached s = .next (endFlash s) :=
      exec_taken rfl awake (by simp [flashes, follows, covered, burnt, reached])
    by_cases direct : s.sched.boostDist = 0
    · exact completes_of run (if_pos direct) ⟨fun h => absurd direct h, fun _ => enterUpset_written runs,
        fun _ => enterUpset_paused runs⟩
    · obtain ⟨phase, flash, trip, speed, mode, pcu, base, sht, lkc, -⟩ := enterBoost_written runs
      refine completes_of run (if_neg direct) ⟨fun _ => ⟨phase, by rw [flash], by rw [flash], trip, speed, mode, by rw [flash],
        by rw [flash], pcu, base, sht, lkc, fun amps begun drives applied => ?_, fun begun drives flash_mode => ?_⟩,
        fun h => absurd h direct, fun h => absurd h direct⟩
      · exact (enterBoost_drive runs begun).1 amps drives applied
      · exact (enterBoost_drive runs begun).2 drives flash_mode
  · have run : exec .boostDistanceReached s = .next (enterUpset s) :=
      exec_taken rfl awake (by simp [boosts, follows, covered, done, reached])
    exact ⟨_, run, enterUpset_written runs, enterUpset_paused runs⟩

end Sys2Proof.Machine

/-! A held platen through the ends of current, and the pause that they find (R38, R115, R116). -/

namespace Sys2Proof.Machine

/-! ### The platen in HOLD -/

/-- Nothing that ends current or a weld takes the platen out of HOLD: STL is not in RUN, or the station's motion is held. -/
structure PlatenHeld (s : State) : Prop where
  mode : s.pcu.mode = .hold
  holds : s.stl.stop ≠ .run ∨ s.motionHeld = true

section
variable {s t : State}

/-- A request of the platen while STL is not in RUN leaves it in HOLD (R38). -/
theorem platenMode_stopped (m : PlatenMode) (stopped : s.stl.stop ≠ .run) : (platenMode m s).pcu.mode = .hold := if_neg stopped

theorem platenMove_stopped (m : PlatenMode) (stopped : s.stl.stop ≠ .run) : (platenMove m s).pcu.mode = .hold := by
  rw [platenMove, if_neg stopped]
  exact platenMode_stopped m stopped

theorem PlatenHeld.kept (h : PlatenHeld s) (mode : t.pcu.mode = .hold) (stop : t.stl.stop = s.stl.stop)
    (station : t.wsq.station = s.wsq.station) : PlatenHeld t where
  mode := mode
  holds := by rw [State.motionHeld, station, stop]; exact h.holds

namespace PlatenHeld

/-- With STL in RUN, motion is held by the station. -/
theorem held_of_run (h : PlatenHeld s) (free : s.motionHeld = false) : s.stl.stop ≠ .run := by
  obtain stopped | held := h.holds
  · exact stopped
  · rw [held] at free; cases free

theorem flashResume (h : PlatenHeld s) : PlatenHeld (flashResume s) := by
  refine h.kept ?_ (by simp) (by simp)
  unfold Machine.flashResume
  split
  · next resumes => exact platenMove_stopped _ (h.held_of_run resumes.2.2)
  · exact h.mode

theorem contactStepEnds (h : PlatenHeld s) : PlatenHeld (contactStepEnds s) := by
  refine h.kept ?_ (by simp) (by simp)
  unfold Machine.contactStepEnds
  split
  · next ends => exact platenMove_stopped _ (h.held_of_run ends.2.2)
  · exact h.mode

theorem drawingEnded (h : PlatenHeld s) : PlatenHeld (drawingEnded s) := by
  unfold Machine.drawingEnded
  split
  · exact flashResume ⟨h.mode, h.holds⟩
  · exact h

theorem endPause (h : PlatenHeld s) : PlatenHeld (endPause s) := by
  unfold Machine.endPause
  split
  · exact flashResume ⟨h.mode, h.holds⟩
  · exact h

theorem timingStopped (h : PlatenHeld s) : PlatenHeld (timingStopped s) := by
  unfold Machine.timingStopped
  split
  · exact flashResume ⟨h.mode, h.holds⟩
  · exact h

theorem yieldClaim (h : PlatenHeld s) : PlatenHeld (yieldClaim s) := by
  unfold Machine.yieldClaim
  split
  · exact h
  · next own _ =>
    have frames : PlatenHeld (yieldFrames own.number (dropOwnClaim s)) := h.kept (by simp [h.mode]) (by simp) (by simp)
    dsimp only
    split
    · exact drawingEnded frames
    · exact frames

theorem beginRetract (h : PlatenHeld s) : PlatenHeld (beginRetract s) := by
  refine h.kept ?_ (by simp) (by simp)
  unfold Machine.beginRetract
  split
  · exact h.mode
  · next free =>
    split
    · simp [setStep, h.mode]
    · exact platenMove_stopped _ (h.held_of_run (by simpa using free))

theorem driveOffReport (h : PlatenHeld s) : PlatenHeld (driveOffReport s) := by
  unfold Machine.driveOffReport abortStepEnds
  split
  · exact beginRetract (yieldClaim (contactStepEnds h))
  · exact contactStepEnds h

theorem driveOff (h : PlatenHeld s) : PlatenHeld (driveOff s) :=
  driveOffReport (timingStopped (h.kept (by simp [h.mode]) (by simp) (by simp)))

theorem normalOff (h : PlatenHeld s) : PlatenHeld (normalOff s) := by
  unfold Machine.normalOff
  split
  · exact ⟨h.mode, h.holds⟩
  · exact driveOff h
  · split
    · exact h
    · exact driveOffReport h

theorem loseRun (h : PlatenHeld s) : PlatenHeld (loseRun s) := by
  have cut : PlatenHeld (cutRunning s) := h.kept (by simp [h.mode]) (by simp) (by simp)
  unfold Machine.loseRun
  split
  · dsimp only
    split
    · exact driveOff cut
    · exact cut
  · exact h

theorem yieldOwn (h : PlatenHeld s) : PlatenHeld (yieldOwn s) := loseRun (yieldClaim h)

theorem endUpsetCurrent (h : PlatenHeld s) : PlatenHeld (endUpsetCurrent s) := by
  unfold Machine.endUpsetCurrent
  split
  · exact yieldOwn (normalOff ⟨h.mode, h.holds⟩)
  · exact h

theorem platenHold (h : PlatenHeld s) : PlatenHeld (platenHold s) := h.kept (by simp) (by simp) (by simp)

theorem endWeld (h : PlatenHeld s) (held : s.motionHeld = true) (outcome : OrderOutcome) (reason : Reason)
    (weldNo : Option Nat) : PlatenHeld (endWeld outcome reason weldNo s) := by
  have left : PlatenHeld (leaveWeld s) := by
    simp only [leaveWeld, held, if_true]
    exact ⟨h.mode, h.holds⟩
  exact left.kept (by simp [Machine.endWeld, left.mode]) (by simp [Machine.endWeld]) (by simp [Machine.endWeld])

/-- Every abort path that begins in a held station leaves the platen in HOLD (R117 to R122). -/
theorem beginPath (h : PlatenHeld s) (held : s.motionHeld = true) (cause : FaultCode) (p : WeldPhase) :
    PlatenHeld (beginPath cause p s) := by
  have beforeCurrent : ∀ u : State, PlatenHeld u → u.motionHeld = true → PlatenHeld (abortBeforeCurrent cause u) := by
    intro u kept still
    unfold abortBeforeCurrent
    rw [still]
    split
    · exact kept.endWeld still _ _ _
    · exact ⟨kept.mode, kept.holds⟩
  cases p with
  | check =>
    show PlatenHeld (abortCheck cause s)
    unfold abortCheck
    split
    · exact ⟨h.mode, h.holds⟩
    · split
      · simp only [leaveWeld, show (stopShoes s).motionHeld = true from held, if_true]
        exact ⟨h.mode, h.holds⟩
      · exact endWeld (s := stopShoes s) ⟨h.mode, h.holds⟩ held _ _ _
  | touch => exact beforeCurrent _ h.platenHold held
  | claimWait => exact beforeCurrent _ h.yieldOwn ((yieldOwn_path s).motionHeld.trans held)
  | preheat | flash | boost =>
    show PlatenHeld (abortFlash s)
    unfold abortFlash
    dsimp only
    split
    · exact normalOff (h.platenHold.kept (by simp [setStep]) (by simp) (by simp))
    · exact beginRetract (yieldOwn h.platenHold)
  | upset => exact ⟨h.endUpsetCurrent.mode, h.endUpsetCurrent.holds⟩
  | trim =>
    show PlatenHeld (abortTrim s)
    rw [abortTrim, held, Bool.or_true, if_pos rfl]
    exact h
  | hold | cool | closing => exact h

theorem tryAbort (h : PlatenHeld s) (held : s.motionHeld = true) (cause : FaultCode) : PlatenHeld (tryAbort cause s) := by
  unfold Machine.tryAbort
  split
  · exact h
  · split
    · refine beginPath (h.kept ?_ ?_ ?_) ?_ cause _
      · rw [stopWork_eq]; exact h.mode
      · rw [stopWork_eq]
      · rw [stopWork_eq]
      · rw [stopWork_eq]; exact held
    · exact h

/-- A fault reported in a held station leaves the platen in HOLD. -/
theorem reportFault (h : PlatenHeld s) (held : s.motionHeld = true) (code : FaultCode) : PlatenHeld (reportFault code s) := by
  obtain ⟨w, x, e⟩ := fileFault_eq code s
  have filed : PlatenHeld (fileFault code s) := by rw [e]; exact ⟨h.mode, h.holds⟩
  unfold Machine.reportFault
  dsimp only
  split
  · refine filed.tryAbort ?_ code
    rw [e]; exact held
  · exact filed

end PlatenHeld

/-! ### A pause that ends by the latest sample (R116) -/

/-- STL once a pause has ended without recovery. -/
def State.pauseEnded (s : State) : Stl :=
  { s.stl with
    pause := if recovered s s.stl.volts then .normal else .sag
    deglitched := !recovered s s.stl.volts
    pauseTimer := none
    lostReported := false }

theorem resumeForced_stl (s : State) : (resumeForced s).stl = s.pauseEnded := by simp [resumeForced, State.pauseEnded]

theorem endPause_stl (paused : s.paused = true) : (endPause s).stl = s.pauseEnded := by
  rw [endPause, if_pos paused, resumeForced_stl]

theorem pauseEnded_stays (s : State) : s.pauseEnded.stays := by
  refine ⟨?_, fun _ => rfl⟩
  unfold State.pauseEnded
  dsimp only
  split <;> decide

/-- The entry changes of FAULT_HOLD end a pause in force. -/
theorem faultHoldEntry_stl (paused : s.paused = true) : (faultHoldEntry s).stl = s.pauseEnded := by
  have before : ∀ u : State, u.stl = s.stl → u.settings = s.settings → (immediateOff (endPause u)).stl = s.pauseEnded := by
    intro u stl settings
    have ended : (endPause u).stl = s.pauseEnded := by
      have same (n : Nat) : recovered u n = recovered s n := by rw [recovered, recovered, State.loc, State.loc, settings]
      rw [endPause_stl (by rw [State.paused, stl]; exact paused)]
      simp only [State.pauseEnded, same, stl]
    rw [← ended]
    exact (immediateOff_path (endPause u)).stl (by rw [ended]; exact pauseEnded_stays s)
  unfold faultHoldEntry
  exact before _ (by simp) (by simp)

theorem faultHoldEntry_held_platen (s : State) : PlatenHeld (faultHoldEntry s) ∧ (faultHoldEntry s).motionHeld = true := by
  obtain ⟨x, v, path, -, held, e⟩ := faultHoldEntry_path s
  have held' : (faultHoldEntry s).motionHeld = true := path.motionHeld.trans held
  refine ⟨⟨?_, .inr held'⟩, held'⟩
  rw [faultHoldEntry_pcu_eq]
  simp [stopShoes]

end

end Sys2Proof.Machine

/-! STL's ACTIVE: what its entry writes before the orders end and the notice goes out (R7, R108, R116). -/

namespace Sys2Proof.Machine

/-! ### The head at ACTIVE -/

/-- A station that a stop does not take to STOPPED (R7). -/
def StationState.beforeIdle (x : StationState) : Prop := x = .loading ∨ x = .unconfigured ∨ x = .listening

/-- The head with every output held, before a pause ends and the drive goes off (R108). -/
def State.activeHead (returnSwitch : Bool) (s : State) : State :=
  truHold
    (clampsStop
      (holdWeld (stopShoes (platenHold (stopStation returnSwitch { s with stl.stop := .active, stl.debounce := none })))))

theorem enterActive_eq (returnSwitch : Bool) (s : State) :
    enterActive returnSwitch s =
      stopNotice (stopOrders s.wsq.station (immediateOff (endPause (s.activeHead returnSwitch)))) := rfl

section
variable {s : State} (returnSwitch : Bool)

/-- WSQ's part of a stop: the station, and what it returns to (R7). -/
theorem stopStation_wsq (s : State) :
    let x := (stopStation returnSwitch s).wsq
    x = { s.wsq with
        station := x.station, returnState := x.returnState, returnFault := x.returnFault, idleTimer := x.idleTimer } ∧
      (s.wsq.station.beforeIdle → x.station = s.wsq.station) ∧ (¬s.wsq.station.beforeIdle → x.station = .stopped) ∧
      (s.wsq.station = .faultHold → x.returnFault = true) ∧
      (s.wsq.station ∈ [StationState.idle, .recover, .dormant, .waking, .clamped, .clamping, .unclamping] →
        x.returnState = some s.wsq.station) := by
  unfold stopStation StationState.beforeIdle
  cases station : s.wsq.station
  all_goals exact ⟨rfl, by simp [station], by simp [station], by simp, by simp⟩

theorem stopStation_pcu (s : State) :
    (stopStation returnSwitch s).pcu.clamp = s.pcu.clamp ∧ (stopStation returnSwitch s).stl.stop = s.stl.stop ∧
      (stopStation returnSwitch s).stl.debounce = s.stl.debounce ∧ (stopStation returnSwitch s).stl.input = s.stl.input ∧
      (s.wsq.station ≠ .dormant → (stopStation returnSwitch s).stl = s.stl) ∧
      (s.wsq.station = .dormant → (stopStation returnSwitch s).stl.pause = .normal) := by
  unfold stopStation
  cases station : s.wsq.station
  case dormant => exact ⟨rfl, rfl, rfl, rfl, fun other => absurd rfl other, fun _ => rfl⟩
  all_goals exact ⟨rfl, rfl, rfl, rfl, fun _ => rfl, nofun⟩

/-- The valve and the shoes of a head at ACTIVE. -/
theorem clampsStop_written (s : State) :
    (clampsStop s).pcu.clampValve = .hold ∧ (clampsStop s).pcu.mode = s.pcu.mode ∧ (clampsStop s).pcu.shoe = s.pcu.shoe ∧
      (s.pcu.clamp = some .closing ∨ s.pcu.clamp = some .opening →
        (clampsStop s).pcu.stopped = true ∧ (clampsStop s).pcu.clampTimer = none) := by
  unfold clampsStop clampsMoving endTopUp armSlip
  split
  · exact ⟨rfl, rfl, rfl, fun _ => ⟨rfl, rfl⟩⟩
  · next settled =>
    have other : ¬(s.pcu.clamp = some .closing ∨ s.pcu.clamp = some .opening) := by simpa using settled
    split <;> exact ⟨rfl, rfl, rfl, fun moves => absurd moves other⟩

/-- The weld at a stop: its motion steps stop, and the upset time limit with them (R120, R122). -/
def Wsq.heldWork (x : Wsq) : Wsq :=
  { x with
    upsetTimer := none
    abort := x.abort.map Abort.held
    ending := x.ending.map fun e => { e with moving := false } }

/-- What the head at ACTIVE is. -/
theorem activeHead_written (s : State) :
    let h := s.activeHead returnSwitch
    h.wsq =
        { s.wsq with
          station := h.wsq.station, returnState := h.wsq.returnState, returnFault := h.wsq.returnFault
          idleTimer := h.wsq.idleTimer, upsetTimer := none
          abort := s.wsq.abort.map Abort.held, ending := s.wsq.ending.map fun e => { e with moving := false } } ∧
      (s.wsq.station = .faultHold → h.wsq.returnFault = true) ∧
      (s.wsq.station ∈ [StationState.idle, .recover, .dormant, .waking, .clamped, .clamping, .unclamping] →
        h.wsq.returnState = some s.wsq.station) ∧
      (s.wsq.station.beforeIdle → h.wsq.station = s.wsq.station) ∧
      (¬s.wsq.station.beforeIdle → h.wsq.station = .stopped) ∧
      h.stl.stop = .active ∧ h.stl.debounce = none ∧ h.stl.input = s.stl.input ∧
      (s.wsq.station ≠ .dormant → h.stl = { s.stl with stop := .active, debounce := none }) ∧
      (s.wsq.station = .dormant → h.stl.pause = .normal) ∧ h.pcu.mode = .hold ∧ h.pcu.clampValve = .hold ∧
      h.pcu.shoe = none ∧ h.pcu.clamp = s.pcu.clamp ∧ h.tru.valve = .hold ∧
      (s.pcu.clamp = some .closing ∨ s.pcu.clamp = some .opening → h.pcu.stopped = true ∧ h.pcu.clampTimer = none) := by
  obtain ⟨wsq, kept, stops, fault, back⟩ := stopStation_wsq returnSwitch { s with stl.stop := .active, stl.debounce := none }
  obtain ⟨clamp, stop, debounce, input, stl, pause⟩ :=
    stopStation_pcu returnSwitch { s with stl.stop := .active, stl.debounce := none }
  unfold State.activeHead
  generalize stopStation returnSwitch { s with stl.stop := .active, stl.debounce := none } = t at *
  obtain ⟨valve, mode, shoe, moving⟩ := clampsStop_written (holdWeld (stopShoes (platenHold t)))
  have weld : (truHold (clampsStop (holdWeld (stopShoes (platenHold t))))).wsq =
      { t.wsq with
        upsetTimer := none
        abort := t.wsq.abort.map Abort.held
        ending := t.wsq.ending.map fun e => { e with moving := false } } := by
    simp [holdWeld_eq]
  dsimp only
  rw [weld]
  refine ⟨congrArg Wsq.heldWork wsq, fault, back, kept, stops, by simpa using stop, by simpa using debounce, by simpa using input,
    fun awake => by simpa using stl awake, fun asleep => by simpa using pause asleep, ?_, ?_, ?_, by simpa using clamp,
    truHold_valve _, fun moves => ?_⟩
  · simp [mode, show (stopShoes (platenHold t)).pcu.mode = .hold from platenHold_mode t]
  · simpa using valve
  · simp [shoe]
  · simpa using moving (by simpa [clamp] using moves)

theorem activeHead_platen (s : State) : PlatenHeld (s.activeHead returnSwitch) := by
  obtain ⟨-, -, -, -, -, stop, -, -, -, -, mode, -⟩ := activeHead_written returnSwitch s
  exact ⟨mode, .inl (by rw [stop]; decide)⟩

end

/-! ### The orders at ACTIVE -/

section
variable {s : State}

theorem stopOrders_drive (left : StationState) (s : State) : DriveWork s (stopOrders left s) := by
  have weld : DriveWork s (stopWeld s) := by
    unfold stopWeld
    split
    · exact reportFault_drive _ s
    · exact .refl s
  have ends : DriveWork s (endOrder .failed (.fault .eStop) none { s with wsq.clampFail := none }) := {}
  cases left with
  | clamping | unclamping => exact ends
  | welding | faultHold => exact weld
  | _ => exact .refl s

theorem PlatenHeld.stopOrders (h : PlatenHeld s) (left : StationState)
    (held : left = .welding ∨ left = .faultHold → s.motionHeld = true) : PlatenHeld (stopOrders left s) := by
  have weld (held : s.motionHeld = true) : PlatenHeld (stopWeld s) := by
    unfold stopWeld
    split
    · exact h.reportFault held _
    · exact h
  have ends : PlatenHeld (endOrder .failed (.fault .eStop) none { s with wsq.clampFail := none }) :=
    h.kept (by simp [h.mode]) (by simp) (by simp)
  cases left with
  | clamping | unclamping => exact ends
  | welding => exact weld (held (.inl rfl))
  | faultHold => exact weld (held (.inr rfl))
  | _ => exact h

end

theorem enterActive_platen (returnSwitch : Bool) (s : State) : (enterActive returnSwitch s).pcu.mode = .hold := by
  obtain ⟨-, -, -, -, late, -⟩ := activeHead_written returnSwitch s
  have held : s.wsq.station = .welding ∨ s.wsq.station = .faultHold →
      (immediateOff (endPause (s.activeHead returnSwitch))).motionHeld = true := by
    intro left
    have stops := late (by rcases left with e | e <;> simp [StationState.beforeIdle, e])
    rw [(immediateOff_path _).motionHeld]
    simp [State.motionHeld, stops]
  have platen : PlatenHeld (stopOrders s.wsq.station (immediateOff (endPause (s.activeHead returnSwitch)))) :=
    (activeHead_platen returnSwitch s).endPause.driveOff.stopOrders s.wsq.station held
  rw [enterActive_eq]
  simpa using platen.mode

/-- STL at ACTIVE: a pause in force ends by the latest sample, and nothing after that touches STL (R116). -/
theorem enterActive_stl (returnSwitch : Bool) (s : State) :
    (enterActive returnSwitch s).stl =
      if (s.activeHead returnSwitch).paused then (s.activeHead returnSwitch).pauseEnded
      else (s.activeHead returnSwitch).stl := by
  have off : DriveWork (endPause (s.activeHead returnSwitch)) (immediateOff (endPause (s.activeHead returnSwitch))) :=
    (immediateOff_path _).toDriveWork
  have orders := off.trans (stopOrders_drive s.wsq.station _)
  have after {x : Stl} (form : (endPause (s.activeHead returnSwitch)).stl = x) (stays : x.stays) :
      (enterActive returnSwitch s).stl = x := by
    rw [enterActive_eq, stopNotice_frame _ |>.2.2.2.2.2.2.2.2.2.2.2.1]
    exact (orders.stl (by rwa [form])).trans form
  cases paused : (s.activeHead returnSwitch).paused
  · have none_ends : endPause (s.activeHead returnSwitch) = s.activeHead returnSwitch := by simp [endPause, paused]
    exact after (congrArg (·.stl) none_ends) (stays_of_unpaused paused)
  · exact after (endPause_stl paused) (pauseEnded_stays _)

theorem enterActive_unpaused (returnSwitch : Bool) (s : State) : (enterActive returnSwitch s).paused = false := by
  rw [State.paused, enterActive_stl]
  cases paused : (s.activeHead returnSwitch).paused
  · exact paused
  · rw [if_pos rfl, State.pauseEnded]
    dsimp only
    split <;> rfl

theorem enterActive_pauseEnded (returnSwitch : Bool) {s : State} (paused : s.paused = true) (awake : s.wsq.station ≠ .dormant) :
    (enterActive returnSwitch s).stl = { s.pauseEnded with stop := .active, debounce := none } := by
  obtain ⟨-, -, -, -, -, -, -, -, stl, -⟩ := activeHead_written returnSwitch s
  have paused' : (s.activeHead returnSwitch).paused = true := by rw [State.paused, stl awake]; exact paused
  have settings : (s.activeHead returnSwitch).settings = s.settings := by simp [State.activeHead]
  have same (n : Nat) : recovered (s.activeHead returnSwitch) n = recovered s n := by
    rw [recovered, recovered, State.loc, State.loc, settings]
  rw [enterActive_stl, if_pos paused']
  simp only [State.pauseEnded, stl awake, same]

end Sys2Proof.Machine

/-! A sag of the supply: the pause it begins, what ends it, and SUPPLY_LOST (O60). -/

namespace Sys2Proof.Machine

/-! ### A pause begins (R90, R113) -/

section
variable {s : State}

/-- Where the drive has left RUNNING, energies and times stay as they are. -/
theorem CdrPath.stopped {c d : Cdr} (h : CdrPath c d) (idle : c.drive ≠ .running) : EnergyKept c d ∧ d.drive ≠ .running := by
  obtain kept | ⟨ran, -, -⟩ := h.cycle
  · obtain ⟨-, -, -, -, -, same⟩ := id kept
    exact ⟨kept, fun runs => idle (same runs).1⟩
  · exact absurd ran idle

theorem cycleAdded_kept {b c d : Cdr} {x : CycleSums} (added : cycleAdded b c x) (kept : EnergyKept c d) : cycleAdded b d x := by
  obtain ⟨energy, tally, part, ms, run⟩ := added
  obtain ⟨energy', tally', part', ms', run', -⟩ := kept
  exact ⟨energy'.trans energy, tally'.trans tally, part'.trans part, ms'.trans ms, run'.trans run⟩

/-- A drive that has lost a run condition is not RUNNING, and its energy so far is added (R54, R69). -/
theorem loseRun_stops (lost : s.runConditions = false) :
    (loseRun s).cdr.drive ≠ .running ∧ (s.cdr.drive = .running → cycleAdded s.cdr (loseRun s).cdr s.cdr.sums) := by
  by_cases runs : s.cdr.drive = .running
  · have cut : loseRun s = if s.cdr.offPending then driveOff (cutRunning s) else cutRunning s := if_pos ⟨runs, lost⟩
    have ready : (cutRunning s).cdr.drive ≠ .running := by simp
    rw [cut]
    split
    · obtain ⟨kept, stopped⟩ := (driveOff_path (cutRunning s)).cdr.stopped ready
      exact ⟨stopped, fun _ => cycleAdded_kept (cutRunning_added s) kept⟩
    · exact ⟨ready, fun _ => cutRunning_added s⟩
  · have same : loseRun s = s := if_neg fun h => runs h.1
    rw [same]
    exact ⟨runs, fun h => absurd h runs⟩

/-- The state in which a pause is begun at STL. -/
def State.pausing (s : State) : State := { s with stl := s.stl.pauseBegun s.loc.pauseMaxMs }

theorem beginPause_eq (s : State) :
    beginPause s = reportFault .supplySag (cutUpset (flashPause (loseRun s.pausing))) := rfl

theorem flashPause_eq (s : State) :
    ∃ f p, flashPause s = { s with flash := f, pcu := p } ∧
      (s.wsq.abort = none → (s.flash.feed = some .feeding ∨ s.flash.feed = some .stepping →
        f = { s.flash with feed := some .held } ∧ p.mode = .hold) ∧
      (s.flash.feed ≠ some .feeding → s.flash.feed ≠ some .stepping → f = s.flash)) := by
  unfold flashPause
  split
  · next pauses =>
    refine ⟨_, (platenHold s).pcu, rfl, fun _ => ⟨fun _ => ⟨rfl, platenHold_mode s⟩, fun unfed unstepped => ?_⟩⟩
    exact absurd pauses.2 (by simp [unfed, unstepped])
  · next stays =>
    refine ⟨s.flash, s.pcu, rfl, fun going => ⟨fun feeds => ?_, fun _ _ => rfl⟩⟩
    exact absurd ⟨by simp [State.aborting, going], feeds⟩ stays

/-- The cut of the upset current, where no abort path is under way. -/
theorem cutUpset_only (going : s.wsq.abort = none) (stays : s.stl.stays) (unawaited : s.flash.offAwaited = false) :
    (cutUpset s).flash = s.flash ∧ (cutUpset s).pcu = s.pcu := by
  unfold cutUpset
  split
  · obtain ⟨w, x, e⟩ := fileFault_eq .upsetCurrentCut s
    rw [reportFault_upsetCurrentCut, e]
    obtain ⟨flash, pcu, -⟩ := (endUpsetCurrent_only (s := { s with wrs.working := w, wsq.lastFault := x })
      (by simp [awaitsDriveOff, going])).still stays unawaited
    exact ⟨flash, pcu⟩
  · exact ⟨rfl, rfl⟩

/-- The beginning of a pause in the drive, in the station and in flash control (R69, R90, R113). -/
theorem beginPause_written (s : State) :
    let t := beginPause s
    t.cdr.drive ≠ .running ∧ t.wsq.station = s.wsq.station ∧ sameBase s t ∧ t.sht.peers = s.sht.peers ∧
      (s.cdr.drive = .running → cycleAdded s.cdr t.cdr s.cdr.sums) ∧
      (s.wsq.abort = none → s.flash.offAwaited = false →
        (s.flash.feed = some .feeding ∨ s.flash.feed = some .stepping →
          t.flash = { s.flash with feed := some .held } ∧ t.pcu.mode = .hold) ∧
          (s.flash.feed ≠ some .feeding → s.flash.feed ≠ some .stepping → t.flash = s.flash)) := by
  have lost := loseRun_path s.pausing
  have stays : s.pausing.stl.stays := ⟨nofun, fun _ => rfl⟩
  obtain ⟨stopped, added⟩ := loseRun_stops (s := s.pausing)
    (by simp [State.runConditions, State.paused, State.pausing, Stl.pauseBegun])
  have only (going : s.wsq.abort = none) := loseRun_only (s := s.pausing) (by simp [awaitsDriveOff, State.pausing, going])
  obtain ⟨f, p, holds, feeds⟩ := flashPause_eq (loseRun s.pausing)
  obtain ⟨w, x, cut⟩ := cutUpset_path (flashPause (loseRun s.pausing))
  obtain ⟨w', x', filed⟩ := fileFault_eq .supplySag (cutUpset (flashPause (loseRun s.pausing)))
  have cuts (going : s.wsq.abort = none) (unawaited : s.flash.offAwaited = false) :
      (cutUpset (flashPause (loseRun s.pausing))).flash = f ∧ (cutUpset (flashPause (loseRun s.pausing))).pcu = p := by
    obtain ⟨flash, -, stl⟩ := (only going).still stays unawaited
    have waits : f.offAwaited = false := by
      have feed := feeds ((congrArg (·.abort) (only going).wsq).trans going)
      by_cases fed : (loseRun s.pausing).flash.feed = some .feeding ∨ (loseRun s.pausing).flash.feed = some .stepping
      · rw [(feed.1 fed).1, flash]; exact unawaited
      · rw [feed.2 (fun h => fed (.inl h)) (fun h => fed (.inr h)), flash]; exact unawaited
    have kept := cutUpset_only (s := flashPause (loseRun s.pausing))
      (by rw [holds]; exact (congrArg (·.abort) (only going).wsq).trans going)
      (by rw [holds]; show (loseRun s.pausing).stl.stays; rw [stl]; exact stays) (by rw [holds]; exact waits)
    rw [holds] at kept ⊢
    exact kept
  rw [beginPause_eq, reportFault_supplySag, filed]
  have cdr := cut.cdr
  have base := cut.base
  have peers := congrArg (·.peers) cut.sht
  have station := cut.station
  generalize cutUpset (flashPause (loseRun s.pausing)) = u at cuts cdr base peers station
  rw [holds] at cdr base peers station
  obtain ⟨kept, stopped'⟩ := cdr.stopped stopped
  refine ⟨stopped', station.trans lost.station, sameBase_trans lost.base base, ?_,
    fun runs => cycleAdded_kept (added runs) kept, fun going unawaited => ?_⟩
  · exact peers.trans (congrArg (·.peers) lost.sht)
  · obtain ⟨flash, pcu⟩ := cuts going unawaited
    obtain ⟨before, -, -⟩ := (only going).still stays unawaited
    obtain ⟨fed, unfed⟩ := feeds ((congrArg (·.abort) (only going).wsq).trans going)
    rw [before] at fed unfed
    refine ⟨fun feeding => ?_, fun unfeeding unstepping => flash.trans (unfed unfeeding unstepping)⟩
    obtain ⟨held, mode⟩ := fed feeding
    exact ⟨flash.trans held, (congrArg (·.mode) pcu).trans mode⟩

end

/-! ### Samples of the bus (R112, R114) -/

theorem busVoltageSample_taken {s : State} (awake : s.inReset = false) (v : Nat) (configured : s.configured = true)
    (runs : s.wsq.station ≠ .dormant) : exec (.busVoltageSample v) s = .next (takeVolts v s) :=
  exec_taken rfl awake (by simp [detectorRuns, configured, runs])

section
variable {s : State} (v : Nat)

theorem takeVolts_normal (state : s.stl.pause = .normal) :
    takeVolts v s =
      { s with
        stl.volts := v
        stl.pause := if v < s.loc.sagV then .sag else .normal
        stl.deglitch := if v < s.loc.sagV then some s.loc.sagMs else s.stl.deglitch } := by
  simp only [takeVolts, state, sags, decide_eq_true_eq]
  split
  · rfl
  · rw [← state]

theorem takeVolts_sag (state : s.stl.pause = .sag) (early : s.stl.deglitched = false) :
    takeVolts v s =
      { s with
        stl.volts := v
        stl.pause := if v < s.loc.sagV then .sag else .normal
        stl.deglitch := if v < s.loc.sagV then s.stl.deglitch else none } := by
  have takes : takeVolts v s =
      if v < s.loc.sagV then { s with stl.volts := v } else { s with stl.volts := v, stl.pause := .normal, stl.deglitch := none } := by
    simp [takeVolts, state, early, sags]
  rw [takes]
  split
  · rw [← state]
  · rfl

theorem takeVolts_deglitched (state : s.stl.pause = .sag) (late : s.stl.deglitched = true) :
    takeVolts v s =
      { s with
        stl.volts := v
        stl.pause := if s.loc.sagV + s.loc.sagHystV ≤ v then .normal else .sag
        stl.deglitched := !decide (s.loc.sagV + s.loc.sagHystV ≤ v) } := by
  have takes : takeVolts v s =
      if s.loc.sagV + s.loc.sagHystV ≤ v then { s with stl.volts := v, stl.pause := .normal, stl.deglitched := false }
      else { s with stl.volts := v } := by
    simp [takeVolts, state, late, recovered]
  rw [takes]
  by_cases recovers : s.loc.sagV + s.loc.sagHystV ≤ v
  · rw [if_pos recovers, if_pos recovers, decide_eq_true recovers]
    rfl
  · rw [if_neg recovers, if_neg recovers, decide_eq_false recovers, ← state, Bool.not_false, ← late]

theorem takeVolts_paused (state : s.stl.pause = .paused) (timed : s.cdr.mode ≠ .off) :
    takeVolts v s =
      { s with stl.volts := v, stl.pause := if s.loc.sagV + s.loc.sagHystV ≤ v then .resuming else .paused } := by
  have takes : takeVolts v s =
      if s.loc.sagV + s.loc.sagHystV ≤ v then { s with stl.volts := v, stl.pause := .resuming } else { s with stl.volts := v } := by
    simp [takeVolts, state, timed, recovered]
  rw [takes]
  split
  · rfl
  · rw [← state]

theorem takeVolts_recovers (state : s.stl.pause = .paused) (idle : s.cdr.mode = .off)
    (recovers : s.loc.sagV + s.loc.sagHystV ≤ v) : takeVolts v s = resumeRecovered { s with stl.volts := v } := by
  simp [takeVolts, state, idle, recovered, recovers]

theorem takeVolts_resuming (state : s.stl.pause = .resuming) :
    takeVolts v s = { s with stl.volts := v, stl.pause := if v < s.loc.sagV then .paused else .resuming } := by
  have takes : takeVolts v s =
      if v < s.loc.sagV then { s with stl.volts := v, stl.pause := .paused } else { s with stl.volts := v } := by
    simp [takeVolts, state, sags]
  rw [takes]
  split
  · rfl
  · rw [← state]

end

/-! ### The boundary that ends RESUMING (R91, R114) -/

section
variable {s : State}

theorem flashResume_steps (held : s.flash.feed = some .held) (going : s.wsq.abort = none) (free : s.motionHeld = false)
    (runs : s.stl.stop = .run) :
    (flashResume s).flash = { s.flash with feed := some .stepping } ∧
      (flashResume s).pcu.mode = .retract (clampInt 0 s.loc.strokeFwd (s.pcu.position - s.sched.retractStep)) := by
  have resumes : flashResume s = { platenRetract s.sched.retractStep s with flash.feed := some .stepping } :=
    if_pos ⟨held, by simp [State.aborting, going], free⟩
  rw [resumes]
  exact ⟨by simp, platenRetract_mode _ runs⟩

theorem flashResume_unheld (unheld : s.flash.feed ≠ some .held) : flashResume s = s := if_neg fun h => unheld h.1

theorem carrierCycleEnd_resumes (awake : s.inReset = false) (state : s.stl.pause = .resuming) (timed : s.cdr.mode ≠ .off)
    (at_end : s.cdr.half = .boundary) (ready : s.cdr.drive = .ready) (incomplete : s.cdr.whole = false) :
    completes .carrierCycleEnd s fun t =>
      let runs := s.drawing = true ∧ s.stl.stop = .run ∧ s.pcu.clamp = some .closed
      t.stl = { s.stl with pause := .normal, pauseTimer := none, lostReported := false } ∧
        (runs → t.cdr.drive = .running ∧ t.cdr.half = .positive ∧ t.cdr.whole = true) ∧
        (¬runs → t.cdr.drive = .ready) ∧
        (s.flash.feed = some .held → s.wsq.abort = none → s.motionHeld = false → s.stl.stop = .run →
          t.flash = { s.flash with feed := some .stepping } ∧
            t.pcu.mode = .retract (clampInt 0 s.loc.strokeFwd (s.pcu.position - s.sched.retractStep))) ∧
        (s.flash.feed ≠ some .held → t.flash = s.flash ∧ t.pcu = s.pcu) ∧
        t.wsq = s.wsq ∧ t.lkc = s.lkc ∧ t.sht = s.sht ∧ t.wrs = s.wrs ∧ sameBase s t := by
  have run : exec .carrierCycleEnd s = .next (cycleBoundary s) := exec_taken rfl awake (by simp [timingRuns, timed, at_end])
  have ends : cycleBoundary s = beginCycle (resumeRecovered s) := by
    have nothing : cycleEnds s = s := by simp [cycleEnds, driveRuns, ready, incomplete]
    simp [cycleBoundary, nothing, timingRuns, timed, at_end, nextCycle, state]
  refine completes_of run ends ?_
  obtain ⟨half, drive, whole, -⟩ := beginCycle_written (resumeRecovered s)
  obtain ⟨c, e, -⟩ := beginCycle_eq (resumeRecovered s)
  have stl : (resumeRecovered s).stl = { s.stl with pause := .normal, pauseTimer := none, lostReported := false } := by
    simp [resumeRecovered]
  have runs : (resumeRecovered s).runConditions = true ↔
      s.drawing = true ∧ s.stl.stop = .run ∧ s.pcu.clamp = some .closed := by
    have drawing : (resumeRecovered s).drawing = s.drawing := by simp [State.drawing, State.ownClaim]
    simp [State.runConditions, drawing, State.paused, stl, and_assoc]
  rw [e] at half drive whole ⊢
  refine ⟨stl, fun conditions => ?_, fun unmet => ?_, fun held going free runs' => ?_, fun unheld => ?_, by simp, by simp,
    by simp, by simp, by simp [sameBase]⟩
  · rw [runs.mpr conditions] at drive whole
    exact ⟨drive, half, whole⟩
  · rw [Bool.eq_false_iff.mpr fun met => unmet (runs.mp met)] at drive
    exact drive
  · exact flashResume_steps (s := { s with stl.pause := .normal, stl.pauseTimer := none, stl.lostReported := false }) held going
      free runs'
  · have same : resumeRecovered s = { s with stl.pause := .normal, stl.pauseTimer := none, stl.lostReported := false } :=
      flashResume_unheld (by exact unheld)
    rw [same]
    exact ⟨rfl, rfl⟩

/-! ### ACTIVE and FAULT_HOLD end a pause (R116) -/

theorem endWeld_platen (outcome : OrderOutcome) (reason : Reason) (weldNo : Option Nat) (s : State) :
    (endWeld outcome reason weldNo s).pcu.mode = s.pcu.mode ∧
      (endWeld outcome reason weldNo s).pcu.moveTimer = s.pcu.moveTimer := by
  have station (u : State) : (setStation .clamped u).pcu.mode = u.pcu.mode ∧
      (setStation .clamped u).pcu.moveTimer = u.pcu.moveTimer := by
    unfold setStation makeTopUp startTopUp endTopUp armSlip
    (repeat' split) <;> exact ⟨rfl, rfl⟩
  have left : (leaveWeld s).pcu.mode = s.pcu.mode ∧ (leaveWeld s).pcu.moveTimer = s.pcu.moveTimer := by
    unfold leaveWeld
    dsimp only
    split
    · exact ⟨rfl, rfl⟩
    · exact station _
  simp [endWeld, left]

theorem endBegunEnding_mode (s : State) : (endBegunEnding s).pcu.mode = s.pcu.mode := by
  unfold endBegunEnding
  split
  · split
    · exact (endWeld_platen _ _ _ s).1
    · rfl
  · rfl

/-- CLAMP_SLIP or SENSOR_FAULT where FAULT_HOLD is entered (R8). -/
theorem reportHold_enters {code : FaultCode} (applies : holdApplies s = true) (unheld : s.wsq.station ≠ .faultHold) :
    reportHold code s =
      endBegunEnding (reportFault code (faultHoldEntry (clampsStop (failClampOrder (.fault code) s)))) := by
  rw [reportHold, if_neg (by simp [applies]), if_neg unheld]

/-- CLAMP_SLIP in a pause: FAULT_HOLD ends it by the latest sample. -/
theorem slipDetected_ends (awake : s.inReset = false) (paused : s.paused = true) (configured : s.configured = true)
    (heard : s.wsq.station ≠ .listening) (armed : s.pcu.slip = .armed) (closed : s.pcu.clamp = some .closed)
    (complete : s.loc.slipMs ≤ s.pcu.slipCount) (unheld : s.wsq.station ≠ .faultHold) :
    completes .slipDetected s fun t => t.stl = s.pauseEnded ∧ t.pcu.mode = .hold := by
  have run : exec .slipDetected s = .next (slips s) := exec_taken rfl awake (by simp [armed, slipComplete, closed, complete])
  have applies : holdApplies { s with pcu.slip := .tripped, pcu.slipCount := 0 } = true := by
    have same : holdApplies { s with pcu.slip := .tripped, pcu.slipCount := 0 } = holdApplies s := rfl
    rw [same]
    simp [holdApplies, configured, heard, State.clampsNotOpen, closed]
  refine completes_of run (reportHold_enters applies unheld) ?_
  have enters : ∀ u : State, u.stl = s.stl → u.settings = s.settings →
      (reportFault .clampSlip (faultHoldEntry u)).stl = s.pauseEnded ∧
        (reportFault .clampSlip (faultHoldEntry u)).pcu.mode = .hold := by
    intro u stl settings
    have same (n : Nat) : recovered u n = recovered s n := by rw [recovered, recovered, State.loc, State.loc, settings]
    have ended : (faultHoldEntry u).stl = s.pauseEnded := by
      rw [faultHoldEntry_stl (by rw [State.paused, stl]; exact paused)]
      simp only [State.pauseEnded, same, stl]
    obtain ⟨platen, held⟩ := faultHoldEntry_held_platen u
    refine ⟨?_, (platen.reportFault held _).mode⟩
    rw [← ended]
    exact (reportFault_drive .clampSlip (faultHoldEntry u)).stl (by rw [ended]; exact pauseEnded_stays s)
  obtain ⟨stl, mode⟩ := enters
    (clampsStop (failClampOrder (.fault .clampSlip) { s with pcu.slip := .tripped, pcu.slipCount := 0 })) (by simp) (by simp)
  exact ⟨(by simpa using stl), (endBegunEnding_mode _).trans mode⟩

/-- E_STOP_ASSERTED outside ACTIVE. -/
theorem eStopAsserted_enters (returnSwitch : Bool) (awake : s.inReset = false) (released : s.stl.stop ≠ .active) :
    exec (.eStopAsserted returnSwitch) s = .next (enterActive returnSwitch { s with stl.input := true }) := by
  have asserts : stopAsserted returnSwitch s = enterActive returnSwitch { s with stl.input := true } := by
    simp [stopAsserted, setInput, awake, released]
  exact congrArg Host.Outcome.next asserts

end

/-! ### The pause timer's end (R115) -/

/-- A station that does not draw, with its drive BLOCKED. -/
structure Undriven (s : State) : Prop where
  drive : s.cdr.drive = .blocked
  undrawn : s.drawing = false

/-- What ends a weld of such a station leaves to STL and to CDR. -/
structure UndrivenWork (s t : State) : Prop where
  stl : t.stl = s.stl := by simp
  cdr : t.cdr = s.cdr := by simp
  claims : t.sht.claims = s.sht.claims ∨ t.sht.claims = removeClaim s.node s.sht.claims := by simp
  node : t.node = s.node := by simp

section
variable {s t u : State}

theorem undrawn_of_claims (claims : t.sht.claims = s.sht.claims ∨ t.sht.claims = removeClaim s.node s.sht.claims)
    (node : t.node = s.node) (undrawn : s.drawing = false) : t.drawing = false := by
  obtain kept | gone := claims
  · rwa [State.drawing, State.ownClaim, kept, node]
  · have none_own : t.ownClaim = none := by simp [State.ownClaim, gone, node, removeClaim, List.find?_eq_none]
    simp [State.drawing, none_own]

namespace UndrivenWork

theorem refl (s : State) : UndrivenWork s s := {}

theorem undriven (h : UndrivenWork s t) (idle : Undriven s) : Undriven t where
  drive := by rw [h.cdr]; exact idle.drive
  undrawn := undrawn_of_claims h.claims h.node idle.undrawn

theorem trans (h : UndrivenWork s t) (k : UndrivenWork t u) : UndrivenWork s u where
  stl := k.stl.trans h.stl
  cdr := k.cdr.trans h.cdr
  node := k.node.trans h.node
  claims := by
    have same := h.node
    obtain kept | gone := h.claims <;> obtain kept' | gone' := k.claims
    · exact .inl (kept'.trans kept)
    · exact .inr (by rw [gone', kept, same])
    · exact .inr (kept'.trans gone)
    · exact .inr (by rw [gone', gone, same, PathWork.removeClaim_twice])

end UndrivenWork

namespace Undriven

theorem yieldClaim (idle : Undriven s) : UndrivenWork s (yieldClaim s) where
  claims := .inr (yieldClaim_claims s)
  stl := by
    have undrawn := idle.undrawn
    unfold Machine.yieldClaim
    split
    · rfl
    · next own held =>
      have waits : own.state ≠ .drawing := by simpa [State.drawing, held] using undrawn
      simp [waits]

theorem driveOffReport (idle : Undriven s) : UndrivenWork s (driveOffReport s) := by
  have parts : UndrivenWork s (contactStepEnds s) := {}
  unfold Machine.driveOffReport abortStepEnds
  split
  · exact (parts.trans (parts.undriven idle).yieldClaim).trans {}
  · exact parts

theorem normalOff (idle : Undriven s) : UndrivenWork s (normalOff s) := by
  simp only [Machine.normalOff, idle.drive]
  split
  · exact .refl s
  · exact idle.driveOffReport

theorem yieldOwn (idle : Undriven s) : UndrivenWork s (yieldOwn s) := by
  have yields := idle.yieldClaim
  have stays : Machine.yieldOwn s = Machine.yieldClaim s := by
    refine if_neg fun h => ?_
    rw [(yields.undriven idle).drive] at h
    cases h.1
  rw [stays]
  exact yields

theorem endUpsetCurrent (idle : Undriven s) : UndrivenWork s (endUpsetCurrent s) := by
  unfold Machine.endUpsetCurrent
  split
  · have off := normalOff (s := { s with wsq.upsetMark := false }) ⟨idle.drive, idle.undrawn⟩
    exact UndrivenWork.trans (t := { s with wsq.upsetMark := false }) {} (off.trans (off.undriven ⟨idle.drive, idle.undrawn⟩).yieldOwn)
  · exact .refl s

/-- An abort path that begins without current (R117 to R121). -/
theorem beginPath (idle : Undriven s) (cause : FaultCode) (p : WeldPhase) : UndrivenWork s (beginPath cause p s) := by
  have beforeCurrent (u : State) : UndrivenWork u (abortBeforeCurrent cause u) := by
    unfold abortBeforeCurrent
    (repeat' split) <;> exact {}
  cases p with
  | check =>
    show UndrivenWork s (abortCheck cause s)
    unfold abortCheck
    (repeat' split) <;> exact {}
  | touch => exact UndrivenWork.trans (t := platenHold s) {} (beforeCurrent _)
  | claimWait => exact idle.yieldOwn.trans (beforeCurrent _)
  | preheat | flash | boost =>
    have held : UndrivenWork s (platenHold s) := {}
    have path : UndrivenWork s (abortFlash s) := by
      unfold abortFlash
      dsimp only
      rw [if_neg (by simp [idle.drive])]
      exact (held.trans (held.undriven idle).yieldOwn).trans {}
    exact path
  | upset => exact ⟨idle.endUpsetCurrent.stl, idle.endUpsetCurrent.cdr, idle.endUpsetCurrent.claims, idle.endUpsetCurrent.node⟩
  | trim =>
    show UndrivenWork s (abortTrim s)
    unfold abortTrim
    split <;> exact {}
  | hold | cool | closing => exact .refl s

theorem reportFault (idle : Undriven s) (code : FaultCode) : UndrivenWork s (reportFault code s) := by
  have filed : UndrivenWork s (fileFault code s) := {}
  unfold Machine.reportFault
  dsimp only
  split
  · unfold tryAbort
    split
    · exact filed
    · split
      · next p _ _ =>
        have starts : UndrivenWork (fileFault code s) (stopWork { fileFault code s with wsq.abort := some ⟨code, p, .runOn⟩ }) := {}
        exact (filed.trans starts).trans (((filed.trans starts).undriven idle).beginPath code p)
      · exact filed
  · exact filed

end Undriven

end

end Sys2Proof.Machine

/-! SUPPLY_LOST at the pause timer's end, and the sag of the supply as a whole (O60). -/

namespace Sys2Proof.Machine

section
variable {s : State}

theorem resumeForced_paused (s : State) : (resumeForced s).paused = false := by
  rw [State.paused, resumeForced_stl, State.pauseEnded]
  dsimp only
  split <;> rfl

/-- A drawing claim that is withdrawn ends a pause whose timer has run out (R115). -/
theorem yieldClaim_unpauses (draws : s.drawing = true) (lost : s.paused = true → s.stl.lostReported = true) :
    (yieldClaim s).paused = false := by
  obtain ⟨own, held, drawing⟩ : ∃ own, s.ownClaim = some own ∧ own.state = .drawing := by
    simpa [State.drawing, Option.any_eq_true] using draws
  have yields : yieldClaim s = drawingEnded (yieldFrames own.number (dropOwnClaim s)) := by
    simp [yieldClaim, held, drawing]
  rw [yields]
  have same : (yieldFrames own.number (dropOwnClaim s)).stl = s.stl := by simp
  generalize yieldFrames own.number (dropOwnClaim s) = u at same
  unfold drawingEnded
  split
  · exact resumeForced_paused u
  · next stays =>
    cases paused : u.paused
    · rfl
    · rw [State.paused, same] at paused
      exact absurd (by rw [State.paused, same, paused, lost paused]; rfl) stays

/-- A drive that stops for an abort path that waited for it: the claim goes, and with it a pause whose timer has run out
(R115, R119). -/
theorem driveOff_yields (waits : awaitsDriveOff s = true) (draws : s.drawing = true)
    (lost : s.paused = true → s.stl.lostReported = true) :
    (driveOff s).paused = false ∧ (driveOff s).sht.claims = removeClaim s.node s.sht.claims := by
  have stopped : ∃ u, timingStopped (blockDrive s) = u ∧ u.wsq = s.wsq ∧ u.sht = s.sht ∧ u.node = s.node ∧
      (u.paused = true → u.stl.lostReported = true) := by
    refine ⟨_, rfl, by simp, by simp, by simp, ?_⟩
    by_cases resumes : s.stl.pause = .resuming
    · rw [timingStopped, if_pos (by simpa using resumes)]
      intro paused
      simp [State.paused, resumeRecovered] at paused
    · rw [timingStopped_still (by simpa using resumes)]
      simpa [State.paused] using lost
  obtain ⟨u, e, wsq, sht, node, lost'⟩ := stopped
  have ends : driveOff s = beginRetract (yieldClaim u) := by rw [driveOff_awaited waits, e]
  have draws' : u.drawing = true := by rwa [State.drawing, State.ownClaim, sht, node]
  rw [ends]
  refine ⟨?_, ?_⟩
  · have unpaused := yieldClaim_unpauses draws' lost'
    simpa [State.paused] using unpaused
  · have gone := yieldClaim_claims u
    rw [sht, node] at gone
    simpa using gone

/-- SUPPLY_LOST in a phase with current before UPSET, with carrier timing running in READY. -/
theorem supplyLost_yields {p : WeldPhase} (phase : s.wsq.phase = some p) (flashes : flashPhase p) (going : s.wsq.abort = none)
    (ending : s.wsq.ending = none) (draws : s.drawing = true) (ready : s.cdr.drive = .ready) (timed : s.cdr.mode ≠ .off)
    (lost : s.stl.lostReported = true) :
    let t := reportFault .supplyLost s
    t.paused = false ∧ t.sht.claims = removeClaim s.node s.sht.claims ∧ t.cdr.drive = .blocked := by
  obtain ⟨starts, -⟩ := reportFault_flashPhase (code := .supplyLost) rfl phase going (by simp [endingBegun, ending]) flashes
  obtain ⟨w, x, e⟩ := fileFault_eq .supplyLost s
  have head : ∃ v, v = setStep .driveIdle (platenHold ((fileFault .supplyLost s).abortStarts .supplyLost p)) ∧
      awaitsDriveOff v = true ∧ v.cdr = s.cdr ∧ v.sht = s.sht ∧ v.node = s.node ∧ v.stl = s.stl := by
    refine ⟨_, rfl, ?_, ?_, ?_, ?_, ?_⟩
    · rw [e, State.abortStarts, stopWork_eq]
      rcases flashes with rfl | rfl | rfl <;> simp [awaitsDriveOff, setStep, phase]
    all_goals simp [State.abortStarts]
  obtain ⟨v, form, waits, cdr, sht, node, stl⟩ := head
  have off : reportFault .supplyLost s = driveOff v := by
    have same : ((fileFault .supplyLost s).abortStarts .supplyLost p).cdr = s.cdr := by simp [State.abortStarts]
    rw [starts, abortFlash, same, if_pos ⟨timed, by rw [ready]; decide⟩, ← form]
    simp only [normalOff, cdr, ready]
  obtain ⟨unpaused, claims⟩ := driveOff_yields waits (by rwa [State.drawing, State.ownClaim, sht, node])
    (fun _ => by rw [stl]; exact lost)
  obtain ⟨drive, -⟩ := driveOff_isOff v
  rw [sht, node] at claims
  rw [off]
  exact ⟨unpaused, claims, drive⟩

/-- The state in which SUPPLY_LOST is reported. -/
def State.supplyGone (s : State) : State := { s with stl.pauseTimer := none, stl.lostReported := true }

/-- A pause whose timer has run out ends unless the station still draws, and nothing of the weld with it. -/
theorem drawingEndedIfIdle_kept (s : State) :
    let t := pauseTimesOut.drawingEndedIfIdle s
    sameBase s t ∧ t.wsq = s.wsq ∧ t.sht = s.sht ∧ t.cdr = s.cdr := by
  unfold pauseTimesOut.drawingEndedIfIdle
  split
  · exact ⟨⟨rfl, rfl, rfl, rfl, rfl⟩, rfl, rfl, rfl⟩
  · exact ⟨by simp [sameBase], by simp, by simp, by simp⟩

theorem pauseTimerExpiry_ends (awake : s.inReset = false) (paused : s.paused = true) (over' : due s.stl.pauseTimer = true) :
    completes .pauseTimerExpiry s fun t =>
      sameBase s t ∧
        (s.drawing = false → s.cdr.drive = .blocked → t.paused = false ∧ t.stl.pauseTimer = none ∧
          t.stl.lostReported = false ∧ t.stl.pause = (if s.loc.sagV + s.loc.sagHystV ≤ s.stl.volts then .normal else .sag)) ∧
        (∀ p, s.wsq.phase = some p → p ∈ [WeldPhase.preheat, .flash, .boost, .upset] → s.wsq.abort = none →
          s.wsq.ending = none → t.wsq.abort.map (fun a => (a.cause, a.phase)) = some (.supplyLost, p)) ∧
        (∀ p, s.wsq.phase = some p → p ∈ [WeldPhase.preheat, .flash, .boost] → s.wsq.abort = none →
          s.wsq.ending = none → s.drawing = true → s.cdr.drive = .ready → s.cdr.mode ≠ .off →
          t.paused = false ∧ t.sht.claims = s.sht.claims.filter (·.station ≠ s.node) ∧ t.cdr.drive = .blocked) ∧
        (s.wsq.phase = some .upset → s.wsq.abort = none → s.wsq.ending = none → s.motionHeld = false →
          t.wsq.upsetTimer = some s.sched.upsetTimeMs) ∧
        (s.wsq.phase = none → s.drawing = false → t.wsq = { s.wsq with lastFault := .fault .supplyLost }) := by
  have run : exec .pauseTimerExpiry s = .next (pauseTimesOut s) := exec_taken rfl awake (by simp [paused, over'])
  have ends : pauseTimesOut s = pauseTimesOut.drawingEndedIfIdle (reportFault .supplyLost s.supplyGone) := rfl
  have work := reportFault_drive .supplyLost s.supplyGone
  obtain ⟨base, wsq, sht, cdr⟩ := drawingEndedIfIdle_kept (reportFault .supplyLost s.supplyGone)
  refine completes_of run ends ⟨sameBase_trans work.base base, fun undrawn blocked => ?_, fun p phase current going ending => ?_,
    fun p phase current going ending draws ready timed => ?_, fun upsets going ending free => ?_, fun idle undrawn => ?_⟩
  · have idle := Undriven.reportFault (s := s.supplyGone) ⟨blocked, undrawn⟩ .supplyLost
    have still := (idle.undriven ⟨blocked, undrawn⟩).undrawn
    have settings := work.base.2.2.1
    have stl := idle.stl
    generalize reportFault .supplyLost s.supplyGone = u at still settings stl
    have gone : pauseTimesOut.drawingEndedIfIdle u = resumeForced u := by
      have pausing : u.paused = true := by rw [State.paused, stl]; exact paused
      have lost : u.stl.lostReported = true := by rw [stl]; rfl
      simp [pauseTimesOut.drawingEndedIfIdle, still, drawingEnded, pausing, lost]
    have form : (resumeForced u).stl = { s.pauseEnded with lostReported := false } := by
      have same (n : Nat) : recovered u n = recovered s n := by
        rw [recovered, recovered, State.loc, State.loc, settings]; rfl
      rw [resumeForced_stl]
      simp only [State.pauseEnded, same, stl]
      rfl
    rw [gone]
    refine ⟨resumeForced_paused u, by rw [form]; rfl, by rw [form], ?_⟩
    rw [form]
    exact ite_congr (propext decide_eq_true_iff) (fun _ => rfl) fun _ => rfl
  · have four : flashPhase p ∨ p = .upset := by simpa [flashPhase, or_assoc] using current
    rw [wsq]
    exact reportFault_abortOf (code := .supplyLost) (s := s.supplyGone) rfl phase going
      (by simp [endingBegun, State.supplyGone, ending]) four
  · have three : flashPhase p := by simpa [flashPhase] using current
    obtain ⟨unpaused, claims, drive⟩ := supplyLost_yields (s := s.supplyGone) phase three going ending draws ready timed rfl
    generalize reportFault .supplyLost s.supplyGone = u at unpaused claims drive sht cdr
    have same : pauseTimesOut.drawingEndedIfIdle u = u := by
      unfold pauseTimesOut.drawingEndedIfIdle
      split
      · rfl
      · exact drawingEnded_stays (stays_of_unpaused unpaused)
    rw [same]
    refine ⟨unpaused, ?_, drive⟩
    rw [claims, removeClaim_eq_filter]
    rfl
  · have starts := reportFault_starts (code := .supplyLost) (s := s.supplyGone) rfl upsets (by decide) going
      (by simp [endingBegun, State.supplyGone, ending])
    obtain ⟨w, x, e⟩ := fileFault_eq .supplyLost s.supplyGone
    have begun : ∃ v : State, reportFault .supplyLost s.supplyGone = abortUpset v ∧ v.motionHeld = false ∧ v.sched = s.sched := by
      refine ⟨_, starts, ?_, ?_⟩
      · rw [e, State.abortStarts, stopWork_eq]; exact free
      · rw [e, State.abortStarts, stopWork_eq]; rfl
    obtain ⟨v, aborts, free', sched⟩ := begun
    obtain ⟨u, path, form⟩ := abortUpset_path v
    rw [wsq, aborts, form, free', sched]
    rfl
  · have filed : reportFault .supplyLost s.supplyGone = { s.supplyGone with wsq.lastFault := .fault .supplyLost } := by
      rw [reportFault_filed (by simp [mayAbort, State.welding, State.supplyGone, idle]), fileFault_unwelding (by exact idle)]
    rw [wsq, filed]
    rfl

end

/-- Settles O60. -/
theorem supplySag : Obligations.SupplySag := by
  intro s awake up
  have sample (v) := busVoltageSample_taken (s := s) awake v
  refine ⟨fun v configured runs => ⟨fun state => ?_, fun state early => ?_, fun state late => ?_, fun state timed => ?_,
    fun state idle recovers => ?_, fun state => ?_⟩, fun over' stays => ?_, fun over' draws free => ?_,
    carrierCycleEnd_resumes awake, fun back c paused configured heard runs cause => ?_, pauseTimerExpiry_ends awake⟩
  · rw [sample v configured runs, takeVolts_normal v state]
  · rw [sample v configured runs, takeVolts_sag v state early]
  · rw [sample v configured runs, takeVolts_deglitched v state late]
  · rw [sample v configured runs, takeVolts_paused v state timed]
  · refine completes_of (sample v configured runs) (takeVolts_recovers v state idle recovers) ?_
    exact ⟨by simp [resumeRecovered], by simp, by simp, by simp, by simp, by simp, by simp [sameBase]⟩
  · rw [sample v configured runs, takeVolts_resuming v state]
  · have run : exec .sagDeglitchExpiry s = .next (sagCounts s) := exec_taken rfl awake over'
    rw [run, sagCounts, if_neg (by rcases stays with undrawn | held <;> simp_all)]
    rfl
  · have run : exec .sagDeglitchExpiry s = .next (sagCounts s) := exec_taken rfl awake over'
    have begins : sagCounts s = beginPause { s with stl.sagCount := bump16 s.stl.sagCount, stl.deglitch := none } :=
      if_pos (by simp [draws, free])
    refine completes_of run begins ?_
    have stl := beginPause_stl { s with stl.sagCount := bump16 s.stl.sagCount, stl.deglitch := none }
    rw [stl]
    exact ⟨rfl, rfl, rfl, rfl, rfl, rfl,
      beginPause_written { s with stl.sagCount := bump16 s.stl.sagCount, stl.deglitch := none }⟩
  · obtain ⟨rfl, released⟩ | ⟨rfl, armed, closed, complete, unheld⟩ := cause
    · refine ⟨_, eStopAsserted_enters back awake released, ?_⟩
      dsimp only
      rw [enterActive_pauseEnded back (s := { s with stl.input := true }) paused runs]
      exact ⟨ite_congr (propext decide_eq_true_iff) (fun _ => rfl) fun _ => rfl, rfl, rfl, rfl, enterActive_platen back _⟩
    · obtain ⟨t, run, stl, mode⟩ := slipDetected_ends awake paused configured heard armed closed complete unheld
      refine ⟨t, run, ?_⟩
      dsimp only
      rw [stl]
      exact ⟨ite_congr (propext decide_eq_true_iff) (fun _ => rfl) fun _ => rfl, rfl, rfl, rfl, mode⟩

end Sys2Proof.Machine

/-! The emergency stop (O59). -/

namespace Sys2Proof.Machine

/-! ### E_STOP reported in a held station -/

/-- What E_STOP leaves of the outputs, and of what the station returns to. -/
structure StopKept (s t : State) : Prop where
  station : t.wsq.station = s.wsq.station := by simp
  back : t.wsq.returnState = s.wsq.returnState ∧ t.wsq.returnFault = s.wsq.returnFault := by simp
  shoe : s.pcu.shoe = none → t.pcu.shoe = none := by simp
  clamps : t.pcu.clampValve = s.pcu.clampValve ∧ t.pcu.clampTimer = s.pcu.clampTimer ∧ t.pcu.stopped = s.pcu.stopped := by simp
  valve : t.tru.valve = s.tru.valve := by simp

section
variable {s t u : State}

namespace StopKept

theorem refl (s : State) : StopKept s s := {}

theorem trans (h : StopKept s t) (k : StopKept t u) : StopKept s u where
  station := k.station.trans h.station
  back := ⟨k.back.1.trans h.back.1, k.back.2.trans h.back.2⟩
  shoe none_yet := k.shoe (h.shoe none_yet)
  clamps := ⟨k.clamps.1.trans h.clamps.1, k.clamps.2.1.trans h.clamps.2.1, k.clamps.2.2.trans h.clamps.2.2⟩
  valve := k.valve.trans h.valve

end StopKept

theorem PathWork.stopKept (h : PathWork s t) : StopKept s t where
  station := h.station
  back := ⟨congrArg (·.returnState) h.wsq, congrArg (·.returnFault) h.wsq⟩
  shoe none_yet := (congrArg (·.shoe) h.pcu).trans none_yet
  clamps := ⟨congrArg (·.clampValve) h.pcu, congrArg (·.clampTimer) h.pcu, congrArg (·.stopped) h.pcu⟩
  valve := congrArg (·.valve) h.tru

theorem platenHold_kept (s : State) : StopKept s (platenHold s) where
  shoe := id
  clamps := ⟨rfl, rfl, rfl⟩

/-- E_STOP's abort path in a held station ends no weld (R118, R122). -/
theorem beginPath_eStop_kept (held : s.motionHeld = true) (p : WeldPhase) : StopKept s (beginPath .eStop p s) := by
  have beforeCurrent (v : State) (still : v.motionHeld = true) : StopKept v (abortBeforeCurrent .eStop v) := by
    rw [abortBeforeCurrent, if_neg (by decide), if_pos still]
    exact ⟨rfl, ⟨rfl, rfl⟩, id, ⟨rfl, rfl, rfl⟩, rfl⟩
  cases p with
  | check => exact ⟨rfl, ⟨rfl, rfl⟩, fun _ => rfl, ⟨rfl, rfl, rfl⟩, rfl⟩
  | touch => exact (platenHold_kept s).trans (beforeCurrent _ held)
  | claimWait => exact (yieldOwn_path s).stopKept.trans (beforeCurrent _ ((yieldOwn_path s).motionHeld.trans held))
  | preheat | flash | boost => exact (platenHold_kept s).trans (abortFlash_path s).stopKept
  | upset =>
    obtain ⟨v, path, e⟩ := abortUpset_path s
    show StopKept s (abortUpset s)
    rw [e]
    exact path.stopKept.trans ⟨rfl, ⟨rfl, rfl⟩, id, ⟨rfl, rfl, rfl⟩, rfl⟩
  | trim =>
    show StopKept s (abortTrim s)
    rw [abortTrim, held, Bool.or_true, if_pos rfl]
    exact .refl s
  | hold | cool | closing => exact .refl s

theorem reportFault_eStop_kept (held : s.motionHeld = true) : StopKept s (reportFault .eStop s) := by
  obtain ⟨w, x, e⟩ := fileFault_eq .eStop s
  have filed : StopKept s (fileFault .eStop s) := by rw [e]; exact ⟨rfl, ⟨rfl, rfl⟩, id, ⟨rfl, rfl, rfl⟩, rfl⟩
  have still : (fileFault .eStop s).motionHeld = true := by rw [e]; exact held
  unfold reportFault tryAbort
  dsimp only
  split
  · split
    · exact filed
    · split
      · next p _ _ =>
        have starts : StopKept (fileFault .eStop s) (stopWork { fileFault .eStop s with wsq.abort := some ⟨.eStop, p, .runOn⟩ }) := by
          rw [stopWork_eq]; exact ⟨rfl, ⟨rfl, rfl⟩, id, ⟨rfl, rfl, rfl⟩, rfl⟩
        refine (filed.trans starts).trans (beginPath_eStop_kept ?_ p)
        rw [stopWork_eq]
        exact still
      · exact filed
  · exact filed

theorem stopOrders_kept (left : StationState) (held : left = .welding ∨ left = .faultHold → s.motionHeld = true) :
    StopKept s (stopOrders left s) := by
  have weld (still : s.motionHeld = true) : StopKept s (stopWeld s) := by
    unfold stopWeld
    split
    · exact reportFault_eStop_kept still
    · exact .refl s
  have ends : StopKept s (endOrder .failed (.fault .eStop) none { s with wsq.clampFail := none }) := {}
  cases left with
  | clamping | unclamping => exact ends
  | welding => exact weld (held (.inl rfl))
  | faultHold => exact weld (held (.inr rfl))
  | _ => exact .refl s

theorem endPause_kept (s : State) : StopKept s (endPause s) := by
  unfold endPause resumeForced
  split
  · exact StopKept.trans (t := { s with
        stl.pause := if recovered s s.stl.volts then .normal else .sag
        stl.deglitched := !recovered s s.stl.volts
        stl.pauseTimer := none
        stl.lostReported := false }) {} (flashResume_path _).stopKept
  · exact .refl s

/-! ### A weld at ACTIVE (R118, R119, R135) -/

/-- What E_STOP makes of a weld in progress in a held station. -/
theorem reportFault_eStop_weld {p : WeldPhase} (held : s.motionHeld = true) (phase : s.wsq.phase = some p) (before : p ≠ .closing)
    (going : s.wsq.abort = none) (ending : s.wsq.ending = none) (blocked : s.cdr.drive = .blocked) :
    let t := reportFault .eStop s
    t.abortOf = some (.eStop, p) ∧ t.wsq.phase = some p ∧
      (p ∈ [WeldPhase.check, .touch, .claimWait] → t.wsq.ending = some ⟨.fault .eStop, false, false⟩) ∧
      (p ∈ [WeldPhase.check, .touch, .claimWait] → s.wrs.working = none → t.wsq.lastFault = .fault .eStop) ∧
      (p ∈ [WeldPhase.claimWait, .preheat, .flash, .boost] → t.sht.claims = removeClaim s.node s.sht.claims) := by
  have starts := reportFault_starts (code := .eStop) rfl phase before going (by simp [endingBegun, ending])
  have head : ∃ a, a = (fileFault .eStop s).abortStarts .eStop p ∧ a.abortOf = some (.eStop, p) ∧ a.wsq.phase = some p ∧
      a.motionHeld = true ∧ a.cdr = s.cdr ∧ a.sht = s.sht ∧ a.node = s.node ∧
      (s.wrs.working = none → a.wsq.lastFault = .fault .eStop) := by
    obtain ⟨w, x, e⟩ := fileFault_eq .eStop s
    refine ⟨_, rfl, ?_, ?_, ?_, ?_, ?_, ?_, fun unopened => ?_⟩
    · rw [State.abortStarts, stopWork_eq]; rfl
    · rw [e, State.abortStarts, stopWork_eq]; exact phase
    · rw [e, State.abortStarts, stopWork_eq]; exact held
    · rw [e, State.abortStarts, stopWork_eq]
    · rw [e, State.abortStarts, stopWork_eq]
    · rw [e, State.abortStarts, stopWork_eq]
    · rw [fileFault_unrecorded unopened, State.abortStarts, stopWork_eq]
  obtain ⟨a, form, cause, phase', held', cdr, sht, node, last⟩ := head
  rw [← form] at starts
  intro t
  have begins : t = beginPath .eStop p a := starts
  rw [begins]
  have waits (v : State) (still : v.motionHeld = true) :
      abortBeforeCurrent .eStop v = { v with wsq.ending := some ⟨.fault .eStop, false, false⟩ } := by
    rw [abortBeforeCurrent, if_neg (by decide), if_pos still]
    rfl
  have flash : p = .preheat ∨ p = .flash ∨ p = .boost → beginPath .eStop p a = beginRetract (yieldOwn (platenHold a)) := by
    intro flashes
    rw [beginPath_flashPhase flashes, abortFlash]
    exact if_neg (by simp [cdr, blocked])
  have flashed : p = .preheat ∨ p = .flash ∨ p = .boost →
      (beginPath .eStop p a).abortOf = some (.eStop, p) ∧ (beginPath .eStop p a).wsq.phase = some p ∧
        (beginPath .eStop p a).sht.claims = removeClaim s.node s.sht.claims := by
    intro flashes
    have path := (yieldOwn_path (platenHold a)).trans (beginRetract_path _)
    obtain ⟨wsq, -⟩ := path.unclosed (.inr held')
    have claims := (yieldOwn_claims (platenHold a))
    rw [flash flashes]
    refine ⟨path.cause.trans cause, ?_, ?_⟩
    · rw [wsq]; exact phase'
    · rw [← node, ← sht]
      simpa using claims
  cases p with
  | check => exact ⟨cause, phase', fun _ => rfl, fun _ => last, by simp⟩
  | touch =>
    rw [show beginPath .eStop .touch a = abortBeforeCurrent .eStop (platenHold a) from rfl, waits (platenHold a) held']
    exact ⟨cause, phase', fun _ => rfl, fun _ => last, by simp⟩
  | claimWait =>
    have only := yieldOwn_only (s := a) (by simp [awaitsDriveOff, phase'])
    have claims := yieldOwn_claims a
    rw [show beginPath .eStop .claimWait a = abortBeforeCurrent .eStop (yieldOwn a) from rfl,
      waits _ ((yieldOwn_path a).motionHeld.trans held')]
    refine ⟨(yieldOwn_path a).cause.trans cause, ?_, fun _ => rfl, fun _ unopened => ?_, fun _ => ?_⟩
    · exact (congrArg (·.phase) only.wsq).trans phase'
    · exact (congrArg (·.lastFault) only.wsq).trans (last unopened)
    · rw [← node, ← sht]; exact claims
  | preheat =>
    obtain ⟨cause', phase'', claims⟩ := flashed (.inl rfl)
    exact ⟨cause', phase'', by simp, by simp, fun _ => claims⟩
  | flash =>
    obtain ⟨cause', phase'', claims⟩ := flashed (.inr (.inl rfl))
    exact ⟨cause', phase'', by simp, by simp, fun _ => claims⟩
  | boost =>
    obtain ⟨cause', phase'', claims⟩ := flashed (.inr (.inr rfl))
    exact ⟨cause', phase'', by simp, by simp, fun _ => claims⟩
  | upset =>
    have only := endUpsetCurrent_only (s := a) (awaitsDriveOff_upset phase')
    have aborts : beginPath .eStop .upset a =
        { endUpsetCurrent a with wsq.upsetTimer := if a.motionHeld then none else some a.sched.upsetTimeMs } := rfl
    have path := endUpsetCurrent_path a
    rw [aborts]
    generalize endUpsetCurrent a = v at only path
    exact ⟨path.cause.trans cause, (congrArg (·.phase) only.wsq).trans phase', by simp, by simp, by simp⟩
  | trim =>
    have still : beginPath .eStop .trim a = a := by
      show abortTrim a = a
      rw [abortTrim, held', Bool.or_true, if_pos rfl]
    rw [still]
    exact ⟨cause, phase', by simp, by simp, by simp⟩
  | hold | cool => exact ⟨cause, phase', by simp, by simp, by simp⟩
  | closing => exact absurd rfl before

end

/-! ### The events of the stop input (O59) -/

section
variable {s : State}

theorem enterActive_blocked (returnSwitch : Bool) (s : State) :
    let v := immediateOff (endPause (s.activeHead returnSwitch))
    v.cdr.isOff ∧ (s.cdr.drive = .running → cycleAdded s.cdr v.cdr s.cdr.sums) := by
  have cdr : (endPause (s.activeHead returnSwitch)).cdr = s.cdr := by simp [State.activeHead]
  refine ⟨driveOff_isOff _, fun runs => ?_⟩
  have added := driveOff_added (s := endPause (s.activeHead returnSwitch)) (by rw [cdr]; exact runs)
  rwa [cdr] at added

/-- With motion held and no abort path, the drive goes off at ACTIVE without a change to the weld or to the frames. -/
theorem activeHead_off (returnSwitch : Bool) (going : s.wsq.abort = none) (stopped : ¬s.wsq.station.beforeIdle) :
    ∃ c x, immediateOff (endPause (s.activeHead returnSwitch)) = { s.activeHead returnSwitch with cdr := c, stl := x } ∧
      c.drive = .blocked ∧ x.stop = .active := by
  obtain ⟨wsq, -, -, -, late, stop, -⟩ := activeHead_written returnSwitch s
  have held : (s.activeHead returnSwitch).motionHeld = true := by simp [State.motionHeld, late stopped]
  have abort : (s.activeHead returnSwitch).wsq.abort = none := by rw [wsq, going]; rfl
  obtain ⟨x, paused, stop'⟩ := endPause_held _ held
  obtain ⟨c, y, off, blocked, stop''⟩ := immediateOff_held { s.activeHead returnSwitch with stl := x } abort held
  exact ⟨c, y, by rw [paused, off], blocked, stop''.trans (stop'.trans stop)⟩

theorem outgoing_stopNotice (loaded : s.wsq.station ≠ .loading) :
    outgoing (stopNotice s) =
      outgoing s ++ [⟨.notice, 15, stopBody s.stl.stop s.wsq.station s.wsq.phase s.aborting, .notice⟩] := by
  rw [stopNotice, if_neg loaded, outgoing_sendOther]

/-- An executing CLAMP or UNCLAMP at ACTIVE: its FAILED notice, then the STOP notice (R7, R111). -/
theorem enterActive_clampOrder (returnSwitch : Bool) {o : QueuedOrder}
    (moves : s.wsq.station = .clamping ∨ s.wsq.station = .unclamping) (going : s.wsq.abort = none)
    (runs : executing s = some o) :
    outgoing (enterActive returnSwitch s) =
      outgoing s ++
        [⟨.notice, o.src, doneBody o.tag o.kind.code .failed (.fault .eStop) none, .doneNotice⟩,
          ⟨.notice, 15, stopBody .active .stopped s.wsq.phase s.aborting, .notice⟩] := by
  have stopped : ¬s.wsq.station.beforeIdle := by rcases moves with e | e <;> simp [StationState.beforeIdle, e]
  obtain ⟨c, x, off, -, stop⟩ := activeHead_off returnSwitch going stopped
  obtain ⟨wsq, -, -, -, late, -⟩ := activeHead_written returnSwitch s
  have orq : (s.activeHead returnSwitch).orq = s.orq := by simp [State.activeHead]
  have lkc : (s.activeHead returnSwitch).lkc = s.lkc := by simp [State.activeHead]
  have orders (v : State) : stopOrders s.wsq.station v = endOrder .failed (.fault .eStop) none { v with wsq.clampFail := none } := by
    rcases moves with e | e <;> rw [e] <;> rfl
  have station := late stopped
  rw [enterActive_eq, off, orders]
  generalize s.activeHead returnSwitch = h at wsq orq lkc station
  have sent := outgoing_endOrder .failed (.fault .eStop) none { h with cdr := c, stl := x, wsq.clampFail := none } o
    (by rw [← runs]; simp only [executing, orq])
  have before : outgoing { h with cdr := c, stl := x, wsq.clampFail := none } = outgoing s := by
    simp only [outgoing, lkc]
  have phase : h.wsq.phase = s.wsq.phase := by rw [wsq]
  have aborting : h.wsq.abort = s.wsq.abort := by rw [wsq, going]; rfl
  rw [outgoing_stopNotice (by simp [station]), sent, before]
  simp [doneNotice, stop, station, phase, State.aborting, aborting]

/-- What ACTIVE makes of a weld in progress (R118, R119). -/
theorem enterActive_weld (returnSwitch : Bool) {p : WeldPhase} (welds : s.wsq.station = .welding) (phase : s.wsq.phase = some p)
    (before : p ≠ .closing) (going : s.wsq.abort = none) (ending : s.wsq.ending = none) :
    let t := enterActive returnSwitch s
    t.wsq.abort.map (fun a => (a.cause, a.phase)) = some (.eStop, p) ∧ t.wsq.phase = some p ∧
      (p ∈ [WeldPhase.check, .touch, .claimWait] → t.wsq.ending = some ⟨.fault .eStop, false, false⟩) ∧
      (p ∈ [WeldPhase.check, .touch, .claimWait] → s.wrs.working = none → t.wsq.lastFault = .fault .eStop) ∧
      (p ∈ [WeldPhase.claimWait, .preheat, .flash, .boost] →
        t.sht.claims = s.sht.claims.filter (·.station ≠ s.node)) := by
  have stopped : ¬s.wsq.station.beforeIdle := by simp [StationState.beforeIdle, welds]
  obtain ⟨c, x, off, blocked, -⟩ := activeHead_off returnSwitch going stopped
  obtain ⟨wsq, -, -, -, late, -⟩ := activeHead_written returnSwitch s
  have sht : (s.activeHead returnSwitch).sht = s.sht := by simp [State.activeHead]
  have wrs : (s.activeHead returnSwitch).wrs = s.wrs := by simp [State.activeHead]
  have node : (s.activeHead returnSwitch).node = s.node := by simp [State.activeHead]
  have station := late stopped
  rw [enterActive_eq, off, welds]
  generalize s.activeHead returnSwitch = h at wsq sht wrs node station
  have phase' : h.wsq.phase = some p := by rw [wsq]; exact phase
  have reports : stopOrders .welding { h with cdr := c, stl := x } = reportFault .eStop { h with cdr := c, stl := x } :=
    if_pos (by simp [State.welding, phase', before])
  obtain ⟨cause, kept, ends, last, claims⟩ := reportFault_eStop_weld (s := { h with cdr := c, stl := x }) (p := p)
    (by simp [State.motionHeld, station]) phase' before (by rw [wsq, going]; rfl) (by rw [wsq, ending]; rfl) blocked
  dsimp only
  rw [reports, stopNotice_frame _ |>.2.2.2.2.2.2.1, stopNotice_frame _ |>.2.2.2.2.2.2.2.2.2.2.2.2.1]
  refine ⟨cause, kept, ends, fun early unopened => last early (wrs ▸ unopened), fun late' => ?_⟩
  rw [claims late', removeClaim_eq_filter]
  show h.sht.claims.filter _ = _
  rw [sht]
  simp [node]

/-- The head at ACTIVE, once the drive is off and the orders have ended. -/
theorem enterActive_kept (returnSwitch : Bool) (s : State) :
    StopKept (s.activeHead returnSwitch)
      (stopOrders s.wsq.station (immediateOff (endPause (s.activeHead returnSwitch)))) := by
  obtain ⟨-, -, -, -, late, -⟩ := activeHead_written returnSwitch s
  have off := (endPause_kept (s.activeHead returnSwitch)).trans (immediateOff_path _).stopKept
  refine off.trans (stopOrders_kept _ fun left => ?_)
  have stops := late (by rcases left with e | e <;> simp [StationState.beforeIdle, e])
  simp [State.motionHeld, off.station, stops]

/-- The STOP notice is the last frame handed over (R111). -/
theorem enterActive_notice (returnSwitch : Bool) (loaded : s.wsq.station ≠ .loading) :
    let t := enterActive returnSwitch s
    TxFrame.mk .notice 15 (stopBody .active t.wsq.station t.wsq.phase t.aborting) .notice ∈ outgoing t := by
  obtain ⟨-, -, -, early, late, stop, -⟩ := activeHead_written returnSwitch s
  have kept := enterActive_kept returnSwitch s
  have stl : (stopOrders s.wsq.station (immediateOff (endPause (s.activeHead returnSwitch)))).stl.stop = .active := by
    simpa using stop
  have station : (s.activeHead returnSwitch).wsq.station ≠ .loading := by
    by_cases first : s.wsq.station.beforeIdle
    · rwa [early first]
    · rw [late first]; decide
  have station' : (stopOrders s.wsq.station (immediateOff (endPause (s.activeHead returnSwitch)))).wsq.station ≠ .loading := by
    rwa [kept.station]
  dsimp only
  rw [enterActive_eq, outgoing_stopNotice station', stl]
  simp [State.aborting]

end

/-- The outputs, the drive and the station at ACTIVE (R7, R35, R55, R103, R108). -/
theorem enterActive_written (returnSwitch : Bool) (s : State) :
    let t := enterActive returnSwitch s
    t.stl.input = s.stl.input ∧ t.stl.stop = .active ∧ t.stl.debounce = none ∧ t.paused = false ∧ t.pcu.mode = .hold ∧
      t.pcu.clampValve = .hold ∧ t.tru.valve = .hold ∧ t.cdr.drive = .blocked ∧ t.pcu.shoe = none ∧
      t.pcu.clamp = s.pcu.clamp ∧ t.node = s.node ∧
      t.settings = s.settings ∧ t.now = s.now ∧ t.pending = s.pending ∧
      (s.configured = true → s.wsq.station ≠ .listening →
        t.wsq.station = .stopped ∧ (s.wsq.station = .faultHold → t.wsq.returnFault = true)) ∧
      (s.wsq.station ∈ [StationState.idle, .recover, .dormant, .waking, .clamped, .clamping, .unclamping] →
        t.wsq.returnState = some s.wsq.station) ∧
      (s.pcu.clamp = some .closing ∨ s.pcu.clamp = some .opening → t.pcu.stopped = true ∧ t.pcu.clampTimer = none) ∧
      (s.cdr.drive = .running → cycleAdded s.cdr t.cdr s.cdr.sums) := by
  obtain ⟨-, fault, back, -, late, stop, debounce, input, -, -, -, valve, shoe, clamp, trim, moving⟩ :=
    activeHead_written returnSwitch s
  have kept := enterActive_kept returnSwitch s
  obtain ⟨off, added⟩ := enterActive_blocked returnSwitch s
  have drive := (stopOrders_drive s.wsq.station (immediateOff (endPause (s.activeHead returnSwitch)))).cdr
  have stl : (enterActive returnSwitch s).stl.input = s.stl.input ∧ (enterActive returnSwitch s).stl.stop = .active ∧
      (enterActive returnSwitch s).stl.debounce = none := by
    rw [enterActive_stl]
    split <;> exact ⟨input, stop, debounce⟩
  obtain ⟨input', stop', debounce'⟩ := stl
  have clamp' : (enterActive returnSwitch s).pcu.clamp = s.pcu.clamp := by simp
  have base : sameBase s (enterActive returnSwitch s) := by simp [sameBase]
  obtain ⟨-, node, settings, now, pending⟩ := base
  have head : (enterActive returnSwitch s).pcu =
        (stopOrders s.wsq.station (immediateOff (endPause (s.activeHead returnSwitch)))).pcu ∧
      (enterActive returnSwitch s).tru =
        (stopOrders s.wsq.station (immediateOff (endPause (s.activeHead returnSwitch)))).tru ∧
      (enterActive returnSwitch s).wsq =
        (stopOrders s.wsq.station (immediateOff (endPause (s.activeHead returnSwitch)))).wsq ∧
      (enterActive returnSwitch s).cdr =
        (stopOrders s.wsq.station (immediateOff (endPause (s.activeHead returnSwitch)))).cdr := by
    rw [enterActive_eq]
    exact ⟨by simp, by simp, by simp, by simp⟩
  obtain ⟨pcu, tru, wsq, cdr⟩ := head
  refine ⟨input', stop', debounce', enterActive_unpaused returnSwitch s, enterActive_platen returnSwitch s, ?_, ?_, ?_, ?_,
    clamp', node, settings, now, pending, fun configured heard => ?_, fun returns => ?_, fun moves => ?_, fun runs => ?_⟩
  · rw [pcu, kept.clamps.1, valve]
  · rw [tru, kept.valve, trim]
  · rw [cdr]
    exact (drive.off off).1
  · rw [pcu]
    exact kept.shoe shoe
  · have first : ¬s.wsq.station.beforeIdle := by
      simp only [State.configured, Bool.and_eq_true, bne_iff_ne] at configured
      rintro (loading | unconfigured | listening)
      · exact configured.1 loading
      · exact configured.2 unconfigured
      · exact heard listening
    rw [wsq, kept.station, kept.back.2]
    exact ⟨late first, fault⟩
  · rw [wsq, kept.back.1]
    exact back returns
  · obtain ⟨stopped, timer⟩ := moving moves
    rw [pcu, kept.clamps.2.1, kept.clamps.2.2]
    exact ⟨stopped, timer⟩
  · rw [cdr]
    obtain ⟨same, -⟩ := drive.stopped (by rw [off.1]; decide)
    exact cycleAdded_kept (added runs) same

/-- Settles O59. -/
theorem emergencyStop : Obligations.EmergencyStop := by
  intro back s
  refine ⟨fun awake released => ?_, fun awake active => ⟨?_, ?_⟩, fun held => ?_, fun quiet => ?_, fun awake active over' => ?_⟩
  · refine ⟨_, eStopAsserted_enters back awake released, ?_⟩
    obtain ⟨input, stop, debounce, unpaused, mode, valve, trim, drive, shoe, clamp, node, settings, now, pending, station, returns,
      moving, added⟩ := enterActive_written back { s with stl.input := true }
    exact ⟨input, stop, debounce, unpaused, mode, valve, trim, drive, shoe, clamp, node, settings, now, pending, station,
      fun left _ => returns left, moving,
      fun o moves going runs => enterActive_clampOrder (s := { s with stl.input := true }) back moves going runs,
      fun p welds phase before going ending =>
        enterActive_weld (s := { s with stl.input := true }) back welds phase before going ending,
      added, enterActive_notice (s := { s with stl.input := true }) back⟩
  · simp [exec, execEStopAsserted, stopAsserted, setInput, awake, active]
  · simp [exec, execEStopDeasserted, stopDeasserted, setInput, awake, active]
  · simp [exec, execEStopAsserted, stopAsserted, setInput, held]
  · have undebounced : (!s.inReset && s.stl.stop == .active) = false := by
      rcases quiet with held | other
      · simp [held]
      · simp [other]
    simp [exec, execEStopDeasserted, stopDeasserted, setInput, undebounced]
  · have run : exec .releaseDebounceExpiry s = .next (releaseEnds s) := exec_taken rfl awake (by simp [active, over'])
    by_cases loading : s.wsq.station = .loading
    · have still : releaseEnds s = { s with stl.stop := .held, stl.debounce := none } := if_pos loading
      refine completes_of run still ⟨rfl, ?_, ⟨rfl, rfl, rfl, rfl, rfl⟩, rfl, ⟨rfl, rfl, rfl, rfl⟩, rfl, rfl, rfl, rfl⟩
      rw [if_pos loading, List.append_nil]
      rfl
    · have sends : releaseEnds s =
          sendOther ⟨.notice, 15, stopBody .held s.wsq.station s.wsq.phase s.aborting, .notice⟩
            { s with stl.stop := .held, stl.debounce := none } := if_neg loading
      obtain ⟨w, e⟩ := sendOther_eq ⟨.notice, 15, stopBody .held s.wsq.station s.wsq.phase s.aborting, .notice⟩
        { s with stl.stop := .held, stl.debounce := none }
      have joined := outgoing_sendOther ⟨.notice, 15, stopBody .held s.wsq.station s.wsq.phase s.aborting, .notice⟩
        { s with stl.stop := .held, stl.debounce := none }
      refine completes_of run sends ?_
      rw [if_neg loading]
      refine ⟨?_, joined, ?_⟩
      · rw [e]
        split <;> rfl
      · rw [e]
        split <;> exact ⟨⟨rfl, rfl, rfl, rfl, rfl⟩, rfl, ⟨rfl, rfl, rfl, rfl⟩, rfl, rfl, rfl, rfl⟩

end Sys2Proof.Machine

/-! The ends of platen movements and of the forge (O49). -/

namespace Sys2Proof.Machine

/-! ### What a movement's end leaves -/

/-- A movement has ended: no movement is timed, and blocks other than the weld's own stand as they were. -/
structure MoveEnded (s t : State) : Prop where
  base : sameBase s t := by simp [sameBase]
  timer : t.pcu.moveTimer = none
  cdr : t.cdr = s.cdr := by simp
  tru : t.tru = s.tru := by simp
  stl : t.stl = s.stl := by simp
  sht : t.sht = s.sht := by simp

theorem endWeld_ending (outcome : OrderOutcome) (reason : Reason) (weldNo : Option Nat) (s : State) :
    (endWeld outcome reason weldNo s).wsq.ending = none := by
  have left : (leaveWeld s).wsq.ending = none := by
    unfold leaveWeld
    dsimp only
    split
    · rfl
    · obtain ⟨d, e⟩ := setStation_wsq_eq .clamped (neutralSets (pcuWeldEnd (wsqWeldEnd s)))
      rw [e]; rfl
  simp [endWeld, left]

theorem endWeld_wrs (outcome : OrderOutcome) (reason : Reason) (weldNo : Option Nat) (s : State) :
    (endWeld outcome reason weldNo s).wrs = s.wrs := by simp [endWeld]

section
variable {s : State}

/-! ### The report of a movement's end (R26, R77, R82, R91, R119) -/

theorem movementDone_moving {e : Ending} (ending : s.wsq.ending = some e) (moving : e.moving = true) :
    movementDone s = endWeld .notStarted e.reason none s := by
  simp only [movementDone, ending, moving, if_true]

theorem movementDone_unmoving {e : Ending} (ending : s.wsq.ending = some e) (still : e.moving = false) :
    movementDone s = s := by
  simp only [movementDone, ending, still]
  rfl

theorem movementDone_aborted {a : Abort} (unended : s.wsq.ending = none) (aborts : s.wsq.abort = some a) :
    movementDone s = enterClosing (setStep .runOn s) ∨ movementDone s = s ∧ ∀ x, a.step ≠ .retracting x := by
  simp only [movementDone, unended, aborts]
  cases a.step with
  | retracting x => exact .inl rfl
  | runOn => exact .inr ⟨rfl, nofun⟩
  | driveIdle => exact .inr ⟨rfl, nofun⟩
  | retractWait => exact .inr ⟨rfl, nofun⟩
  | retractStopped _ => exact .inr ⟨rfl, nofun⟩

theorem movementDone_part (unended : s.wsq.ending = none) (going : s.wsq.abort = none) (parts : s.flash.step = some .part) :
    movementDone s = { s with flash.step := some .open, wsq.openTimer := some s.sched.preOpenMs } := by
  simp only [movementDone, unended, going, parts, if_true]

theorem movementDone_steps (unended : s.wsq.ending = none) (going : s.wsq.abort = none) (parts : s.flash.step ≠ some .part) :
    movementDone s = if s.flash.feed = some .stepping then feed s else s := by
  simp only [movementDone, unended, going, parts, if_false]

/-- Every report of a movement's end leaves the platen untimed, and the other blocks alone. -/
theorem movementEnds_ended (s : State) : MoveEnded s (movementEnds s) := by
  have held : MoveEnded s (platenHold s) := { timer := rfl }
  cases ending : s.wsq.ending with
  | some e =>
    cases moving : e.moving with
    | true =>
      rw [movementEnds, movementDone_moving (by simpa using ending) moving]
      exact { timer := (endWeld_platen _ _ _ _).2 }
    | false =>
      rw [movementEnds, movementDone_unmoving (by simpa using ending) moving]
      exact held
  | none =>
    cases aborts : s.wsq.abort with
    | some a =>
      obtain closes | ⟨stays, -⟩ := movementDone_aborted (s := platenHold s) (by simpa using ending) (by simpa using aborts)
      · rw [movementEnds, closes]
        exact { timer := by simp [setStep, platenHold], tru := by simp [setStep], base := by simp [sameBase, setStep],
                cdr := by simp [setStep], stl := by simp [setStep], sht := by simp [setStep] }
      · rw [movementEnds, stays]
        exact held
    | none =>
      by_cases parts : s.flash.step = some .part
      · rw [movementEnds, movementDone_part (by simpa using ending) (by simpa using aborts) (by simpa using parts)]
        exact { timer := rfl, base := ⟨rfl, rfl, rfl, rfl, rfl⟩ }
      · rw [movementEnds, movementDone_steps (by simpa using ending) (by simpa using aborts) (by simpa using parts)]
        split
        · exact { timer := rfl, base := ⟨rfl, rfl, rfl, rfl, rfl⟩ }
        · exact held

/-- A retract of the abort path ends in CLOSING, whose record is written (R106, R119). -/
theorem movementEnds_retracted {a : Abort} {target : Int} {w : WorkingRecord} (unended : s.wsq.ending = none)
    (aborts : s.wsq.abort = some a) (retracts : a.step = .retracting target) (opened : s.wrs.working = some w) :
    let t := movementEnds s
    t.wsq.phase = some .closing ∧ t.wrs.writing.isSome = true ∧ t.wrs.writeTimer = some 50 ∧ t.pcu.mode = .hold := by
  obtain closes | ⟨-, other⟩ := movementDone_aborted (s := platenHold s) (by simpa using unended) (by simpa using aborts)
  · simp only [movementEnds, closes]
    rw [enterClosing_opened (w := w) (by simpa [setStep] using opened), enterPhase_eq]
    exact ⟨rfl, rfl, rfl, platenHold_mode s⟩
  · exact absurd retracts (other target)

/-- The feed is taken up at the speed of R80 and R87. -/
theorem movementEnds_feeds (unended : s.wsq.ending = none) (going : s.wsq.abort = none) (parts : s.flash.step ≠ some .part)
    (steps : s.flash.feed = some .stepping) (runs : s.stl.stop = .run) :
    let t := movementEnds s
    t.flash = { s.flash with feed := some .feeding } ∧ t.wsq = s.wsq ∧ t.pcu.mode = .speed (feedSpeed s) ∧ t.wrs = s.wrs ∧
      t.lkc = s.lkc := by
  intro t
  have feeds : t = feed (platenHold s) :=
    (movementDone_steps (by simpa using unended) (by simpa using going) (by simpa using parts)).trans (if_pos (by simpa using steps))
  rw [feeds]
  exact ⟨rfl, rfl, if_pos runs, rfl, rfl⟩

end

/-! ### Force reached (R41, R96) -/

section
variable {s : State} {total limit : Int}

theorem forceReached_taken (awake : s.inReset = false) (forces : s.pcu.mode = .force total limit)
    (fresh : s.pcu.forceReported = false) (stands : 98 * total ≤ 100 * s.pcu.force) (full : s.pcu.posHistory.length = 20)
    (still : ∀ x ∈ s.pcu.posHistory, ∀ y ∈ s.pcu.posHistory, x - y ≤ 1) :
    exec .forceReached s = .next (forceReport s) := by
  have stopped : platenStopped s = true := by simpa [platenStopped, full] using still
  exact exec_taken rfl awake (by simp [fresh, forceStands, forces, stands, stopped])

end

/-- Settles O49. -/
theorem platenMovesEnd : Obligations.PlatenMovesEnd := by
  intro s awake limit plain fed
  refine ⟨fun c x moves ends => ?_, fun total force forces fresh stands full still => ?_⟩
  · have run : exec c s = .next (movementEnds s) := by
      have moving : platenMoving s = true := by
        rcases moves with h | h <;> simp [platenMoving, h, PlatenMode.target]
      rcases ends with ⟨rfl, near⟩ | ⟨rfl, over'⟩
      · exact exec_taken rfl awake (by simp [moving, near])
      · exact exec_taken rfl awake (by simp [moving, over'])
    have kept := movementEnds_ended s
    refine ⟨_, run, kept.base, kept.timer, kept.cdr, kept.tru, kept.stl, kept.sht, fun e ending moving => ?_,
      fun a target w unended aborts retracts opened => movementEnds_retracted unended aborts retracts opened,
      fun unended going parts => ?_, fun unended going parts steps runs => ?_⟩
    · rw [movementEnds, movementDone_moving (by simpa using ending) moving]
      refine ⟨(endWeld_sets _ _ _ _).1, endWeld_ending _ _ _ _, ?_, by simp [endWeld_wrs], fun o runs => ?_⟩
      · rw [endWeld_station]
        simp [State.motionHeld]
      · rw [outgoing_endWeld _ _ _ _ o (by simpa [executing] using runs)]
        simp [outgoing, doneNotice]
    · rw [movementEnds, movementDone_part (by simpa using unended) (by simpa using going) (by simpa using parts)]
      exact ⟨rfl, rfl, platenHold_mode s, rfl, rfl⟩
    · exact movementEnds_feeds unended going parts steps runs
  · have run := forceReached_taken awake forces fresh stands full still
    refine ⟨fun start upsets started => ?_, fun other => ?_⟩
    · have ends : forceReport s = endUpset s.pcu.position s.pcu.highForce { s with pcu.forceReported := true } :=
        if_pos upsets
      obtain ⟨phase, distance, peak, timer, mark, hold, target, faults, window, -, moves, base⟩ :=
        endUpset_written (s := { s with pcu.forceReported := true }) s.pcu.position s.pcu.highForce upsets
      have covered : s.pcu.position - s.wsq.upsetStart.getD s.pcu.position = s.pcu.position - start := by rw [started]; rfl
      refine completes_of run ends ⟨phase, ?_, peak, mark, timer, hold, target, ?_, window,
        fun unbarred runs => moves runs unbarred, base⟩
      · rw [← covered]
        exact distance
      · rw [← covered]
        exact files_of_filesOn faults
    · rw [run]
      exact congrArg _ (if_neg other)

end Sys2Proof.Machine

/-! The millisecond sample, the drift watch and the advance to contact (O51). -/

namespace Sys2Proof.Machine

/-! ### A sample (R31, R39, R80, R81) -/

section
variable {s : State}

/-- The next commanded position: kept in HOLD, within the stroke in every other mode unless contact was there from the start
of a contact move. -/
theorem advanceCommand_eq (s : State) : ∃ x n, advanceCommand s = { s with pcu.commanded := x, free := n } ∧
    (s.pcu.mode = .hold → x = s.pcu.commanded) ∧
    (s.pcu.mode ≠ .hold → s.pcu.contactFromStart = false → 0 ≤ x ∧ x ≤ s.loc.strokeFwd * 1000) := by
  have within (y : Int) : 0 ≤ commandClip s y ∧ commandClip s y ≤ s.loc.strokeFwd * 1000 := by
    unfold commandClip clampInt
    split
    · omega
    · split <;> omega
  unfold advanceCommand
  split
  · next mode => exact ⟨_, _, rfl, fun _ => rfl, fun other => absurd mode other⟩
  · next mode =>
    split
    · next start => exact ⟨_, _, rfl, fun _ => rfl, fun _ away => by rw [start] at away; cases away⟩
    · exact ⟨_, _, rfl, fun hold => (by rw [mode] at hold; cases hold), fun _ _ => within _⟩
  · next mode => exact ⟨_, _, rfl, fun hold => (by rw [mode] at hold; cases hold), fun _ _ => within _⟩
  · next mode => exact ⟨_, _, rfl, fun hold => (by rw [mode] at hold; cases hold), fun _ _ => within _⟩
  · next mode => exact ⟨_, _, rfl, fun hold => (by rw [mode] at hold; cases hold), fun _ _ => within _⟩

/-- While FEEDING a sample sets a new speed; it changes no mode to or from HOLD (R80). -/
theorem setFeed_eq (s : State) : ∃ m, setFeed s = { s with pcu.mode := m } ∧ (m = .hold ↔ s.pcu.mode = .hold) ∧
    (∀ v, s.pcu.mode = .speed v → s.flash.feed = some .feeding → s.wsq.abort = none → m = .speed (feedSpeed s)) := by
  unfold setFeed
  split
  · split
    · next v mode => exact ⟨_, rfl, by simp [mode], fun _ _ _ _ => rfl⟩
    · next other => exact ⟨_, rfl, Iff.rfl, fun v mode => absurd mode (other v)⟩
  · next idle => exact ⟨_, rfl, Iff.rfl, fun v _ feeds going => absurd ⟨feeds, by simp [State.aborting, going]⟩ idle⟩

theorem updateMark_eq (s : State) : updateMark s = { s with flash := (updateMark s).flash } := by
  unfold updateMark
  dsimp only
  (repeat' split) <;> rfl

/-- An implausible sample moves no mark. -/
theorem updateMark_still (idle : (followsMark s && s.pcu.posOk) = false) : updateMark s = s := if_neg (by simp [idle])

/-- The mark does not change what flash control is doing. -/
theorem updateMark_stage (s : State) :
    (updateMark s).flash.feed = s.flash.feed ∧ (updateMark s).flash.openMark = s.flash.openMark := by
  unfold updateMark
  dsimp only
  (repeat' split) <;> exact ⟨rfl, rfl⟩

/-- A plausible sample in FLASH moves the high mark, and with it the burn-off (R81). -/
theorem updateMark_flash {start : Int} (plausible : s.pcu.posOk = true) (going : s.wsq.abort = none)
    (flashes : s.wsq.phase = some .flash) (feeds : s.flash.feed = some .feeding) (started : s.flash.startPos = some start) :
    let mark := max s.pcu.position (s.flash.highMark.getD s.pcu.position)
    (updateMark s).flash.highMark = some mark ∧ (updateMark s).flash.burnOff = some (mark - start) := by
  have follows : (followsMark s && s.pcu.posOk) = true := by
    simp [followsMark, plausible, State.aborting, going, flashes, feeds]
  simp [updateMark, follows, flashes, started]

theorem sampleTaken_compared (f : FieldSample) (compared : s.pcu.wakeSample = false) :
    sampleTaken f s = advanceCommand (setFeed (updateMark (takeSample f s))) := by
  rw [sampleTaken, compareWake, if_neg (by simp [takeSample, compared])]

/-- The first sample after a wake, with the clamps OPEN and no weld in progress: SENSOR_FAULT is filed where it reads closed
(R35). -/
theorem compareWake_first (pressure : Nat) (first : s.pcu.wakeSample = true) (opened : s.pcu.clamp = some .open)
    (unwelding : s.wsq.phase = none) :
    compareWake pressure s = { s with
      pcu.wakeSample := false
      wsq.lastFault := if s.loc.clampRelKn ≤ pressure then .fault .sensorFault else s.wsq.lastFault } := by
  have unheld : holdApplies { s with pcu.wakeSample := false } = false := by simp [holdApplies, State.clampsNotOpen, opened]
  simp only [compareWake, first, if_true]
  by_cases closed : s.loc.clampRelKn ≤ pressure
  · rw [if_pos (by simpa [readsClosed] using closed), if_pos closed, reportHold, if_pos (by rw [unheld]; rfl),
      fileFault_unwelding (by exact unwelding)]
  · rw [if_neg (by simpa [readsClosed] using closed), if_neg closed]

theorem pcuSample_first (f : FieldSample) (awake : s.inReset = false) (powered : s.pcu.powered = true)
    (first : s.pcu.wakeSample = true) (opened : s.pcu.clamp = some .open) (unwelding : s.wsq.phase = none) :
    completes (.pcuSample f) s fun t =>
      t.wsq = { s.wsq with
        lastFault := if s.loc.clampRelKn ≤ f.pressure then .fault .sensorFault else s.wsq.lastFault } ∧
        t.pcu.wakeSample = false ∧ t.pcu.clamp = some .open ∧ t.pcu.position = f.position ∧ t.pcu.force = f.force ∧
        t.pcu.pressure = f.pressure ∧ (s.pcu.posSeen = false → t.pcu.posOk = true) ∧ t.pcu.tripped = s.pcu.tripped ∧
        sameBase s t ∧ t.flash = s.flash ∧ t.cdr = s.cdr ∧ t.tru = s.tru ∧ t.stl = s.stl ∧ t.sht = s.sht ∧
        t.lkc = s.lkc ∧ t.orq = s.orq ∧ t.wrs = s.wrs := by
  have run : exec (.pcuSample f) s = .next (sampleTaken f s) := exec_taken rfl awake powered
  have compared := compareWake_first (s := takeSample f s) f.pressure first opened unwelding
  obtain ⟨c, form⟩ : ∃ c, c = compareWake f.pressure (takeSample f s) := ⟨_, rfl⟩
  have phase : c.wsq.phase = none := by rw [form, compared]; exact unwelding
  have unmarked : updateMark c = c := updateMark_still (by simp [followsMark, phase])
  obtain ⟨m, fed, -⟩ := setFeed_eq c
  obtain ⟨x, n, commanded, -⟩ := advanceCommand_eq { c with pcu.mode := m }
  have ends : sampleTaken f s = { c with pcu.mode := m, pcu.commanded := x, free := n } := by
    rw [sampleTaken, ← form, unmarked, fed, commanded]
  refine completes_of run ends ?_
  rw [compared] at form
  rw [form]
  refine ⟨rfl, rfl, opened, rfl, rfl, rfl, fun unseen => ?_, rfl, ⟨rfl, rfl, rfl, rfl, rfl⟩, rfl, rfl, rfl, rfl, rfl, rfl, rfl, rfl⟩
  simp [takeSample, positionPlausible, unseen]

/-- Any other sample. -/
theorem pcuSample_later (f : FieldSample) (awake : s.inReset = false) (powered : s.pcu.powered = true)
    (compared : s.pcu.wakeSample = false) :
    completes (.pcuSample f) s fun t =>
      t.pcu.position = f.position ∧ t.pcu.force = f.force ∧ t.pcu.pressure = f.pressure ∧ t.pcu.clamp = s.pcu.clamp ∧
        (t.pcu.posOk = false → t.flash = s.flash ∧ t.pcu.plausPosition = s.pcu.plausPosition) ∧
        (∀ start, t.pcu.posOk = true → s.wsq.abort = none → s.wsq.phase = some .flash → s.flash.feed = some .feeding →
          s.flash.startPos = some start →
          t.flash.highMark = some (max f.position (s.flash.highMark.getD f.position)) ∧
            t.flash.burnOff = some (max f.position (s.flash.highMark.getD f.position) - start)) ∧
        (∀ v b, s.pcu.mode = .speed v → s.wsq.abort = none → s.wsq.phase = some .flash → s.flash.feed = some .feeding →
          t.flash.burnOff = some b →
          let plain := profileSpeed s.wsq.active.v0 s.wsq.active.v1 b.toNat s.sched.flashBurnoff
          t.pcu.mode = .speed (if s.flash.openMark then roundDiv (plain * s.sched.openBoostPct) 100 else plain : Nat)) ∧
        (s.pcu.mode ≠ .hold → s.pcu.contactFromStart = false → t.pcu.contactFromStart = false →
          0 ≤ t.pcu.commanded ∧ t.pcu.commanded ≤ s.loc.strokeFwd * 1000) ∧
        (s.pcu.mode = .hold → t.pcu.commanded = s.pcu.commanded) ∧
        sameBase s t ∧ t.wsq = s.wsq ∧ t.cdr = s.cdr ∧ t.tru = s.tru ∧ t.stl = s.stl ∧ t.sht = s.sht ∧ t.lkc = s.lkc ∧
        t.orq = s.orq ∧ t.wrs = s.wrs := by
  have run : exec (.pcuSample f) s = .next (sampleTaken f s) := exec_taken rfl awake powered
  have marked := updateMark_eq (takeSample f s)
  obtain ⟨feed, mark⟩ := updateMark_stage (takeSample f s)
  have still (implausible : (takeSample f s).pcu.posOk = false) : (updateMark (takeSample f s)).flash = s.flash := by
    rw [updateMark_still (by simp [implausible])]
    rfl
  have moved := @updateMark_flash (takeSample f s)
  generalize (updateMark (takeSample f s)).flash = fl at marked feed mark still moved
  obtain ⟨m, fed, held, speed⟩ := setFeed_eq { takeSample f s with flash := fl }
  obtain ⟨x, n, commanded, kept, within⟩ := advanceCommand_eq { takeSample f s with flash := fl, pcu.mode := m }
  have ends : sampleTaken f s = { takeSample f s with flash := fl, pcu.mode := m, pcu.commanded := x, free := n } := by
    rw [sampleTaken_compared f compared, marked, fed, commanded]
  refine completes_of run ends ⟨rfl, rfl, rfl, rfl, fun implausible => ⟨still implausible, if_neg ?_⟩,
    fun start plausible going flashes feeds started => moved plausible going flashes feeds started,
    fun v b mode going flashes feeds burnt => ?_, fun moves _ away => within (fun hold => moves (held.mp hold)) away,
    fun hold => kept (held.mpr hold), ⟨rfl, rfl, rfl, rfl, rfl⟩, rfl, rfl, rfl, rfl, rfl, rfl, rfl, rfl⟩
  · exact Bool.eq_false_iff.mp implausible
  · have plain : plainFeed { takeSample f s with flash := fl } =
        profileSpeed s.wsq.active.v0 s.wsq.active.v1 b.toNat s.sched.flashBurnoff := by
      have flashes' : (takeSample f s).wsq.phase = some .flash := flashes
      have burnt' : fl.burnOff = some b := burnt
      simp only [plainFeed, flashes', burnt']
      rfl
    have fast : feedSpeed { takeSample f s with flash := fl } = _ := rfl
    have mark' : fl.openMark = s.flash.openMark := mark
    refine (speed v mode (feed.trans feeds) going).trans ?_
    rw [feedSpeed, plain]
    simp only [mark']
    rfl

/-! ### The drift watch (R49) -/

theorem pullDrift_files {pull : Int} {w : WorkingRecord} (awake : s.inReset = false) (watched : s.pcu.driftWatch = true)
    (free : s.motionHeld = false) (untripped : s.pcu.tripped = false) (plausible : s.pcu.forceOk = true)
    (known : s.pcu.pullAtHoldEnd = some pull)
    (below : 100 * s.pcu.force < 100 * pull - max (pull * s.loc.pullTolPct) (s.loc.pullMinBand * 100))
    (cools : s.wsq.phase = some .cool) (opened : s.wrs.working = some w) (room : w.record.faults.length < 6) :
    exec .pullDrift s = .next
      { s with
        pcu.driftWatch := false
        wrs.working := some { w with
          quality := true
          record := { w.record with
            faults := w.record.faults ++ [⟨.pullDrift, .quality, .cool, s.now - w.openedAt⟩] } } } := by
  have drifting : drifts s = true := by simp [drifts, watched, free, untripped, plausible, known, belowDrift, halfWidth100, below]
  rw [exec_taken (effect := pullDrifts) rfl awake drifting, pullDrifts, reportFault_mild (by simp [FaultCode.severity]),
    fileFault_open (s := { s with pcu.driftWatch := false }) (p := .cool) cools (by decide) opened]
  simp [fileEntry, opened, faultListSize, room, FaultCode.severity]

/-! ### The advance to contact (R75, R76, R79) -/

/-- What the beginning of a cycle leaves of the request and of the weld's count. -/
theorem beginCycle_request (s : State) :
    (beginCycle s).cdr.carrierHz = s.cdr.carrierHz ∧ (beginCycle s).cdr.overcurrentCount = s.cdr.overcurrentCount := by
  unfold beginCycle startPulse rampStep
  dsimp only
  (repeat' split) <;> exact ⟨rfl, rfl⟩

/-- A request at a BLOCKED drive begins carrier timing, in a fresh weld context where it is the weld's first (R52, R54). -/
theorem requestCurrent_begins {mode : DriveMode} {trip hz : Nat} {fresh : Bool} (blocked : s.cdr.drive = .blocked) :
    let c := (requestCurrent mode trip hz fresh s).cdr
    c.drive = (if s.runConditions then .running else .ready) ∧ c.half = .positive ∧ c.carrierHz = hz ∧
      (fresh = true → c.energy = ⟨0, 0, 0, 0⟩ ∧ c.flux = 0 ∧ c.overcurrentCount = 0) := by
  obtain ⟨d, e, -⟩ := requested_eq (s := s) (mode := mode) (trip := trip) (hz := hz) (fresh := fresh)
  obtain ⟨half, drive, -⟩ := beginCycle_written (s.requested mode trip hz fresh)
  obtain ⟨rate, count⟩ := beginCycle_request (s.requested mode trip hz fresh)
  obtain ⟨c, e', energy, -, -, -, -, flux, -⟩ := beginCycle_eq (s.requested mode trip hz fresh)
  have conditions : (s.requested mode trip hz fresh).runConditions = s.runConditions := by rw [e]; rfl
  rw [requestCurrent_requested, if_pos blocked]
  rw [conditions] at drive
  refine ⟨drive, half, rate, fun first => ?_⟩
  subst first
  rw [count, e']
  exact ⟨energy, flux, rfl⟩

section
variable (runs : s.stl.stop = .run)
  (blocked : s.cdr.drive = .blocked)
include runs blocked

/-- The CONTACT step begins: the preheat current is asked for (R76). -/
theorem advanceDone_contact (steps : s.flash.step = some .advance) :
    ∃ c, advanceDone s =
        { platenHold s with
          flash.step := some .contact, cdr := c, wsq.weldStarted := true, wsq.contactTimer := some s.sched.preContactMs } ∧
      c.mode = .preheatContact ∧ c.drive = (if s.runConditions then .running else .ready) ∧ c.half = .positive ∧
      c.carrierHz = s.sched.carrierHz ∧
      (s.wsq.weldStarted = false → c.energy = ⟨0, 0, 0, 0⟩ ∧ c.flux = 0 ∧ c.overcurrentCount = 0) := by
  obtain ⟨c, e, mode, from'⟩ := driveRequest_eq (s := { platenHold s with flash.step := some .contact })
    (mode := .preheatContact) (trip := s.wsq.active.trip) runs
  obtain ⟨drive, half, rate, fresh⟩ := requestCurrent_begins (s := { platenHold s with flash.step := some .contact })
    (mode := .preheatContact) (trip := s.wsq.active.trip) (hz := s.sched.carrierHz) (fresh := !s.wsq.weldStarted) blocked
  have ends : advanceDone s =
      { driveRequest .preheatContact s.wsq.active.trip { platenHold s with flash.step := some .contact } with
        wsq.contactTimer := some s.sched.preContactMs } := if_pos steps
  rw [e] at ends
  subst from'
  exact ⟨_, ends, mode, drive, half, rate, fun first => fresh (by simp [first])⟩

omit blocked in
/-- The approach ends: the burn-off starts at this position, and the feed with it unless a pause is in force (R79, R90). -/
theorem advanceDone_feeds (elsewhere : s.flash.step ≠ some .advance) (approaches : s.flash.feed = some .approach) :
    ∃ c p, (c.mode = .flash ∧ (s.paused = true → p.mode = .hold) ∧
        (s.paused = false → p.mode.isForce = false ∧ p.mode ≠ .hold)) ∧
      advanceDone s =
        { s with
          pcu := p
          cdr := c
          wsq.weldStarted := true
          flash := { s.flash with
            startPos := some s.pcu.position, highMark := some s.pcu.position, burnOff := some 0
            feed := some (if s.paused then .held else .feeding) } } := by
  obtain ⟨c, e, mode, -⟩ := driveRequest_eq (mode := .flash) (trip := s.wsq.active.trip)
    (s := { platenHold s with
      flash.startPos := some s.pcu.position, flash.highMark := some s.pcu.position, flash.burnOff := some 0 }) runs
  have ends : advanceDone s =
      if s.paused then
        { driveRequest .flash s.wsq.active.trip
            { platenHold s with
              flash.startPos := some s.pcu.position, flash.highMark := some s.pcu.position, flash.burnOff := some 0 } with
          flash.feed := some .held }
      else
        feed (driveRequest .flash s.wsq.active.trip
          { platenHold s with
            flash.startPos := some s.pcu.position, flash.highMark := some s.pcu.position, flash.burnOff := some 0 }) :=
    (if_neg (by exact elsewhere)).trans (if_pos (by exact approaches))
  rw [e] at ends
  have speeds (u : State) (runs : u.stl.stop = .run) : 
      (feed u).pcu.mode.isForce = false ∧ (feed u).pcu.mode ≠ .hold := by
    have mode : (feed u).pcu.mode = .speed (feedSpeed u) := if_pos runs
    rw [mode]
    exact ⟨rfl, nofun⟩
  cases paused : s.paused with
  | true =>
    rw [ends, if_pos paused]
    exact ⟨c, (platenHold s).pcu, ⟨mode, fun _ => platenHold_mode s, nofun⟩, rfl⟩
  | false =>
    rw [ends, if_neg (by rw [paused]; decide)]
    refine ⟨c, _, ⟨mode, nofun, fun _ => ?_⟩, rfl⟩
    exact speeds _ runs

end

/-- No contact in time: NO_CONTACT starts the abort path (R75, R79). -/
theorem advanceTimerExpiry_aborts {p : WeldPhase} (awake : s.inReset = false) (advances : s.pcu.contactMove = .advance)
    (over' : due s.pcu.touchTimer = true) (phase : s.wsq.phase = some p) (current : p = .preheat ∨ p = .flash)
    (going : s.wsq.abort = none) (unended : s.wsq.ending = none) :
    completes .advanceTimerExpiry s fun t =>
      t.wsq.abort.map (fun a => (a.cause, a.phase)) = some (.noContact, p) ∧ t.pcu.contactSense = false ∧
        t.flash.step = none ∧ t.flash.feed = none ∧ sameBase s t ∧ t.sht.peers = s.sht.peers := by
  have run : exec .advanceTimerExpiry s = .next (reportFault .noContact (platenHold s)) :=
    exec_taken (effect := advanceFails) rfl awake (by simp [advancing, advances, over'])
  have flashes : flashPhase p := by rcases current with rfl | rfl <;> simp [flashPhase]
  have begun : endingBegun (platenHold s) = false := by simp [endingBegun, unended]
  have severe : FaultCode.noContact.severity (platenHold s).cdr.overcurrentCount = .abort := rfl
  obtain ⟨-, path⟩ := reportFault_flashPhase severe phase going begun flashes
  obtain ⟨w, x, e⟩ := fileFault_eq .noContact (platenHold s)
  have starts : ((fileFault .noContact (platenHold s)).abortStarts .noContact p).aborting = true := by
    rw [State.abortStarts, stopWork_eq]; rfl
  have flash := path.flash (by simpa [State.aborting] using starts)
  have sense : (reportFault .noContact (platenHold s)).pcu.contactSense = false := path.sense rfl
  have peers : (reportFault .noContact (platenHold s)).sht.peers = s.sht.peers := by
    rw [path.sht, e, State.abortStarts, stopWork_eq]
    rfl
  rw [e, State.abortStarts, stopWork_eq] at flash
  refine ⟨_, run, reportFault_abortOf severe phase going begun (.inl flashes), sense, ?_, ?_,
    (reportFault_drive .noContact (platenHold s)).base, peers⟩
  all_goals rw [flash]; rfl

end

/-- Settles O51. -/
theorem samplesAndAdvance : Obligations.SamplesAndAdvance := by
  intro s awake
  refine ⟨fun f powered first opened unwelding => pcuSample_first f awake powered first opened unwelding,
    fun f powered compared => pcuSample_later f awake powered compared,
    fun pull w watched free untripped plausible known below cools opened room =>
      pullDrift_files awake watched free untripped plausible known below cools opened room,
    fun advances lasts runs blocked => ?_,
    fun p advances over' phase current going unended =>
      advanceTimerExpiry_aborts awake advances over' phase current going unended⟩
  have run : exec .advanceContact s = .next (advanceDone s) :=
    exec_taken rfl awake (by simp [advancing, advances, contactSamples, lasts])
  by_cases steps : s.flash.step = some .advance
  · obtain ⟨c, ends, mode, drive, half, rate, fresh⟩ := advanceDone_contact runs blocked steps
    refine completes_of run ends ⟨fun _ => ⟨rfl, mode, rfl, platenHold_mode s, drive, half, rate, fresh⟩,
      fun elsewhere => absurd steps elsewhere, ⟨rfl, rfl, rfl, rfl, rfl⟩, rfl, rfl, rfl, rfl, rfl, rfl⟩
  by_cases approaches : s.flash.feed = some .approach
  · obtain ⟨c, q, ⟨mode, pauses, feeds⟩, ends⟩ := advanceDone_feeds runs steps approaches
    refine completes_of run ends ⟨fun advance => absurd advance steps,
      fun _ _ => ⟨rfl, rfl, rfl, mode, rfl, fun paused => ?_, fun unpaused => ?_⟩, ⟨rfl, rfl, rfl, rfl, rfl⟩, rfl, rfl, rfl, rfl, rfl, rfl⟩
    · exact ⟨by rw [paused]; rfl, pauses paused⟩
    · exact ⟨by rw [unpaused]; rfl, feeds unpaused⟩
  · have stops : advanceDone s = platenHold s := (if_neg steps).trans (if_neg approaches)
    refine completes_of run stops ⟨fun advance => absurd advance steps, fun _ approach => absurd approach approaches, ?_⟩
    simp [sameBase]

end Sys2Proof.Machine

/-! The electrode contact check, the touch move, and the claim that follows them (O50). -/

namespace Sys2Proof.Machine

/-! ### The ends of the electrode contact check (R25, R43) -/

/-- What a weld's end leaves of the electrode contact check. -/
theorem leaveWeld_shoes (s : State) :
    (leaveWeld s).pcu.shoe = s.pcu.shoe ∧ (leaveWeld s).pcu.resistances = s.pcu.resistances ∧
      (leaveWeld s).pcu.failedShoes = s.pcu.failedShoes := by
  have station (u : State) : (setStation .clamped u).pcu.shoe = u.pcu.shoe ∧
      (setStation .clamped u).pcu.resistances = u.pcu.resistances ∧
      (setStation .clamped u).pcu.failedShoes = u.pcu.failedShoes := by
    unfold setStation makeTopUp startTopUp endTopUp armSlip
    (repeat' split) <;> exact ⟨rfl, rfl, rfl⟩
  unfold leaveWeld
  dsimp only
  split
  · exact ⟨rfl, rfl, rfl⟩
  · exact station _

theorem endWeld_shoes (outcome : OrderOutcome) (reason : Reason) (weldNo : Option Nat) (s : State) :
    (endWeld outcome reason weldNo s).pcu.shoe = s.pcu.shoe ∧
      (endWeld outcome reason weldNo s).pcu.resistances = s.pcu.resistances ∧
      (endWeld outcome reason weldNo s).pcu.failedShoes = s.pcu.failedShoes := by
  simp [endWeld, leaveWeld_shoes]

section
variable {s : State}

theorem enterTouch_eq (runs : s.stl.stop = .run) : ∃ w,
    enterTouch s = { enterPhase .touch s with pcu := w } ∧ w.mode = .speed s.loc.touchSpeed ∧ w.contactMove = .touch ∧
      w.contactSense = true ∧ w.touchTimer = some s.loc.touchTimeoutMs ∧ w.touchStart = s.pcu.position ∧
      w.shoe = s.pcu.shoe ∧ w.resistances = s.pcu.resistances ∧ w.failedShoes = s.pcu.failedShoes := by
  have mode : (enterTouch s).pcu.mode = .speed s.loc.touchSpeed := by
    rw [enterTouch, enterPhase_eq]
    exact if_pos runs
  refine ⟨(enterTouch s).pcu, rfl, mode, rfl, rfl, ?_⟩
  rw [enterTouch, enterPhase_eq]
  exact ⟨rfl, rfl, rfl, rfl, rfl⟩

/-- The state with a shoe's reading taken in. -/
def State.shoeRead (k r : Nat) (s : State) : State :=
  { s with
    pcu.resistances := s.pcu.resistances.set k (some r)
    pcu.failedShoes := s.pcu.failedShoes.set k (decide (s.loc.shoeLimitUohm < r)) }

theorem shoeMeasured_eq {k r : Nat} (measures : s.pcu.shoe = some k) :
    shoeMeasured r s =
      if k < 3 then { s.shoeRead k r with pcu.shoe := some (k + 1), pcu.shoeTimer := some 50 }
      else checkEnds (s.shoeRead k r) := by
  simp only [shoeMeasured, measures]
  rfl

/-- A shoe's measurement ends (R43). -/
theorem shoeMeasurementEnd_compares {k r : Nat} (awake : s.inReset = false) (runs : s.stl.stop = .run)
    (measures : s.pcu.shoe = some k) (over' : due s.pcu.shoeTimer = true) :
    let bad := decide (s.loc.shoeLimitUohm < r)
    completes (.shoeMeasurementEnd r) s fun t =>
      t.pcu.resistances = s.pcu.resistances.set k (some r) ∧ t.pcu.failedShoes = s.pcu.failedShoes.set k bad ∧
        sameBase s t ∧ t.cdr = s.cdr ∧ t.tru = s.tru ∧ t.stl = s.stl ∧ t.sht = s.sht ∧
        (k < 3 → t.pcu.shoe = some (k + 1) ∧ t.pcu.shoeTimer = some 50 ∧ t.wsq = s.wsq ∧ t.lkc = s.lkc) ∧
        (3 ≤ k → (∀ b ∈ s.pcu.failedShoes.set k bad, b = false) →
          t.wsq.phase = some .touch ∧ t.pcu.mode = .speed s.loc.touchSpeed ∧ t.pcu.contactMove = .touch ∧
            t.pcu.contactSense = true ∧ t.pcu.touchTimer = some s.loc.touchTimeoutMs ∧
            t.pcu.touchStart = s.pcu.position ∧ t.pcu.shoe = none) ∧
        (3 ≤ k → (∃ b ∈ s.pcu.failedShoes.set k bad, b = true) →
          t.wsq.phase = none ∧ t.pcu.shoe = none ∧
            ∀ o, executing s = some o →
              outgoing t =
                outgoing s ++
                  [⟨.notice, o.src, doneBody o.tag o.kind.code .notStarted .electrodeContact none, .doneNotice⟩]) := by
  intro bad
  have run : exec (.shoeMeasurementEnd r) s = .next (shoeMeasured r s) := exec_taken rfl awake over'
  refine completes_of run (shoeMeasured_eq measures) ?_
  by_cases more : k < 3
  · rw [if_pos more]
    exact ⟨rfl, rfl, ⟨rfl, rfl, rfl, rfl, rfl⟩, rfl, rfl, rfl, rfl, fun _ => ⟨rfl, rfl, rfl, rfl⟩, fun last => by omega,
      fun last => by omega⟩
  rw [if_neg more]
  by_cases failed : (s.pcu.failedShoes.set k bad).any id = true
  · have ends : checkEnds (s.shoeRead k r) = endWeld .notStarted .electrodeContact none (stopShoes (s.shoeRead k r)) :=
      if_pos failed
    have some_bad : ∃ b ∈ s.pcu.failedShoes.set k bad, b = true := by simpa using failed
    obtain ⟨shoe, resistances, failures⟩ := endWeld_shoes .notStarted .electrodeContact none (stopShoes (s.shoeRead k r))
    obtain ⟨b, member, set⟩ := some_bad
    rw [ends]
    refine ⟨resistances, failures, by simp [sameBase, State.shoeRead], by simp [State.shoeRead], by simp [State.shoeRead],
      by simp [State.shoeRead], by simp [State.shoeRead], fun few => absurd few more,
      fun _ good => absurd (good b member) (by simp [set]), fun _ _ => ⟨(endWeld_sets _ _ _ _).1, shoe, fun o runs => ?_⟩⟩
    exact outgoing_endWeld _ _ _ (stopShoes (s.shoeRead k r)) o runs
  · have ends : checkEnds (s.shoeRead k r) = enterTouch (stopShoes (s.shoeRead k r)) := if_neg failed
    obtain ⟨w, e, mode, move, sense, timer, start, shoe, resistances, failures⟩ :=
      enterTouch_eq (s := stopShoes (s.shoeRead k r)) runs
    rw [ends, e, enterPhase_eq]
    refine ⟨resistances, failures, ⟨rfl, rfl, rfl, rfl, rfl⟩, rfl, rfl, rfl, rfl, fun few => absurd few more,
      fun _ _ => ⟨rfl, mode, move, sense, timer, start, shoe⟩, fun _ ⟨b, member, set⟩ => absurd ?_ failed⟩
    exact List.any_eq_true.mpr ⟨b, member, set⟩

/-! ### A failed touch (R26, R44) -/

theorem touchFail_written (runs : s.stl.stop = .run) :
    let t := touchFail s
    t.wsq = { s.wsq with ending := some ⟨.touchFail, true, true⟩ } ∧
      t.pcu.mode = .position (clampInt 0 s.loc.strokeFwd s.wsq.checkPos) ∧
      t.pcu.moveTimer = some s.loc.moveTimeoutMs ∧ t.pcu.contactMove = .none ∧ t.pcu.contactSense = false ∧
      sameBase s t ∧ t.cdr = s.cdr ∧ t.tru = s.tru ∧ t.flash = s.flash ∧ t.stl = s.stl ∧ t.sht = s.sht ∧ t.lkc = s.lkc ∧
      t.orq = s.orq ∧ t.wrs = s.wrs := by
  intro t
  have ends : t = _ := beginEnding_eq (s := platenHold s) runs .touchFail
  rw [ends]
  exact ⟨rfl, rfl, rfl, rfl, rfl, ⟨rfl, rfl, rfl, rfl, rfl⟩, rfl, rfl, rfl, rfl, rfl, rfl, rfl, rfl⟩

/-! ### A claim in no window (R130, R131) -/

/-- A dropped frame starts no settle window where no beacon has named the claim. -/
theorem reportDropped_unnamed (p : Purpose) (unnamed : s.sht.beaconNamed = false) :
    (reportDropped p s).sht.settleTimer = s.sht.settleTimer := by
  cases p with
  | claim n =>
    have report : reportDropped (.claim n) s = claimDropped n s := rfl
    rw [report, claimDropped]
    split
    · rw [if_neg (by rw [unnamed]; decide)]
    · rfl
  | recordPart part id =>
    have report : reportDropped (.recordPart part id) s = recordReported part id s := rfl
    rw [report, recordReported]
    split <;> rfl
  | beacon | yield | answer | restartAnswer | readAnswer | doneNotice | notice => rfl

theorem sendShare_unnamed (f : TxFrame) (unnamed : s.sht.beaconNamed = false) :
    (sendShare f s).sht.settleTimer = s.sht.settleTimer := by
  unfold sendShare
  split
  · obtain ⟨w, arm⟩ := armWait_eq { s with lkc.queue := insertShare f s.lkc.queue }
    rw [arm]
  · split
    · rfl
    · exact reportDropped_unnamed _ (by exact unnamed)

theorem queueBeacon_unnamed (unnamed : s.sht.beaconNamed = false) : (queueBeacon s).sht.settleTimer = s.sht.settleTimer := by
  unfold queueBeacon
  split
  · rfl
  · split
    · rfl
    · exact sendShare_unnamed _ unnamed

/-- A beacon enters the queue or the slot (R155, R156). -/
theorem queueBeacon_lkc (spare : s.lkc.queue.length < 6 ∨ ∃ f ∈ s.lkc.queue, f.kind ≠ .beacon) :
    let t := queueBeacon s
    t.lkc.waiters = s.lkc.waiters ∧
      ((∃ f ∈ s.lkc.queue, f.kind = .beacon) →
        t.lkc.queue = s.lkc.queue.map (fun f => if f.kind = .beacon then beaconFrame s else f) ∧ t.lkc.slot = s.lkc.slot) ∧
      ((∀ f ∈ s.lkc.queue, f.kind ≠ .beacon) →
        (∀ f, s.lkc.slot = some f → f.kind = .beacon → s.lkc.sending = false →
          t.lkc.queue = s.lkc.queue ∧ t.lkc.slot = some (beaconFrame s)) ∧
        (s.lkc.sending = true ∨ (∀ f, s.lkc.slot = some f → f.kind ≠ .beacon) →
          t.lkc.queue = shareQueued (beaconFrame s) s.lkc.queue ∧ t.lkc.slot = s.lkc.slot)) := by
  refine ⟨by rw [(queueBeacon_sent s).lkc], fun waits => ?_, fun none_waits => ⟨fun f held kind still => ?_, fun busy => ?_⟩⟩
  · rw [queueBeacon_replaces waits]
    exact ⟨rfl, rfl⟩
  · rw [queueBeacon_slot none_waits held kind still]
    exact ⟨rfl, rfl⟩
  · rw [queueBeacon_sends none_waits busy]
    exact ⟨sendShare_queue _ _ spare, (sendShare_lkc _ _).1⟩

/-! ### The own claim is made (R130) -/

/-- The entry and the windows of a new claim, before its frames are queued. -/
def State.claimed (demand : Nat) (s : State) : State :=
  { s with
    sht.clock := s.sht.clock + 1
    sht.claims := putClaim ⟨s.node, s.sht.clock + 1, demand, .queued, none⟩ s.sht.claims
    sht.lastOwnClaim := some (s.sht.clock + 1)
    sht.settleFlag := false
    sht.settleTimer := none
    sht.claimDropped := false
    sht.beaconNamed := false
    sht.claimWait := if s.loc.claimWaitS = 0 then none else some (s.loc.claimWaitS * 1000) }

/-- The frame of a claim of this number. -/
def claimFrame (n demand : Nat) : TxFrame := ⟨.claim, 15, claimBody n demand, .claim n⟩

theorem makeClaim_eq (demand : Nat) (s : State) :
    makeClaim demand s = queueBeacon (sendShare (claimFrame (s.sht.clock + 1) demand) (s.claimed demand)) := rfl

theorem claimed_own (demand : Nat) (s : State) :
    (s.claimed demand).ownClaim = some ⟨s.node, s.sht.clock + 1, demand, .queued, none⟩ :=
  find_putClaim_self _ _ rfl

theorem makeClaim_sent (demand : Nat) (s : State) : ShareSent (s.claimed demand) (makeClaim demand s) :=
  (sendShare_sent _ _).trans (queueBeacon_sent _)

/-- The settle window of a new claim does not run. -/
theorem makeClaim_unsettled (demand : Nat) (s : State) : (makeClaim demand s).sht.settleTimer = none := by
  have named : (sendShare (claimFrame (s.sht.clock + 1) demand) (s.claimed demand)).sht.beaconNamed = false := by
    rw [(sendShare_sent _ _).sht]; rfl
  rw [makeClaim_eq, queueBeacon_unnamed named, sendShare_unnamed _ rfl]
  rfl

theorem mem_shareQueued (f : TxFrame) (q : List TxFrame) : f ∈ shareQueued f q := by simp [shareQueued]

/-- The two frames of a new claim (R130, R154 to R156). -/
theorem makeClaim_lkc (demand : Nat) (spare : s.lkc.queue.length < 6 ∨ ∃ f ∈ s.lkc.queue, f.kind ≠ .beacon) :
    ∃ b : BeaconBody, b.claimPresent = true ∧ b.drawing = false ∧ b.claimNumber = s.sht.clock + 1 ∧
      b.demand = demand ∧ b.clock = s.sht.clock + 1 ∧
      let beacon : TxFrame := ⟨.beacon, 15, beaconBytes b, .beacon (some (s.sht.clock + 1))⟩
      let queue := shareQueued (claimFrame (s.sht.clock + 1) demand) s.lkc.queue
      let t := makeClaim demand s
      t.lkc.waiters = s.lkc.waiters ∧
        ((∃ f ∈ queue, f.kind = .beacon) →
          t.lkc.queue = queue.map (fun f => if f.kind = .beacon then beacon else f) ∧ t.lkc.slot = s.lkc.slot) ∧
        ((∀ f ∈ queue, f.kind ≠ .beacon) →
          (∀ f, s.lkc.slot = some f → f.kind = .beacon → s.lkc.sending = false →
            t.lkc.queue = queue ∧ t.lkc.slot = some beacon) ∧
          (s.lkc.sending = true ∨ (∀ f, s.lkc.slot = some f → f.kind ≠ .beacon) →
            t.lkc.queue = shareQueued beacon queue ∧ t.lkc.slot = s.lkc.slot)) := by
  have sent := sendShare_sent (claimFrame (s.sht.clock + 1) demand) (s.claimed demand)
  have queued := sendShare_queue (claimFrame (s.sht.clock + 1) demand) (s.claimed demand) spare
  have own := sent.ownClaim.trans (claimed_own demand s)
  have clock : (sendShare (claimFrame (s.sht.clock + 1) demand) (s.claimed demand)).sht.clock = s.sht.clock + 1 := by
    rw [sent.sht]; rfl
  have medium := sent.lkc
  have slot := (sendShare_lkc (claimFrame (s.sht.clock + 1) demand) (s.claimed demand)).1
  rw [makeClaim_eq]
  generalize sendShare (claimFrame (s.sht.clock + 1) demand) (s.claimed demand) = c at queued own clock medium slot ⊢
  obtain ⟨waiters, replaced, placed'⟩ := queueBeacon_lkc (s := c)
    (.inr ⟨claimFrame (s.sht.clock + 1) demand, by rw [queued]; exact mem_shareQueued _ _, by simp [claimFrame]⟩)
  have sending : c.lkc.sending = s.lkc.sending := by rw [medium]; rfl
  have waiting : c.lkc.waiters = s.lkc.waiters := by rw [medium]; rfl
  have frame : beaconFrame c = ⟨.beacon, 15, beaconBytes (beaconNow c), .beacon (some (s.sht.clock + 1))⟩ := by
    simp [beaconFrame, own]
  have queued' : c.lkc.queue = shareQueued (claimFrame (s.sht.clock + 1) demand) s.lkc.queue := queued
  refine ⟨beaconNow c, by simp [beaconNow, own], by simp [beaconNow, State.drawing, own], by simp [beaconNow, own],
    by simp [beaconNow, own], clock, ?_⟩
  intro beacon queue t
  rw [queued', slot, frame] at replaced
  rw [queued', slot, sending, frame] at placed'
  exact ⟨waiters.trans waiting, replaced, placed'⟩

/-! ### CLAIM_WAIT is entered (R26, R27, R46, R130) -/

/-- A run condition lost in a weld that no abort path has taken over changes neither the weld nor the share table. -/
theorem loseRun_unaborted (going : s.wsq.abort = none) :
    (loseRun s).wsq = s.wsq ∧ (loseRun s).sht = s.sht ∧ (loseRun s).lkc = s.lkc ∧ (loseRun s).settings = s.settings := by
  have off (t : State) (going : t.wsq.abort = none) :
      (driveOff t).wsq = t.wsq ∧ (driveOff t).sht = t.sht ∧ (driveOff t).lkc = t.lkc ∧ (driveOff t).settings = t.settings := by
    have unawaited : awaitsDriveOff (contactStepEnds (timingStopped (blockDrive t))) = false := by
      simp [awaitsDriveOff, going]
    have report : driveOff t = contactStepEnds (timingStopped (blockDrive t)) := if_neg (by rw [unawaited]; decide)
    rw [report]
    simp
  unfold loseRun
  split
  · split
    · obtain ⟨wsq, sht, lkc, settings⟩ := off (cutRunning s) (by simpa using going)
      simp [wsq, sht, lkc, settings]
    · simp
  · exact ⟨rfl, rfl, rfl, rfl⟩

/-- Neither admission nor oversubscription concerns a claim whose settle window is not over. -/
theorem evaluateShare_unsettled {own : Claim} (held : s.ownClaim = some own) (queued : own.state = .queued)
    (unsettled : s.sht.settleFlag = false) : evaluateShare s = { s with sht.oversubscribed := false } := by
  have inadmissible : admissible s = false := by simp [admissible, held, unsettled]
  have idle : oversubscribed s = false := by simp [oversubscribed, State.drawing, held, queued]
  rw [evaluateShare, evaluateAdmission, if_neg (by rw [inadmissible]; decide)]
  simp [evaluateOversubscription, idle]

/-- CLAIM_WAIT, before a claim is asked for. -/
def State.claimWaits (s : State) : State := { enterPhase .claimWait s with wsq.claimWaitAt := s.now }

/-- The phase's entry leaves all but the weld and the marker. -/
theorem claimWaits_eq (s : State) : ∃ w x, s.claimWaits = { s with wsq := w, wrs := x } ∧ w.phase = some .claimWait ∧
    w.claimWaitAt = s.now ∧ w.abort = s.wsq.abort ∧ w.sched = s.wsq.sched := by
  rw [State.claimWaits, enterPhase_eq]
  exact ⟨_, _, rfl, rfl, rfl, rfl, rfl⟩

theorem enterClaimWait_eq (s : State) :
    enterClaimWait s =
      if clockSpent s then beginEnding .clockSpent s.claimWaits
      else if discord s then beginEnding .discord s.claimWaits
      else evaluateShare (loseRun (makeClaim s.sched.demandKva s.claimWaits)) := rfl

section
variable (unspent : s.sht.clock < 4294967295)

theorem clockSpent_iff (s : State) : clockSpent s = true ↔ 4294967295 ≤ s.sht.clock := decide_eq_true_iff

theorem enterClaimWait_spent (spent : 4294967295 ≤ s.sht.clock) : enterClaimWait s = beginEnding .clockSpent s.claimWaits :=
  if_pos ((clockSpent_iff s).mpr spent)

include unspent

theorem enterClaimWait_discordant (discordant : ∃ p ∈ s.sht.peers, p.presence = .discordant) :
    enterClaimWait s = beginEnding .discord s.claimWaits := by
  have found : discord s = true := by simpa [discord] using discordant
  rw [enterClaimWait_eq, if_neg fun spent => absurd ((clockSpent_iff s).mp spent) (Nat.not_le.mpr unspent), if_pos found]

theorem enterClaimWait_asks (concordant : ∀ p ∈ s.sht.peers, p.presence ≠ .discordant) :
    enterClaimWait s = evaluateShare (loseRun (makeClaim s.sched.demandKva s.claimWaits)) := by
  rw [enterClaimWait_eq, if_neg fun spent => absurd ((clockSpent_iff s).mp spent) (Nat.not_le.mpr unspent),
    if_neg (by rw [(discord_iff s).mpr concordant]; decide)]

end

/-- What PCU keeps of a touch. -/
def Pcu.touch (p : Pcu) : Option Int × Option Int × Option Int × Int := (p.touchPos, p.gap, p.initialPull, p.forceBasis)

/-- What the ways out of a touch leave: what it found, and the base. -/
structure TouchKept (s t : State) : Prop where
  touch : t.pcu.touch = s.pcu.touch
  base : sameBase s t

theorem beginEnding_kept (runs : s.stl.stop = .run) (reason : Reason) : TouchKept s (beginEnding reason s) := by
  rw [beginEnding_eq runs]
  exact ⟨rfl, ⟨rfl, rfl, rfl, rfl, rfl⟩⟩

/-- A new claim, QUEUED and not settled (R27, R130). -/
theorem claimAsked {demand : Nat} (going : s.wsq.abort = none) :
    let t := evaluateShare (loseRun (makeClaim demand s))
    TouchKept s t ∧ t.wsq = s.wsq ∧ t.lkc = (makeClaim demand s).lkc ∧ t.sht.clock = s.sht.clock + 1 ∧
      t.sht.lastOwnClaim = some (s.sht.clock + 1) ∧
      t.sht.claims = putClaim ⟨s.node, s.sht.clock + 1, demand, .queued, none⟩ s.sht.claims ∧
      t.sht.claimWait = (if s.loc.claimWaitS = 0 then none else some (s.loc.claimWaitS * 1000)) ∧
      t.sht.settleFlag = false ∧ t.sht.settleTimer = none := by
  have sent := makeClaim_sent demand s
  have unsettled := makeClaim_unsettled demand s
  have own := sent.ownClaim.trans (claimed_own demand s)
  have sht := sent.sht
  have pcu : (makeClaim demand s).pcu = s.pcu := by rw [sent.whole]; rfl
  have wsq : (makeClaim demand s).wsq = s.wsq := sent.wsq
  have base : sameBase s (makeClaim demand s) := sent.sameBase
  generalize makeClaim demand s = m at unsettled own sht pcu wsq base ⊢
  obtain ⟨wsq', sht', lkc', -⟩ := loseRun_unaborted (s := m) (by rw [wsq]; exact going)
  have path := loseRun_path m
  have own' : (loseRun m).ownClaim = some ⟨s.node, s.sht.clock + 1, demand, .queued, none⟩ := by
    rw [← own, State.ownClaim, sht', path.node]; rfl
  have fresh : (loseRun m).sht.settleFlag = false := by rw [sht', sht]; rfl
  intro t
  have ends : t = _ := evaluateShare_unsettled own' rfl fresh
  rw [ends]
  refine ⟨⟨?_, sameBase_trans base path.base⟩, wsq'.trans wsq, lkc', ?_, ?_, ?_, ?_, fresh, ?_⟩
  · show (loseRun m).pcu.touch = _
    rw [← pcu, path.pcu]
    rfl
  · show (loseRun m).sht.clock = _
    rw [sht', sht]; rfl
  · show (loseRun m).sht.lastOwnClaim = _
    rw [sht', sht]; rfl
  · show (loseRun m).sht.claims = _
    rw [sht', sht]; rfl
  · show (loseRun m).sht.claimWait = _
    rw [sht', sht]; rfl
  · show (loseRun m).sht.settleTimer = _
    rw [sht', unsettled]

/-! ### Contact completes the touch (R44, R46) -/

/-- The touch is complete, before the budget tests. -/
def State.touched (s : State) : State :=
  { platenHold s with
    pcu.touchPos := some s.pcu.contactPosition
    pcu.gap := some (if s.pcu.contactFromStart then 0 else s.pcu.contactPosition - s.pcu.touchStart)
    pcu.initialPull := if s.wsq.kind = .closure then some s.pcu.contactForce else none
    pcu.forceBasis := if s.wsq.kind = .closure then s.pcu.contactForce else 0 }

theorem completeTouch_eq (s : State) : completeTouch s = budgetTests s.pcu.contactPosition s.touched := rfl

/-- The budget tests decide how a touch goes on (R46), and what it found stays. -/
theorem touchContact_tested (runs : s.stl.stop = .run) (going : s.wsq.abort = none) :
    let strokeOk := (strokeNeeded s.sched : Int) ≤ s.loc.strokeFwd - s.pcu.contactPosition
    let forceOk := budgetForce s + s.pcu.pullTarget.getD 0 ≤ s.loc.platenMaxKn
    let t := completeTouch s
    TouchKept s.touched t ∧
      (¬strokeOk → t.wsq.ending = some ⟨.strokeShort, true, true⟩) ∧
      (strokeOk → ¬forceOk → t.wsq.ending = some ⟨.forceShort, true, true⟩) ∧
      (strokeOk → forceOk → t = enterClaimWait s.touched) := by
  intro strokeOk forceOk t
  have tests : t = if s.loc.strokeFwd - s.pcu.contactPosition < strokeNeeded s.sched then beginEnding .strokeShort s.touched
      else if s.loc.platenMaxKn < budgetForce s + s.pcu.pullTarget.getD 0 then beginEnding .forceShort s.touched
      else enterClaimWait s.touched := rfl
  have ends (reason : Reason) : (beginEnding reason s.touched).wsq.ending = some ⟨reason, true, true⟩ := by
    rw [beginEnding_eq (by exact runs)]
  by_cases stroke : strokeOk
  · by_cases force : forceOk
    · have waits : t = enterClaimWait s.touched := by
        rw [tests, if_neg (by omega), if_neg (by omega)]
      refine ⟨?_, fun h => absurd stroke h, fun _ h => absurd force h, fun _ _ => waits⟩
      obtain ⟨w, x, e, -, -, abort, -⟩ := claimWaits_eq s.touched
      have entered (u : State) (k : TouchKept s.touched.claimWaits u) : TouchKept s.touched u := by
        rw [e] at k
        exact ⟨k.touch, k.base⟩
      have runs' : s.touched.claimWaits.stl.stop = .run := by rw [e]; exact runs
      have going' : s.touched.claimWaits.wsq.abort = none := by rw [e]; exact abort.trans going
      rw [waits, enterClaimWait_eq]
      split
      · exact entered _ (beginEnding_kept runs' _)
      · split
        · exact entered _ (beginEnding_kept runs' _)
        · exact entered _ (claimAsked going').1
    · have short : t = beginEnding .forceShort s.touched := by
        rw [tests, if_neg (by omega), if_pos (by omega)]
      rw [short]
      exact ⟨beginEnding_kept (s := s.touched) runs _, fun h => absurd stroke h, fun _ _ => ends _, fun _ h => absurd h force⟩
  · have short : t = beginEnding .strokeShort s.touched := by
      rw [tests, if_pos (by omega)]
    rw [short]
    exact ⟨beginEnding_kept (s := s.touched) runs _, fun _ => ends _, fun h => absurd h stroke, fun h => absurd h stroke⟩

end

/-- Settles O50. -/
theorem electrodeAndTouch : Obligations.ElectrodeAndTouch := by
  intro s awake runs going
  refine ⟨fun k r measures over' => shoeMeasurementEnd_compares awake runs measures over', fun touches long => ?_,
    fun c ends touches => ?_⟩
  · intro needed strokeOk forceOk
    have run : exec .touchContact s = .next (completeTouch s) :=
      exec_taken rfl awake (by simp [touching, touches, contactSamples, long])
    obtain ⟨kept, strokeShort, forceShort, waits⟩ := touchContact_tested runs going
    have touch := kept.touch
    simp only [Pcu.touch, Prod.mk.injEq] at touch
    obtain ⟨touchPos, gap, pull, basis⟩ := touch
    obtain ⟨w, x, e, phase, at_, abort, sched⟩ := claimWaits_eq s.touched
    have runs' : s.touched.claimWaits.stl.stop = .run := by rw [e]; exact runs
    have going' : s.touched.claimWaits.wsq.abort = none := by rw [e]; exact abort.trans going
    refine ⟨_, run, touchPos, gap, fun closure => ⟨pull.trans (if_pos closure), basis.trans (if_pos closure)⟩,
      fun join => ⟨pull.trans (if_neg (by rw [join]; decide)), basis.trans (if_neg (by rw [join]; decide))⟩,
      sameBase_trans (t := s.touched) ⟨rfl, rfl, rfl, rfl, rfl⟩ kept.base, strokeShort, forceShort,
      fun stroke force spent => ?_, fun stroke force unspent discordant => ?_, fun stroke force unspent concordant => ?_⟩
    · have ends : completeTouch s = beginEnding .clockSpent s.touched.claimWaits := by
        rw [waits stroke force, enterClaimWait_spent (by exact spent)]
      rw [ends, beginEnding_eq runs', e]
      exact ⟨rfl, rfl, rfl⟩
    · have ends : completeTouch s = beginEnding .discord s.touched.claimWaits := by
        rw [waits stroke force, enterClaimWait_discordant (by exact unspent) (by exact discordant)]
      rw [ends, beginEnding_eq runs', e]
      exact ⟨phase, rfl, rfl, rfl⟩
    · have ends : completeTouch s = evaluateShare (loseRun (makeClaim s.sched.demandKva s.touched.claimWaits)) := by
        rw [waits stroke force, enterClaimWait_asks (by exact unspent) (by exact concordant)]
        rfl
      obtain ⟨-, wsq, lkc, clock, last, claims, wait, settled, settles⟩ := claimAsked (demand := s.sched.demandKva) going'
      have weld : s.touched.claimWaits.wsq = w := by rw [e]
      rw [ends, wsq, lkc, weld]
      have frames := makeClaim_lkc (s := s.touched.claimWaits) s.sched.demandKva
      have sht : s.touched.claimWaits.sht = s.sht := by rw [e]; rfl
      have link : s.touched.claimWaits.lkc = s.lkc := by rw [e]; rfl
      have node : s.touched.claimWaits.node = s.node := by rw [e]; rfl
      have loc : s.touched.claimWaits.loc = s.loc := by rw [e]; rfl
      rw [sht] at clock last
      rw [sht, node] at claims
      rw [loc] at wait
      rw [sht, link] at frames
      exact ⟨phase, at_, clock, last, claims, wait, settled, settles, frames⟩
  · have run : exec c s = .next (touchFail s) := by
      rcases ends with ⟨rfl, away, reached⟩ | ⟨rfl, over'⟩
      · exact exec_taken rfl awake (by simp [touching, touches, reserveReached, away, reached])
      · exact exec_taken rfl awake (by simp [touching, touches, over'])
    exact ⟨_, run, touchFail_written runs⟩

end Sys2Proof.Machine

/-! Bytes, the CRC, frames and bodies read back (O14). -/

namespace Sys2Proof.Machine

/-! ### Multi-byte fields -/

theorem be_one (n : Nat) : be 1 n = [BitVec.ofNat 8 n] := by simp [be]

@[simp] theorem length_be (k n : Nat) : (be k n).length = k := by
  induction k with
  | zero => rfl
  | succ k ih => simp [be, ih]

theorem foldl_be (k n acc : Nat) :
    (be k n).foldl (fun acc b => acc * 256 + b.toNat) acc = acc * 256 ^ k + n % 256 ^ k := by
  induction k generalizing acc with
  | zero => simp [be, Nat.mod_one]
  | succ k ih =>
    rw [be, List.foldl_cons, ih, BitVec.toNat_ofNat, Nat.mod_pow_succ (x := n) (b := 256), Nat.pow_succ]
    change (acc * 256 + n / 256 ^ k % 256) * 256 ^ k + _ = _
    generalize n / 256 ^ k % 256 = d
    rw [Nat.pow_succ, Nat.add_mul, Nat.mul_assoc, Nat.mul_comm 256, Nat.mul_comm d]
    omega

/-- Bytes of a number that fits them spell it. -/
theorem fromBe_be {k n : Nat} (fits : n < 256 ^ k) : fromBe (be k n) = n := by
  rw [fromBe, foldl_be, Nat.mod_eq_of_lt fits]
  simp

/-- The field at the front. -/
theorem field_front {k n : Nat} (rest : List Byte) (fits : n < 256 ^ k) : field (be k n ++ rest) 0 k = n := by
  rw [field, List.drop_zero, List.take_left' (length_be k n), fromBe_be fits]

theorem field_only {k n : Nat} (fits : n < 256 ^ k) : field (be k n) 0 k = n := by
  simpa using field_front [] fits

/-- A field behind another. -/
theorem field_behind {j m o k : Nat} (rest : List Byte) (behind : j ≤ o) :
    field (be j m ++ rest) o k = field rest (o - j) k := by
  rw [field, field, List.drop_append, List.drop_eq_nil_of_le (by simpa using behind), List.nil_append, length_be]

/-- A field within the front part of a list. -/
theorem field_within {l : List Byte} {o k : Nat} (rest : List Byte) (within : o + k ≤ l.length) :
    field (l ++ rest) o k = field l o k := by
  rw [field, field, List.drop_append_of_le_length (by omega), List.take_append_of_le_length (by simp; omega)]

theorem beInt_one {x : Int} (low : -128 ≤ x) (high : x ≤ 127) (rest : List Byte) :
    signedByte (field (beInt 1 x ++ rest) 0 1) = x := by
  have fits : (x % (256 ^ 1 : Nat)).toNat < 256 ^ 1 := by omega
  rw [beInt, field_front rest fits, signedByte]
  split <;> omega

theorem beInt_only {x : Int} (low : -128 ≤ x) (high : x ≤ 127) : signedByte (field (beInt 1 x) 0 1) = x := by
  simpa using beInt_one low high []

/-- A field behind a signed one. -/
theorem field_behindInt {j o k : Nat} {x : Int} (rest : List Byte) (behind : j ≤ o) :
    field (beInt j x ++ rest) o k = field rest (o - j) k := field_behind rest behind

@[simp] theorem length_beInt (k : Nat) (x : Int) : (beInt k x).length = k := length_be k _

/-! ### The CRC (R147) -/

theorem crcShift_lt {c : Nat} (h : c < 65536) : crcShift c < 65536 := by
  unfold crcShift
  split
  · omega
  · next high =>
    have top : (c * 2).testBit 16 = true := by
      rw [Nat.testBit_eq_decide_div_mod_eq]
      simp only [decide_eq_true_eq]
      omega
    refine Nat.lt_pow_two_of_testBit (n := 16) _ fun i hi => ?_
    rw [Nat.testBit_xor]
    obtain rfl | above := Nat.eq_or_lt_of_le hi
    · rw [top]
      decide
    · have wide : ∀ y < 2 ^ 17, y.testBit i = false := fun y hy =>
        Nat.testBit_lt_two_pow (Nat.lt_of_lt_of_le hy (Nat.pow_le_pow_right (by decide) above))
      rw [wide _ (by omega), wide _ (by decide)]
      rfl

theorem crcByte_lt {c : Nat} (b : Byte) (h : c < 65536) : crcByte c b < 65536 := by
  have word : c ^^^ (b.toNat * 256) < 65536 := 
    Nat.xor_lt_two_pow (n := 16) h (by have := b.isLt; omega)
  unfold crcByte
  generalize c ^^^ (b.toNat * 256) = d at word ⊢
  iterate 8 apply crcShift_lt
  exact word

theorem crc16_lt (l : List Byte) : crc16 l < 65536 := by
  have run (acc : Nat) (h : acc < 65536) : l.foldl crcByte acc < 65536 := by
    induction l generalizing acc with
    | nil => exact h
    | cons b l ih =>
      rw [List.foldl_cons]
      exact ih _ (crcByte_lt b h)
  exact run _ (by omega)

/-! ### A frame (R147, R149) -/

section
variable {node kind src dest : Nat} {body : List Byte}

theorem frameHead_eq (kind src dest : Nat) (body : List Byte) :
    frameHead kind src dest body = be 1 (kind * 16 + src) ++ (be 1 (dest * 16) ++ (be 1 body.length ++ body)) := by
  simp [frameHead, be_one]

theorem length_frameHead : (frameHead kind src dest body).length = 3 + body.length := by
  simp [frameHead]; omega

theorem length_frameBytes : (frameBytes kind src dest body).length = 5 + body.length := by
  simp [frameBytes, length_frameHead]; omega

theorem frameBody_frameBytes : frameBody (frameBytes kind src dest body) = body := by
  rw [frameBody, length_frameBytes, frameBytes]
  simp [frameHead]

/-- The bytes of the head, read back. -/
theorem field_frameBytes (known : kind < 8) (source : src ≤ 14) (dests : dest ≤ 15) (short : body.length ≤ 64) :
    field (frameBytes kind src dest body) 0 1 = kind * 16 + src ∧ field (frameBytes kind src dest body) 1 1 = dest * 16 ∧
      field (frameBytes kind src dest body) 2 1 = body.length ∧
      field (frameBytes kind src dest body) (3 + body.length) 2 = crc16 (frameHead kind src dest body) := by
  have head {o k : Nat} (within : o + k ≤ 3 + body.length) :
      field (frameBytes kind src dest body) o k = field (frameHead kind src dest body) o k :=
    field_within _ (by rw [length_frameHead]; exact within)
  refine ⟨?_, ?_, ?_, ?_⟩
  · rw [head (by omega), frameHead_eq, field_front _ (by omega)]
  · rw [head (by omega), frameHead_eq, field_behind _ (by omega), field_front _ (by omega)]
  · rw [head (by omega), frameHead_eq, field_behind _ (by omega), field_behind _ (by omega), field_front _ (by omega)]
  · rw [field, frameBytes, List.drop_left' length_frameHead]
    exact field_only (crc16_lt _)

/-- A frame of a share kind or an ORDER, for this node and from a node that may send it, passes every check (R149, R150). -/
theorem receiveFate_frameBytes (known : 1 ≤ kind ∧ kind ≤ 4) (source : src ≤ 14) (here : dest = node ∨ dest = 15)
    (small : node ≤ 7) (short : body.length ≤ 64) (share : kind ≤ 3 → body.length = shareLength kind)
    (panel : kind = 4 → 8 ≤ src) :
    receiveFate node (frameBytes kind src dest body) =
      if kind = 1 then .share .beacon src body
      else if kind = 2 then .share .claim src body
      else if kind = 3 then .share .yield src body
      else .order src body := by
  obtain ⟨first, second, third, crc⟩ := field_frameBytes (kind := kind) (src := src) (dest := dest) (body := body)
    (by omega) source (by omega) short
  have kinds : (kind * 16 + src) / 16 = kind := by omega
  have sources : (kind * 16 + src) % 16 = src := by omega
  have dests : dest * 16 / 16 = dest := by omega
  have whole : (frameBytes kind src dest body).take (3 + body.length) = frameHead kind src dest body :=
    List.take_left' length_frameHead
  simp only [receiveFate, first, second, third, kinds, sources, dests, crc, whole, length_frameBytes, frameBody_frameBytes]
  rw [if_neg (by omega), if_neg (by simp), if_neg (by omega), if_neg (fun h => h.2 (share h.1)), if_neg (by omega),
    if_neg (by omega)]
  repeat' split
  all_goals first | rfl | omega

end

/-! ### ORDER bodies (Table 9-2) -/

/-- The operands of an order fit the fields of its body. -/
def OrderBody.fits : OrderBody → Prop
  | .queued tag (.clamp sched) => tag ≤ 15 ∧ sched < 256
  | .queued tag (.weld sched _ neutral) => tag ≤ 15 ∧ sched < 256 ∧ -128 ≤ neutral ∧ neutral ≤ 127
  | .queued tag .unclamp => tag ≤ 15
  | .abort tag target => tag < 256 ∧ target < 256
  | .clear tag => tag < 256
  | .status tag selector part => tag < 256 ∧ selector < 256 ∧ part < 256
  | .adjust tag trip speed force =>
    tag < 256 ∧ (-128 ≤ trip ∧ trip ≤ 127) ∧ (-128 ≤ speed ∧ speed ≤ 127) ∧ -128 ≤ force ∧ force ≤ 127
  | .readRecord tag weldNo => tag < 256 ∧ weldNo < 4294967296
  | .releaseHold tag weldNo => tag < 256 ∧ weldNo < 4294967296
  | .rest tag => tag < 256
  | .restart tag => tag < 256
  | .malformed body => Machine.malformed body = true ∧ body.length ≤ 64

/-- An order is read back from its body, with every operand. -/
theorem parseOrder_bytes (b : OrderBody) (fits : b.fits) : parseOrder b.bytes = b := by
  cases b with
  | malformed body => exact if_pos fits.1
  | queued tag kind =>
    cases kind with
    | clamp sched =>
      obtain ⟨small, sched'⟩ := fits
      have tag' : tag < 256 := by omega
      simp [OrderBody.bytes, parseOrder, Machine.malformed, orderCode, orderLength, field_front, field_behind, field_only,
        tag', sched', small]
    | weld sched kind neutral =>
      obtain ⟨small, sched', low, high⟩ := fits
      have tag' : tag < 256 := by omega
      cases kind <;>
        simp [OrderBody.bytes, parseOrder, Machine.malformed, orderCode, orderLength, field_front, field_behind,
          beInt_only, tag', sched', small, low, high, weldKindCode]
    | unclamp =>
      have small : tag ≤ 15 := fits
      have tag' : tag < 256 := by omega
      simp [OrderBody.bytes, parseOrder, Machine.malformed, orderCode, orderLength, field_front, field_behind, field_only,
        tag', small]
  | abort tag target =>
    obtain ⟨tag', target'⟩ := fits
    simp [OrderBody.bytes, parseOrder, Machine.malformed, orderCode, orderLength, field_front, field_behind, field_only, tag',
      target']
  | status tag selector part =>
    obtain ⟨tag', selector', part'⟩ := fits
    simp [OrderBody.bytes, parseOrder, Machine.malformed, orderCode, orderLength, field_front, field_behind, field_only, tag',
      selector', part']
  | adjust tag trip speed force =>
    obtain ⟨tag', ⟨low, high⟩, ⟨low', high'⟩, low'', high''⟩ := fits
    simp [OrderBody.bytes, parseOrder, Machine.malformed, orderCode, orderLength, field_front, field_behind, field_behindInt,
      beInt_one, beInt_only, tag', low, high, low', high', low'', high'']
  | readRecord tag weldNo | releaseHold tag weldNo =>
    obtain ⟨tag', weldNo'⟩ := fits
    simp [OrderBody.bytes, parseOrder, Machine.malformed, orderCode, orderLength, field_front, field_behind, field_only, tag',
      weldNo']
  | clear tag | rest tag | restart tag =>
    have tag' : tag < 256 := fits
    simp [OrderBody.bytes, parseOrder, Machine.malformed, orderCode, orderLength, field_front, field_behind, field_only, tag']

/-! ### Commands (R149, R150) -/

section
variable {node dest src : Nat}

theorem orderCommand_bytes (b : OrderBody) (fits : b.fits) : orderCommand src b.bytes = bodyCommand src b := by
  have read := parseOrder_bytes b fits
  cases b with
  | queued tag kind => cases kind <;> simp only [orderCommand, read] <;> rfl
  | _ => simp only [orderCommand, read]; rfl

theorem length_orderBytes (b : OrderBody) (fits : b.fits) : b.bytes.length ≤ 64 := by
  cases b with
  | malformed body => exact fits.2
  | queued tag kind => cases kind <;> simp [OrderBody.bytes]
  | _ => simp [OrderBody.bytes]

/-- A panel's ORDER is received as its command. -/
theorem frameCommand_orderFrame (small : node ≤ 7) (here : dest = node ∨ dest = 15) (panel : isPanel src = true)
    (b : OrderBody) (fits : b.fits) : frameCommand node (orderFrame src dest b) = bodyCommand src b := by
  obtain ⟨low, high⟩ : 8 ≤ src ∧ src ≤ 14 := by simpa [isPanel] using panel
  have fate : receiveFate node (orderFrame src dest b) = .order src b.bytes :=
    receiveFate_frameBytes (kind := 4) ⟨by decide, by decide⟩ high here small (length_orderBytes b fits) (by omega) fun _ => low
  simp only [frameCommand, fate]
  exact orderCommand_bytes b fits

/-- A share frame is received with its body. -/
theorem receiveFate_share {kind : Nat} {body : List Byte} (small : node ≤ 7) (here : dest = node ∨ dest = 15)
    (source : isSource src = true) (known : 1 ≤ kind ∧ kind ≤ 3) (length : body.length = shareLength kind) :
    receiveFate node (frameBytes kind src dest body) =
      if kind = 1 then .share .beacon src body else if kind = 2 then .share .claim src body else .share .yield src body := by
  have short : body.length ≤ 64 := by
    rw [length, shareLength]
    repeat' split
    all_goals omega
  rw [receiveFate_frameBytes ⟨known.1, by omega⟩ (by simpa [isSource] using source) here small short (fun _ => length)
    (by omega)]
  repeat' split
  all_goals first | rfl | omega

end

theorem isLong_iff (n : Nat) : isLong n = true ↔ n < 4294967296 := by
  rw [isLong, decide_eq_true_iff, top32]
  omega

/-- A BEACON body is read back from its bytes (Table 8-4). -/
theorem beaconOfBytes_bytes (b : BeaconBody) (wf : b.wf = true) : beaconOfBytes (beaconBytes b) = b := by
  obtain ⟨stateCode, phaseCode, claimPresent, drawing, isolated, aborting, claimNumber, demand, clock, digest, weldCounter⟩ := b
  simp only [BeaconBody.wf, isByte, isWord, isLong_iff, Bool.and_eq_true, decide_eq_true_eq] at wf
  obtain ⟨⟨⟨⟨⟨⟨state, phase⟩, number⟩, demand'⟩, clock'⟩, digest'⟩, counter⟩ := wf
  have flags : beaconFlags claimPresent drawing isolated aborting < 256 := by
    cases claimPresent <;> cases drawing <;> cases isolated <;> cases aborting <;> decide
  have bits : bit (beaconFlags claimPresent drawing isolated aborting) 0 = claimPresent ∧
      bit (beaconFlags claimPresent drawing isolated aborting) 1 = drawing ∧
      bit (beaconFlags claimPresent drawing isolated aborting) 2 = isolated ∧
      bit (beaconFlags claimPresent drawing isolated aborting) 3 = aborting := by
    cases claimPresent <;> cases drawing <;> cases isolated <;> cases aborting <;> decide
  obtain ⟨bit0, bit1, bit2, bit3⟩ := bits
  simp [beaconBytes, beaconOfBytes, field_front, field_behind, field_only, state, phase, flags, number, demand', clock',
    digest', counter, bit0, bit1, bit2, bit3]

/-- A CLAIM body is read back from its bytes. -/
theorem field_claimBody {number demand : Nat} (long : number < 4294967296) (word : demand < 65536) :
    field (claimBody number demand) 0 4 = number ∧ field (claimBody number demand) 4 2 = demand := by
  simp [claimBody, field_front, field_behind, field_only, long, word]

/-- Settles O14: a frame passes the checks with its body, and the body spells its operands. -/
theorem commandFramesAreReceived : Obligations.CommandFramesAreReceived := by
  intro node dest c frame small here wf sent
  have order (src : Nat) (b : OrderBody) (panel : isPanel src = true) (fits : b.fits) :
      frameCommand node (orderFrame src dest b) = bodyCommand src b :=
    frameCommand_orderFrame small here panel b fits
  cases c with
  | orderClamp src tag sched =>
    simp only [Instr.wf, isQueuedTag, isByte, Bool.and_eq_true, decide_eq_true_eq] at wf
    obtain ⟨⟨panel, tag'⟩, sched'⟩ := wf
    cases sent
    exact order src (.queued tag (.clamp sched)) panel ⟨tag', sched'⟩
  | orderWeld src tag sched kind neutral =>
    simp only [Instr.wf, isQueuedTag, isByte, isSignedByte, Bool.and_eq_true, decide_eq_true_eq] at wf
    obtain ⟨⟨⟨panel, tag'⟩, sched'⟩, neutral'⟩ := wf
    cases sent
    exact order src (.queued tag (.weld sched kind neutral)) panel ⟨tag', sched', neutral'⟩
  | orderUnclamp src tag =>
    simp only [Instr.wf, isQueuedTag, Bool.and_eq_true, decide_eq_true_eq] at wf
    cases sent
    exact order src (.queued tag .unclamp) wf.1 wf.2
  | abort src tag target =>
    simp only [Instr.wf, isByte, Bool.and_eq_true, decide_eq_true_eq] at wf
    obtain ⟨⟨panel, tag'⟩, target'⟩ := wf
    cases sent
    exact order src (.abort tag target) panel ⟨tag', target'⟩
  | clear src tag =>
    simp only [Instr.wf, isByte, Bool.and_eq_true, decide_eq_true_eq] at wf
    cases sent
    exact order src (.clear tag) wf.1 wf.2
  | status src tag selector part =>
    simp only [Instr.wf, isByte, Bool.and_eq_true, decide_eq_true_eq] at wf
    obtain ⟨⟨⟨panel, tag'⟩, selector'⟩, part'⟩ := wf
    cases sent
    exact order src (.status tag selector part) panel ⟨tag', selector', part'⟩
  | adjust src tag trip speed force =>
    simp only [Instr.wf, isByte, isSignedByte, Bool.and_eq_true, decide_eq_true_eq] at wf
    obtain ⟨⟨⟨⟨panel, tag'⟩, trip'⟩, speed'⟩, force'⟩ := wf
    cases sent
    exact order src (.adjust tag trip speed force) panel ⟨tag', trip', speed', force'⟩
  | readRecord src tag weldNo =>
    simp only [Instr.wf, isByte, isLong_iff, Bool.and_eq_true, decide_eq_true_eq] at wf
    obtain ⟨⟨panel, tag'⟩, weldNo'⟩ := wf
    cases sent
    exact order src (.readRecord tag weldNo) panel ⟨tag', weldNo'⟩
  | releaseHold src tag weldNo =>
    simp only [Instr.wf, isByte, isLong_iff, Bool.and_eq_true, decide_eq_true_eq] at wf
    obtain ⟨⟨panel, tag'⟩, weldNo'⟩ := wf
    cases sent
    exact order src (.releaseHold tag weldNo) panel ⟨tag', weldNo'⟩
  | rest src tag =>
    simp only [Instr.wf, isByte, Bool.and_eq_true, decide_eq_true_eq] at wf
    cases sent
    exact order src (.rest tag) wf.1 wf.2
  | restart src tag =>
    simp only [Instr.wf, isByte, Bool.and_eq_true, decide_eq_true_eq] at wf
    cases sent
    exact order src (.restart tag) wf.1 wf.2
  | badOrder src body =>
    simp only [Instr.wf, Bool.and_eq_true, decide_eq_true_eq] at wf
    obtain ⟨⟨panel, bad⟩, short⟩ := wf
    cases sent
    exact order src (.malformed body) panel ⟨bad, short⟩
  | beaconReceived src body =>
    simp only [Instr.wf, Bool.and_eq_true] at wf
    cases sent
    have fate := receiveFate_share (kind := 1) (body := beaconBytes body) small here wf.1 ⟨by decide, by decide⟩
      (by simp [beaconBytes, shareLength])
    simp only [frameCommand, fate, if_true, beaconOfBytes_bytes body wf.2]
  | claimReceived src number demand =>
    simp only [Instr.wf, isWord, isLong_iff, Bool.and_eq_true, decide_eq_true_eq] at wf
    obtain ⟨⟨source, number'⟩, demand'⟩ := wf
    cases sent
    have fate := receiveFate_share (kind := 2) (body := claimBody number demand) small here source ⟨by decide, by decide⟩
      (by simp [claimBody, shareLength])
    obtain ⟨number'', demand''⟩ := field_claimBody number' demand'
    simp [frameCommand, fate, number'', demand'']
  | yieldReceived src number =>
    simp only [Instr.wf, isLong_iff, Bool.and_eq_true] at wf
    cases sent
    have fate := receiveFate_share (kind := 3) (body := yieldBody number) small here wf.1 ⟨by decide, by decide⟩
      (by simp [yieldBody, shareLength])
    have number' : field (yieldBody number) 0 4 = number := field_only (by simpa using wf.2)
    simp [frameCommand, fate, number']
  | _ => cases sent

end Sys2Proof.Machine

/-! ABORT (O24): the waiting orders it removes, its answer, and the notices behind it (R164). -/

namespace Sys2Proof.Machine

/-- The state without the waiting orders that a target names. -/
def State.withoutNamed (target : Nat) (s : State) : State :=
  { s with orq.queue := s.orq.queue.filter fun o => !removable target o }

section
variable {src tag target : Nat} {s : State}

theorem removable_iff (target : Nat) (o : QueuedOrder) :
    removable target o = true ↔ (target = 255 ∨ o.tag = target) ∧ o.status = .waiting := by
  simp [removable, named]

theorem named_iff (target : Nat) (o : QueuedOrder) : named target o = true ↔ target = 255 ∨ o.tag = target := by
  simp [named]

/-- An executing order is not removed. -/
theorem executing_withoutNamed {o : QueuedOrder} (runs : executing s = some o) :
    executing (s.withoutNamed target) = some o := by
  obtain ⟨head, status⟩ : s.orq.queue.head? = some o ∧ o.status = .executing := by simpa [executing] using runs
  obtain ⟨rest, queue⟩ := List.head?_eq_some_iff.mp head
  have stays : removable target o = false := by simp [removable, status]
  simp [executing, State.withoutNamed, queue, stays, status]

/-- Behind the head every order waits, so none comes to execute by a removal. -/
theorem executing_withoutNamed_none (sound : s.ordersSound) (idle : executing s = none) :
    executing (s.withoutNamed target) = none := by
  obtain ⟨-, -, waits, -⟩ := sound
  have other : ∀ o ∈ s.orq.queue, o.status ≠ .executing := by
    cases queue : s.orq.queue with
    | nil => simp
    | cons head rest =>
      intro o member
      obtain rfl | behind := List.mem_cons.mp member
      · simpa [executing, queue] using idle
      · rw [waits o (by rw [queue]; exact behind)]
        decide
  rw [executing, Option.filter_eq_none_iff]
  intro o head
  have member := (List.mem_filter.mp (List.mem_of_mem_head? head)).1
  simpa using other o member

/-- The notices of removed orders join what LKC is to send. -/
theorem sendCancelled_eq (removed : List QueuedOrder) (s : State) :
    ∃ w q l, sendCancelled removed s = { s with lkc.wait := w, lkc.queue := q, lkc.waiters := l } ∧
      q ++ l = outgoing s ++ removed.map fun o => doneNotice o .cancelled .aborted none .notice := by
  induction removed generalizing s with
  | nil => exact ⟨_, _, _, rfl, by simp [outgoing]⟩
  | cons o removed ih =>
    obtain ⟨w, q, l, e, joined⟩ := sendOther_outgoing (doneNotice o .cancelled .aborted none .notice) s (.inr (.inl rfl))
    obtain ⟨w', q', l', e', joined'⟩ := ih { s with lkc.wait := w, lkc.queue := q, lkc.waiters := l }
    have next : sendCancelled (o :: removed) s =
        sendCancelled removed (sendOther (doneNotice o .cancelled .aborted none .notice) s) := rfl
    refine ⟨w', q', l', by rw [next, e, e'], joined'.trans ?_⟩
    simp [outgoing, joined]

/-- The frames that an ABORT sends behind those of the abort itself: its answer, and the notices of the orders it removes. -/
def State.abortFrames (src tag target head : Nat) (s : State) : List TxFrame :=
  let gone := s.orq.queue.filter fun o => (target = 255 ∨ o.tag = target) ∧ o.status = .waiting
  answerFrame src 16 tag 2 .none (be 1 gone.length ++ be 1 head) .answer ::
    gone.map fun o => ⟨.notice, o.src, doneBody o.tag o.kind.code .cancelled .aborted none, .notice⟩

theorem filter_removable (target : Nat) (l : List QueuedOrder) :
    l.filter (removable target) = l.filter fun o => (target = 255 ∨ o.tag = target) ∧ o.status = .waiting :=
  List.filter_congr fun o _ => by rw [Bool.eq_iff_iff, removable_iff]; simp

theorem withoutNamed_queue (target : Nat) (s : State) :
    (s.withoutNamed target).orq.queue =
      s.orq.queue.filter fun o => ¬((target = 255 ∨ o.tag = target) ∧ o.status = .waiting) :=
  List.filter_congr fun o _ => by
    have named := removable_iff target o
    cases removes : removable target o <;> simp_all

/-- An ABORT with a target that exists: what it passes to WSQ, then its frames, then the end of an order that the abort ended at
once (R164). -/
theorem abort_runs (now : takesOrdersNow s) (exists' : target < 16 ∨ target = 255) :
    ∃ w i v x q l, v = passAbort target ((s.forOrder w i).withoutNamed target) ∧
      exec (.abort src tag target) s =
        .next (endAborted (abortOutcome target s) { v with lkc.wait := x, lkc.queue := q, lkc.waiters := l }) ∧
      q ++ l = outgoing v ++ s.abortFrames src tag target (headResult target s).code := by
  obtain ⟨w, i, run⟩ := exec_order_now (src := src) (b := .abort tag target) now rfl
  have handled : dispatchOrder src (.abort tag target) (s.forOrder w i) =
      endAborted (abortOutcome target s) (sendCancelled (s.orq.queue.filter (removable target))
        (sendAnswer src 16 tag resultData .none
          (be 1 (s.orq.queue.filter (removable target)).length ++ be 1 (headResult target s).code) .answer
          (passAbort target ((s.forOrder w i).withoutNamed target)))) := if_neg (by omega)
  obtain ⟨x, q, l, answers, joined⟩ := sendAnswer_eq src 16 tag resultData .none
    (be 1 (s.orq.queue.filter (removable target)).length ++ be 1 (headResult target s).code) .answer
    (passAbort target ((s.forOrder w i).withoutNamed target)) (.inl rfl)
  obtain ⟨x', q', l', cancels, joined'⟩ := sendCancelled_eq (s.orq.queue.filter (removable target))
    { passAbort target ((s.forOrder w i).withoutNamed target) with lkc.wait := x, lkc.queue := q, lkc.waiters := l }
  refine ⟨w, i, _, x', q', l', rfl, ?_, ?_⟩
  · rw [answers, cancels] at handled
    exact run.trans (congrArg _ handled)
  · have sent : outgoing { passAbort target ((s.forOrder w i).withoutNamed target) with
        lkc.wait := x, lkc.queue := q, lkc.waiters := l } = q ++ l := rfl
    rw [sent, joined, List.append_assoc] at joined'
    rw [joined', State.abortFrames, ← filter_removable]
    rfl

/-- No executing order is named: nothing is passed to WSQ. -/
theorem passAbort_unnamed (unnamed : ∀ o, executing s = some o → target ≠ 255 ∧ o.tag ≠ target) : passAbort target s = s := by
  unfold passAbort
  split
  · rfl
  · next o runs =>
    obtain ⟨other, tags⟩ := unnamed o runs
    exact if_pos (by simp [named, other, tags])

theorem headResult_unnamed (unnamed : ∀ o, executing s = some o → target ≠ 255 ∧ o.tag ≠ target) :
    headResult target s = .none ∧ abortOutcome target s = none := by
  cases runs : executing s with
  | none => simp [headResult, abortOutcome, runs]
  | some o =>
    obtain ⟨other, tags⟩ := unnamed o runs
    simp [headResult, abortOutcome, runs, named, other, tags]

end

/-- Settles O24. -/
theorem abortCancelsWaitingOrders : Obligations.AbortCancelsWaitingOrders := by
  intro src tag target s now sound
  refine ⟨fun low high => ?_, fun exists' unnamed => ?_⟩
  · obtain ⟨w, i, run⟩ := exec_order_now (src := src) (b := .abort tag target) now rfl
    exact answered_now run (if_pos ⟨low, high⟩)
  · obtain ⟨w, i, v, x, q, l, passed, run, joined⟩ := abort_runs (src := src) (tag := tag) now exists'
    have still : ∀ o, executing ((s.forOrder w i).withoutNamed target) = some o → target ≠ 255 ∧ o.tag ≠ target := by
      intro o runs
      cases ran : executing s with
      | none =>
        rw [executing_withoutNamed_none (s := s.forOrder w i) sound ran] at runs
        cases runs
      | some o' =>
        rw [executing_withoutNamed (s := s.forOrder w i) ran] at runs
        cases runs
        exact unnamed o ran
    obtain ⟨head, outcome⟩ := headResult_unnamed unnamed
    rw [passAbort_unnamed still] at passed
    rw [outcome] at run
    rw [head] at joined
    have queue := withoutNamed_queue target s
    subst passed
    refine ⟨_, run, ?_, joined, ?_⟩
    · show { s.orq with queue := (s.withoutNamed target).orq.queue } = _
      rw [queue]
    · simp [endAborted, State.withoutNamed, State.forOrder, sameBase, sameLink, sameHead]

end Sys2Proof.Machine

/-! ABORT of the executing order (O25). -/

namespace Sys2Proof.Machine

section
variable {s : State} {src tag target : Nat} {o : QueuedOrder} {p : WeldPhase}

/-! ### The abort is passed to WSQ (R117, R124, R164) -/

/-- ABORT_ORDER is filed in an open record, and nothing is written without one (R117, R124). -/
theorem fileAbortOrder_eq (phase : s.wsq.phase = some p) (before : p ≠ .closing) :
    ∃ w, fileAbortOrder s = { s with wrs.working := w } ∧
      (s.wrs.working = none → w = none) ∧
      (∀ r, s.wrs.working = some r → r.record.faults.length < 6 →
        w = some { r with
          record := { r.record with
            faults := r.record.faults ++ [⟨.abortOrder, .abort, p, s.now - r.openedAt⟩] } }) := by
  obtain working | ⟨r, working⟩ := Option.eq_none_or_eq_some s.wrs.working
  · have unfiled : fileAbortOrder s = s := if_neg (by simp [State.recordOpen, working])
    exact ⟨s.wrs.working, unfiled, id, fun r opened => by rw [working] at opened; cases opened⟩
  · have files : fileAbortOrder s = fileFault .abortOrder s := if_pos (by simp [State.recordOpen, working, phase, before])
    refine ⟨_, files.trans (fileFault_open phase before working), fun unopened => ?_, fun r' same room => ?_⟩
    · rw [working] at unopened
      cases unopened
    · rw [working] at same
      cases same
      simp [working, faultListSize, room, FaultCode.severity]

/-- An abort path starts where it may. -/
theorem tryAbort_starts {code : FaultCode} (phase : s.wsq.phase = some p) (before : p ≠ .closing) (going : s.wsq.abort = none)
    (begun : endingBegun s = false) : tryAbort code s = beginPath code p (s.abortStarts code p) := by
  have may : mayAbort s = true := (mayAbort_iff s).mpr ⟨⟨p, phase, before⟩, going, begun⟩
  simp only [tryAbort, phase]
  exact if_pos may

/-- What an abort by order leaves of the weld as its path begins: work in hand has stopped, and the order is filed. -/
structure AbortBegun (s a : State) (p : WeldPhase) : Prop where
  base : sameBase s a
  wsq : a.wsq =
    { s.wsq with
      idleTimer := a.wsq.idleTimer, contactTimer := none, openTimer := none, upsetTimer := none, flashTimer := none
      abort := some ⟨.abortOrder, p, .runOn⟩ }
  flash : a.flash.step = none ∧ a.flash.feed = none ∧ a.flash.offAwaited = false
  tru : a.tru =
    { s.tru with
      window := none
      startWaiting := false
      result := if s.tru.result = none ∧ s.tru.windowKept = none then some .skipped else s.tru.result }
  pcu : a.pcu = s.pcu
  cdr : a.cdr = s.cdr
  sht : a.sht = s.sht
  stl : a.stl = s.stl
  frames : outgoing a = outgoing s
  faults : ∀ w, s.wrs.working = some w → w.record.faults.length < 6 →
    a.wrs.working.map (·.record.faults) =
      some (w.record.faults ++ [⟨.abortOrder, .abort, p, s.now - w.openedAt⟩])
  slots : a.wrs.slots = s.wrs.slots
  runs : executing a = executing s

theorem abortBegun (phase : s.wsq.phase = some p) (before : p ≠ .closing) (w : Option Nat) (i : Timer)
    (runs : executing s = some o) :
    AbortBegun s ((fileAbortOrder ((s.forOrder w i).withoutNamed target)).abortStarts .abortOrder p) p := by
  obtain ⟨r, e, -, filed⟩ := fileAbortOrder_eq (s := (s.forOrder w i).withoutNamed target) phase before
  have still := executing_withoutNamed (target := target) (s := s.forOrder w i) runs
  rw [e, State.abortStarts, stopWork_eq]
  exact {
    base := ⟨rfl, rfl, rfl, rfl, rfl⟩
    wsq := rfl
    flash := ⟨rfl, rfl, rfl⟩
    tru := by simp [State.withoutNamed, State.forOrder]
    pcu := rfl
    cdr := rfl
    sht := rfl
    stl := rfl
    frames := rfl
    faults := fun v opened room => by
      have entry := filed v opened room
      rw [entry]
      rfl
    slots := rfl
    runs := still.trans runs.symm }

theorem AbortBegun.motionHeld {a : State} (h : AbortBegun s a p) : a.motionHeld = s.motionHeld := by
  rw [State.motionHeld, h.wsq]
  rfl

theorem AbortBegun.sched {a : State} (h : AbortBegun s a p) : a.sched = s.sched := by
  obtain ⟨-, -, settings, -⟩ := h.base
  have named : a.wsq.sched = s.wsq.sched := by rw [h.wsq]
  rw [State.sched, State.schedule, settings, named]
  rfl

theorem AbortBegun.loc {a : State} (h : AbortBegun s a p) : a.loc = s.loc := by
  obtain ⟨-, -, settings, -⟩ := h.base
  rw [State.loc, settings]
  rfl

theorem endingBegun_unended (unended : s.wsq.ending = none) : endingBegun s = false := by simp [endingBegun, unended]

/-- The abort of a weld is passed on but in CLOSING and behind a begun ending (R117, R164). -/
theorem passAbort_weld (runs : executing s = some o) (names : target = 255 ∨ o.tag = target) (welds : o.kind.isWeld = true) :
    passAbort target s =
      if s.wsq.phase = some .closing ∨ endingBegun s then s else tryAbort .abortOrder (fileAbortOrder s) := by
  have named' : named target o = true := (named_iff target o).mpr names
  simp only [passAbort, runs, named', welds]
  rfl

theorem passAbort_clamp (runs : executing s = some o) (names : target = 255 ∨ o.tag = target) (other : o.kind.isWeld = false) :
    passAbort target s = abortClamp s := by
  have named' : named target o = true := (named_iff target o).mpr names
  simp only [passAbort, runs, named', other]
  rfl

section
variable (now : takesOrdersNow s) (exists' : target < 16 ∨ target = 255) (runs : executing s = some o)
  (names : target = 255 ∨ o.tag = target)
include now exists' runs names

/-- An ABORT of the weld in progress, before CLOSING: its path begins, the answer is STARTED. -/
theorem abort_weld (welds : o.kind.isWeld = true) (phase : s.wsq.phase = some p) (before : p ≠ .closing)
    (going : s.wsq.abort = none) (unended : s.wsq.ending = none) :
    ∃ a x q l, AbortBegun s a p ∧
      exec (.abort src tag target) s =
        .next (endAborted (if p = .check then some .notStarted else none)
          { beginPath .abortOrder p a with lkc.wait := x, lkc.queue := q, lkc.waiters := l }) ∧
      q ++ l = outgoing (beginPath .abortOrder p a) ++ s.abortFrames src tag target 1 := by
  obtain ⟨w, i, v, x, q, l, passed, run, joined⟩ := abort_runs (src := src) (tag := tag) now exists'
  have unbegun := endingBegun_unended unended
  have named' : named target o = true := (named_iff target o).mpr names
  have begun := abortBegun (target := target) phase before w i runs
  have other : s.wsq.phase ≠ some .closing := by rw [phase]; exact fun e => before (Option.some.inj e)
  have passes : v = beginPath .abortOrder p ((fileAbortOrder ((s.forOrder w i).withoutNamed target)).abortStarts .abortOrder p) := by
    have still := executing_withoutNamed (target := target) (s := s.forOrder w i) runs
    obtain ⟨r, e, -⟩ := fileAbortOrder_eq (s := (s.forOrder w i).withoutNamed target) phase before
    have starts : tryAbort .abortOrder (fileAbortOrder ((s.forOrder w i).withoutNamed target)) = _ :=
      tryAbort_starts (p := p) (by rw [e]; exact phase) before (by rw [e]; exact going) (by rw [e]; exact unbegun)
    rw [passed, ← starts, passAbort_weld still names welds, if_neg]
    rintro (closes | ended)
    · exact other closes
    · have same : endingBegun s = true := ended
      rw [unbegun] at same
      cases same
  have head : headResult target s = .started := by
    simp [headResult, runs, named', welds, other, State.aborting, going, unbegun]
  have outcome : abortOutcome target s = if p = .check then some .notStarted else none := by
    have may : mayAbort s = true := (mayAbort_iff s).mpr ⟨⟨p, phase, before⟩, going, unbegun⟩
    simp [abortOutcome, runs, named', welds, phase, may]
  refine ⟨_, x, q, l, begun, ?_, ?_⟩
  · rw [run, outcome, passes]
  · rw [joined, head, passes]
    rfl

/-- The ABORT finds a path under way: it is filed (R117, R124). -/
theorem abort_filed (welds : o.kind.isWeld = true) (phase : s.wsq.phase = some p) (before : p ≠ .closing)
    (aborts : s.wsq.abort.isSome = true) (unbegun : ∀ e, s.wsq.ending = some e → e.begun = false) :
    completes (.abort src tag target) s fun t =>
      t.wsq = { s.wsq with idleTimer := t.wsq.idleTimer } ∧
        outgoing t = outgoing s ++ s.abortFrames src tag target 2 ∧ (s.wrs.working = none → t.wrs = s.wrs) ∧
        (∀ w, s.wrs.working = some w → w.record.faults.length < 6 →
          t.wrs = { s.wrs with
            working := some { w with
              record := { w.record with
                faults := w.record.faults ++ [⟨.abortOrder, .abort, p, s.now - w.openedAt⟩] } } }) ∧
        sameBase s t ∧ sameHead s t ∧ t.sht = s.sht ∧ t.stl = s.stl := by
  obtain ⟨w, i, v, x, q, l, passed, run, joined⟩ := abort_runs (src := src) (tag := tag) now exists'
  have named' : named target o = true := (named_iff target o).mpr names
  have other : s.wsq.phase ≠ some .closing := by rw [phase]; exact fun e => before (Option.some.inj e)
  have open' : endingBegun s = false := by
    cases ending : s.wsq.ending with
    | none => exact endingBegun_unended ending
    | some e => simp [endingBegun, ending, unbegun e ending]
  have may_not : mayAbort s = false := by simp [mayAbort, State.aborting, aborts]
  obtain ⟨r, e, unopened, filed⟩ := fileAbortOrder_eq (s := (s.forOrder w i).withoutNamed target) phase before
  have still := executing_withoutNamed (target := target) (s := s.forOrder w i) runs
  have passes : v = { (s.forOrder w i).withoutNamed target with wrs.working := r } := by
    have stays : tryAbort .abortOrder (fileAbortOrder ((s.forOrder w i).withoutNamed target)) =
        fileAbortOrder ((s.forOrder w i).withoutNamed target) := by
      have may_not' : mayAbort (fileAbortOrder ((s.forOrder w i).withoutNamed target)) = false := by rw [e]; exact may_not
      unfold tryAbort
      split
      · rfl
      · exact if_neg (by rw [may_not']; decide)
    rw [passed, ← e, ← stays, passAbort_weld still names welds, if_neg]
    rintro (closes | ended)
    · exact other closes
    · have same : endingBegun s = true := ended
      rw [open'] at same
      cases same
  have head : headResult target s = .already := by
    simp [headResult, runs, named', welds, other, State.aborting, aborts]
  have outcome : abortOutcome target s = none := by
    simp [abortOutcome, runs, named', welds, may_not]
  rw [outcome, passes] at run
  rw [head, passes] at joined
  refine ⟨_, run, rfl, joined, fun none_open => ?_, fun v opened room => ?_, ⟨rfl, rfl, rfl, rfl, rfl⟩, ⟨rfl, rfl, rfl, rfl⟩, rfl, rfl⟩
  · have same := unopened none_open
    subst same
    show { s.wrs with working := none } = s.wrs
    rw [← none_open]
  · have same := filed v opened room
    subst same
    rfl

/-- The ABORT comes to CLOSING or behind a begun ending: the weld goes on (R117, R164). -/
theorem abort_unheeded (welds : o.kind.isWeld = true) (late : s.wsq.phase = some .closing ∨ endingBegun s = true) :
    completes (.abort src tag target) s fun t =>
      t.wsq = { s.wsq with idleTimer := t.wsq.idleTimer } ∧
        outgoing t = outgoing s ++ s.abortFrames src tag target (if s.wsq.phase = some .closing then 3 else 2) ∧
        sameBase s t ∧ sameHead s t ∧ t.sht = s.sht ∧ t.wrs = s.wrs ∧ t.stl = s.stl := by
  obtain ⟨w, i, v, x, q, l, passed, run, joined⟩ := abort_runs (src := src) (tag := tag) now exists'
  have named' : named target o = true := (named_iff target o).mpr names
  have still := executing_withoutNamed (target := target) (s := s.forOrder w i) runs
  have passes : v = (s.forOrder w i).withoutNamed target := by
    rw [passed, passAbort_weld still names welds]
    exact if_pos late
  have head : (headResult target s).code = if s.wsq.phase = some .closing then 3 else 2 := by
    by_cases closes : s.wsq.phase = some .closing
    · simp [headResult, runs, named', welds, closes, HeadResult.code]
    · have begun : endingBegun s = true := late.resolve_left closes
      simp [headResult, runs, named', welds, closes, begun, HeadResult.code]
  have outcome : abortOutcome target s = none := by
    have may_not : ¬(s.wsq.phase = some .check ∧ mayAbort s = true) := by
      rintro ⟨check, may⟩
      obtain ⟨-, -, unbegun⟩ := (mayAbort_iff s).mp may
      obtain closes | begun := late
      · rw [check] at closes
        cases closes
      · rw [unbegun] at begun
        cases begun
    simp [abortOutcome, runs, named', welds, may_not]
  rw [outcome, passes] at run
  rw [head, passes] at joined
  exact ⟨_, run, rfl, joined, ⟨rfl, rfl, rfl, rfl, rfl⟩, ⟨rfl, rfl, rfl, rfl⟩, rfl, rfl, rfl⟩

end

/-! ### The paths (R119 to R121) -/

/-- What every path of an abort in a phase from PREHEAT on leaves. -/
structure AbortPath (a t : State) : Prop where
  base : sameBase a t
  cause : t.abortOf = a.abortOf
  faults : t.wrs.working.map (·.record.faults) = a.wrs.working.map (·.record.faults)
  peers : t.sht.peers = a.sht.peers
  flash : t.flash = a.flash
  tru : t.tru = a.tru

theorem AbortPath.refl (a : State) : AbortPath a a := ⟨⟨rfl, rfl, rfl, rfl, rfl⟩, rfl, rfl, rfl, rfl, rfl⟩

theorem faults_of_entries {x y : Option WorkingRecord}
    (h : x.map (fun w => (w.record.faults, w.quality)) = y.map fun w => (w.record.faults, w.quality)) :
    x.map (·.record.faults) = y.map (·.record.faults) := by
  have firsts := congrArg (Option.map Prod.fst) h
  simpa [Option.map_map, Function.comp_def] using firsts

theorem PathWork.abortPath {a t : State} (h : PathWork a t) (aborts : a.aborting = true) : AbortPath a t where
  base := h.base
  cause := h.cause
  faults := faults_of_entries h.faults
  peers := by rw [h.sht]
  flash := h.flash aborts
  tru := h.tru

theorem enterClosing_abort (s : State) : (enterClosing s).wsq.abort = s.wsq.abort := by
  obtain unopened | ⟨w, opened⟩ := Option.eq_none_or_eq_some s.wrs.working
  · rw [enterClosing_unopened unopened, enterPhase_eq]
  · rw [enterClosing_opened opened, enterPhase_eq]
    rfl

theorem enterCool_abort (s : State) : (enterCool s).wsq.abort = s.wsq.abort := by
  unfold enterCool endCool
  dsimp only
  split
  · rw [enterClosing_abort, enterPhase_eq]
  · rw [enterPhase_eq]

theorem enterCool_abortPath (a : State) : AbortPath a (enterCool a) where
  base := (enterCool_later a).base
  cause := by rw [State.abortOf, enterCool_abort]; rfl
  faults := faults_of_entries (enterCool_later a).faults
  peers := by rw [(enterCool_later a).sht]
  flash := by simp
  tru := by simp

theorem beginPath_abortPath {a : State} (aborts : a.aborting = true)
    (late : p ∈ [WeldPhase.preheat, .flash, .boost, .upset, .hold, .trim, .cool]) :
    AbortPath a (beginPath .abortOrder p a) := by
  have flashes : AbortPath a (abortFlash a) :=
    let path := (abortFlash_path a).abortPath (by exact aborts)
    ⟨path.base, path.cause, path.faults, path.peers, path.flash, path.tru⟩
  cases p with
  | preheat | flash | boost => exact flashes
  | upset =>
    obtain ⟨u, path, e⟩ := abortUpset_path a
    have kept := path.abortPath aborts
    show AbortPath a (abortUpset a)
    rw [e]
    exact ⟨kept.base, kept.cause, kept.faults, kept.peers, kept.flash, kept.tru⟩
  | trim =>
    show AbortPath a (abortTrim a)
    unfold abortTrim
    split
    · exact .refl a
    · exact enterCool_abortPath a
  | hold | cool => exact .refl a
  | check | touch | claimWait | closing => simp at late

/-! ### PREHEAT, FLASH and BOOST (R119) -/

/-- The abort retract of a station that is neither held nor barred. -/
theorem beginRetract_free (free : s.motionHeld = false) (unbarred : s.wsq.barred = false) (runs : s.stl.stop = .run) :
    let target := clampInt 0 s.loc.strokeFwd (s.pcu.position - s.loc.abortRetract)
    ∃ x, beginRetract s = { setStep (.retracting target) s with pcu := x } ∧ x.mode = .retract target ∧
      x.moveTimer = some s.loc.moveTimeoutMs := by
  intro target
  have begins : beginRetract s = platenRetract s.loc.abortRetract (setStep (.retracting target) s) := by
    rw [beginRetract, if_neg (by rw [free]; decide), if_neg (by rw [unbarred]; decide)]
    rfl
  refine ⟨_, begins.trans (platenRetract_eq _ _), platenRetract_mode _ runs, ?_⟩
  rw [platenRetract, platenMove, if_pos (by exact runs)]
  rfl

/-- The retract of an abort by order, from a state that the end of current has left. -/
theorem AbortBegun.retracts {a y : State} {step : AbortStep} (h : AbortBegun s a p) (free : s.motionHeld = false)
    (unbarred : s.wsq.barred = false) (runs : s.stl.stop = .run) (phase : s.wsq.phase = some p)
    (wsq : y.wsq = { a.wsq with abort := some ⟨.abortOrder, p, step⟩ }) (position : y.pcu.position = a.pcu.position)
    (stop : y.stl.stop = a.stl.stop) (settings : y.settings = a.settings) :
    let target := clampInt 0 s.loc.strokeFwd (s.pcu.position - s.loc.abortRetract)
    let t := beginRetract y
    t.wsq.phase = some p ∧ t.wsq.abort = some ⟨.abortOrder, p, .retracting target⟩ ∧ t.pcu.mode = .retract target ∧
      t.pcu.moveTimer = some s.loc.moveTimeoutMs ∧ t.sht = y.sht ∧ t.cdr = y.cdr := by
  obtain ⟨-, -, settings', -⟩ := h.base
  have weld := h.wsq
  have loc : y.loc = s.loc := by rw [State.loc, settings, settings']; rfl
  have held : y.motionHeld = false := by rw [← free, State.motionHeld, wsq, weld]; rfl
  have barred : y.wsq.barred = false := by rw [wsq, weld]; exact unbarred
  obtain ⟨x, e, mode, timer⟩ := beginRetract_free held barred (by rw [stop, h.stl]; exact runs)
  rw [loc, position, h.pcu] at e mode
  rw [loc] at timer
  intro target t
  have begins : t = _ := e
  rw [begins]
  refine ⟨?_, ?_, mode, timer, rfl, rfl⟩
  · show y.wsq.phase = _
    rw [wsq, weld]
    exact phase
  · show y.wsq.abort.map _ = _
    rw [wsq]
    rfl

/-- A running drive is asked for a normal OFF, for which the path waits. -/
theorem abortFlash_running {a : State} (runs : a.cdr.drive = .running) (timed : a.cdr.mode ≠ .off) :
    abortFlash a = { setStep .driveIdle (platenHold a) with cdr.offPending := true } := by
  have waits : abortFlash a = normalOff (setStep .driveIdle (platenHold a)) := if_pos ⟨timed, by rw [runs]; decide⟩
  have runs' : (setStep .driveIdle (platenHold a)).cdr.drive = .running := runs
  rw [waits, normalOff]
  simp only [runs']

/-- A READY drive goes off at once, and the path goes on. -/
theorem abortFlash_ready {a : State} (flashes : flashPhase p) (phase : a.wsq.phase = some p)
    (abort : a.wsq.abort = some ⟨.abortOrder, p, .runOn⟩) (ready : a.cdr.drive = .ready) (timed : a.cdr.mode ≠ .off) :
    ∃ y, abortFlash a = beginRetract y ∧ y.wsq = { a.wsq with abort := some ⟨.abortOrder, p, .driveIdle⟩ } ∧
      y.pcu.position = a.pcu.position ∧ y.stl.stop = a.stl.stop ∧ y.settings = a.settings ∧
      y.sht.claims = removeClaim a.node a.sht.claims ∧ y.cdr.isOff := by
  have waits : awaitsDriveOff (setStep .driveIdle (platenHold a)) = true := by
    rcases flashes with rfl | rfl | rfl <;> simp [awaitsDriveOff, setStep, abort, phase]
  have aborts : (setStep .driveIdle (platenHold a)).aborting = true := by simp [State.aborting, setStep, abort]
  have ends : abortFlash a = driveOff (setStep .driveIdle (platenHold a)) := by
    rw [abortFlash, if_pos ⟨timed, by rw [ready]; decide⟩, normalOff]
    have ready' : (setStep .driveIdle (platenHold a)).cdr.drive = .ready := ready
    simp only [ready']
  have off := blockDrive_isOff (setStep .driveIdle (platenHold a))
  have weld : (setStep .driveIdle (platenHold a)).wsq = { a.wsq with abort := some ⟨.abortOrder, p, .driveIdle⟩ } := by
    simp [setStep, abort]
  have stopped : (timingStopped (blockDrive (setStep .driveIdle (platenHold a)))).pcu = (platenHold a).pcu :=
    (timingStopped_aborting (by simpa [State.aborting] using aborts)).trans (by simp)
  have claims := yieldClaim_claims (timingStopped (blockDrive (setStep .driveIdle (platenHold a))))
  refine ⟨_, ends.trans (driveOff_awaited waits), ?_, ?_, ?_, ?_, ?_, ?_⟩
  · simpa using weld
  · rw [(yieldClaim_only _).calm (by simpa [State.aborting] using aborts), stopped]
    rfl
  · simp
  · simp
  · simpa using claims
  · simpa using off

/-- With the drive idle, the path goes on at once. -/
theorem abortFlash_idle {a : State} (aborts : a.aborting = true) (idle : a.cdr.mode = .off ∨ a.cdr.drive = .blocked)
    (still : a.cdr.drive ≠ .running) :
    ∃ y, abortFlash a = beginRetract y ∧ y.wsq = a.wsq ∧ y.pcu.position = a.pcu.position ∧ y.stl.stop = a.stl.stop ∧
      y.settings = a.settings ∧ y.sht.claims = removeClaim a.node a.sht.claims ∧ y.cdr = a.cdr := by
  have ends : abortFlash a = beginRetract (yieldOwn (platenHold a)) := if_neg fun both => idle.elim both.1 both.2
  have quiet : yieldOwn (platenHold a) = yieldClaim (platenHold a) := if_neg fun lost => still (by simpa using lost.1)
  have claims := yieldClaim_claims (platenHold a)
  refine ⟨_, ends, ?_⟩
  rw [quiet]
  refine ⟨by simp, ?_, by simp, by simp, by simpa using claims, by simp⟩
  rw [(yieldClaim_only _).calm (by simpa [State.aborting] using aborts)]
  rfl

/-- The abort path of a phase with current before UPSET, in a station that may move (R119). -/
theorem AbortBegun.flash_goes {a : State} (h : AbortBegun s a p) (flashes : flashPhase p) (phase : s.wsq.phase = some p)
    (free : s.motionHeld = false) (runs : s.stl.stop = .run) (unbarred : s.wsq.barred = false) :
    let target := clampInt 0 s.loc.strokeFwd (s.pcu.position - s.loc.abortRetract)
    let t := beginPath .abortOrder p a
    t.wsq.phase = some p ∧
      (s.cdr.drive = .running → s.cdr.mode ≠ .off →
        t.wsq.abort = some ⟨.abortOrder, p, .driveIdle⟩ ∧ t.cdr = { s.cdr with offPending := true } ∧ t.pcu.mode = .hold ∧
          outgoing t = outgoing s ∧ t.sht = s.sht) ∧
      (s.cdr.drive ≠ .running →
        t.wsq.abort = some ⟨.abortOrder, p, .retracting target⟩ ∧ t.pcu.mode = .retract target ∧
          t.pcu.moveTimer = some s.loc.moveTimeoutMs ∧ t.sht.claims = s.sht.claims.filter (·.station ≠ s.node) ∧
          (s.cdr.drive = .blocked → t.cdr = s.cdr) ∧
          (s.cdr.drive = .ready → s.cdr.mode ≠ .off → t.cdr.drive = .blocked ∧ t.cdr.mode = .off)) := by
  have weld := h.wsq
  have abort : a.wsq.abort = some ⟨.abortOrder, p, .runOn⟩ := by rw [weld]
  have phase' : a.wsq.phase = some p := by rw [weld]; exact phase
  have node : a.node = s.node := h.base.2.1
  intro target t
  have begins : t = abortFlash a := beginPath_flashPhase flashes _ _
  have kept : (abortFlash a).wsq.phase = some p := by
    have path := (abortFlash_path a).unclosed (.inl (by rw [← unbarred]; exact congrArg (·.barred) weld))
    rw [path.1]
    exact phase'
  have gone : removeClaim a.node a.sht.claims = s.sht.claims.filter (·.station ≠ s.node) := by
    rw [node, h.sht, removeClaim_eq_filter]
  rw [begins]
  refine ⟨kept, fun drives timed => ?_, fun still => ?_⟩
  · rw [abortFlash_running (by rw [h.cdr]; exact drives) (by rw [h.cdr]; exact timed), ← h.cdr, ← h.sht, ← h.frames]
    refine ⟨?_, rfl, platenHold_mode a, rfl, rfl⟩
    show a.wsq.abort.map _ = _
    rw [abort]
    rfl
  · by_cases ready : s.cdr.drive = .ready ∧ s.cdr.mode ≠ .off
    · obtain ⟨y, e, wsq, position, stop, settings, claims, off⟩ :=
        abortFlash_ready flashes phase' abort (by rw [h.cdr]; exact ready.1) (by rw [h.cdr]; exact ready.2)
      obtain ⟨-, step, mode, timer, sht, cdr⟩ := h.retracts free unbarred runs phase wsq position stop settings
      rw [e, sht, cdr]
      exact ⟨step, mode, timer, claims.trans gone, fun blocked => (by rw [ready.1] at blocked; cases blocked),
        fun _ _ => ⟨off.1, off.2.1⟩⟩
    · have idle : a.cdr.mode = .off ∨ a.cdr.drive = .blocked := by
        rw [h.cdr]
        cases drive : s.cdr.drive with
        | running => exact absurd drive still
        | blocked => exact .inr rfl
        | ready => exact .inl (by simpa [drive] using ready)
      obtain ⟨y, e, wsq, position, stop, settings, claims, cdr'⟩ :=
        abortFlash_idle (a := a) (by simp [State.aborting, abort]) idle (by rw [h.cdr]; exact still)
      obtain ⟨-, step, mode, timer, sht, cdr⟩ :=
        h.retracts free unbarred runs phase (wsq.trans (by rw [← abort])) position stop settings
      rw [e, sht, cdr]
      exact ⟨step, mode, timer, claims.trans gone, fun _ => cdr'.trans h.cdr, fun r m => absurd ⟨r, m⟩ ready⟩

/-! ### UPSET to COOL (R120, R121) -/

/-- The forge runs on under a fresh time limit (R120). -/
theorem AbortBegun.upset_goes {a : State} (h : AbortBegun s a .upset) (phase : s.wsq.phase = some .upset)
    (free : s.motionHeld = false) :
    let t := beginPath .abortOrder .upset a
    t.wsq.phase = some .upset ∧ t.wsq.abort = some ⟨.abortOrder, .upset, .runOn⟩ ∧ t.wsq.upsetMark = false ∧
      t.wsq.upsetTimer = some s.sched.upsetTimeMs ∧ t.pcu = s.pcu ∧
      (s.wsq.upsetMark = false → t.cdr = s.cdr ∧ outgoing t = outgoing s ∧ t.sht = s.sht) ∧
      (s.wsq.upsetMark = true → t.sht.claims = s.sht.claims.filter (·.station ≠ s.node) ∧
        (s.cdr.drive ≠ .blocked → t.cdr.drive = .blocked ∧ t.cdr.mode = .off)) := by
  have weld := h.wsq
  have node := h.base.2.1
  have phase' : a.wsq.phase = some .upset := by rw [weld]; exact phase
  have aborts : a.aborting = true := by rw [State.aborting, weld]; rfl
  have only := endUpsetCurrent_only (awaitsDriveOff_upset phase')
  have timer : (if a.motionHeld then none else some a.sched.upsetTimeMs) = some s.sched.upsetTimeMs := by
    rw [if_neg (by rw [h.motionHeld, free]; decide), h.sched]
  have goes : beginPath .abortOrder .upset a =
      { endUpsetCurrent a with wsq.upsetTimer := if a.motionHeld then none else some a.sched.upsetTimeMs } := rfl
  have mark : a.wsq.upsetMark = s.wsq.upsetMark := by rw [weld]
  rw [goes]
  refine ⟨?_, ?_, ?_, timer, (only.calm aborts).trans h.pcu, fun unmarked => ?_, fun marked => ⟨?_, fun drives => ?_⟩⟩
  · exact (congrArg (·.phase) only.wsq).trans phase'
  · exact (congrArg (·.abort) only.wsq).trans (congrArg (·.abort) weld)
  · exact congrArg (·.upsetMark) only.wsq
  · have stays : endUpsetCurrent a = a := if_neg (by rw [mark, unmarked]; decide)
    rw [stays]
    exact ⟨h.cdr, h.frames, h.sht⟩
  · have ends : endUpsetCurrent a = yieldOwn (normalOff { a with wsq.upsetMark := false }) := if_pos (mark.trans marked)
    show (endUpsetCurrent a).sht.claims = _
    rw [ends, (normalOff_path { a with wsq.upsetMark := false }).yieldOwn_claims, removeClaim_eq_filter]
    show a.sht.claims.filter _ = _
    simp [h.sht, node]
  · obtain ⟨mode, drive⟩ := endUpsetCurrent_off (mark.trans marked) (by rw [h.cdr]; exact drives)
    exact ⟨drive, mode⟩

/-- HOLD and COOL run on, and TRIM does where a stroke is under way (R121). -/
theorem AbortBegun.runs_on {a : State} (h : AbortBegun s a p) (phase : s.wsq.phase = some p)
    (on' : p ∈ [WeldPhase.hold, .cool] ∨
      (p = .trim ∧ (s.tru.state = .advancing ∨ s.tru.state = .atEnd ∨ s.tru.state = .returning))) :
    let t := beginPath .abortOrder p a
    t.wsq.phase = some p ∧ t.wsq.abort = some ⟨.abortOrder, p, .runOn⟩ ∧ t.wsq.holdTimer = s.wsq.holdTimer ∧
      t.wsq.coolTimer = s.wsq.coolTimer ∧ t.pcu = s.pcu ∧ t.cdr = s.cdr ∧ outgoing t = outgoing s ∧ t.sht = s.sht := by
  have weld := h.wsq
  have stays : beginPath .abortOrder p a = a := by
    obtain runs | ⟨rfl, stroke⟩ := on'
    · simp only [List.mem_cons, List.not_mem_nil, or_false] at runs
      rcases runs with rfl | rfl <;> rfl
    · have under_way : strokeUnderWay a = true := by
        rw [strokeUnderWay, h.tru]
        simpa [or_assoc] using stroke
      exact if_pos (by rw [under_way]; rfl)
  rw [stays]
  exact ⟨by rw [weld]; exact phase, by rw [weld], by rw [weld], by rw [weld], h.pcu, h.cdr, h.frames, h.sht⟩

/-- TRIM with no stroke under way ends in COOL (R121). -/
theorem AbortBegun.trim_cools {a : State} (h : AbortBegun s a .trim)
    (idle : ¬(s.tru.state = .advancing ∨ s.tru.state = .atEnd ∨ s.tru.state = .returning)) (free : s.motionHeld = false)
    (lasts : s.sched.coolS ≠ 0) :
    let t := beginPath .abortOrder .trim a
    t.wsq.phase = some .cool ∧ t.wsq.abort = some ⟨.abortOrder, .trim, .runOn⟩ ∧
      t.wsq.coolTimer = some (s.sched.coolS * 1000) ∧ t.pcu.mode = s.pcu.mode ∧ t.cdr = s.cdr ∧ outgoing t = outgoing s ∧
      t.sht = s.sht := by
  have weld := h.wsq
  have none_under_way : strokeUnderWay a = false := by
    rw [strokeUnderWay, h.tru]
    simpa [not_or, and_assoc] using idle
  have held : a.motionHeld = false := h.motionHeld.trans free
  have cools : beginPath .abortOrder .trim a = enterCool a := if_neg (by rw [none_under_way, held]; decide)
  obtain ⟨phase, timer, -⟩ := enterCool_lasts (s := a) (by rw [h.sched]; exact lasts)
  have mode : (enterCool a).pcu.mode = a.pcu.mode := by
    unfold enterCool
    rw [if_neg (by rw [h.sched]; exact lasts), enterPhase_eq]
  have later := enterCool_later a
  have frames : outgoing (enterCool a) = outgoing a := by rw [outgoing, later.lkc]; rfl
  rw [cools]
  exact ⟨phase, (enterCool_abort a).trans (by rw [weld]), by rw [timer, h.sched], by rw [mode, h.pcu], later.cdr.trans h.cdr,
    frames.trans h.frames, later.sht.trans h.sht⟩

/-! ### CHECK, TOUCH and CLAIM_WAIT (R118) -/

/-- CHECK is left at once; its order still executes (R118, R164). -/
theorem AbortBegun.check_leaves {a : State} (h : AbortBegun s a .check) (welds : s.wsq.station = .welding) :
    let t := beginPath .abortOrder .check a
    t.wsq.phase = none ∧ t.wsq.station = .clamped ∧ t.wsq.weldNo = none ∧ t.pcu.shoe = none ∧ sameBase s t ∧
      outgoing t = outgoing s ∧ executing t = executing s := by
  have weld := h.wsq
  have leaves : beginPath .abortOrder .check a = leaveWeld (stopShoes a) := rfl
  have station : (stopShoes a).motionHeld = false := by
    show a.motionHeld = false
    rw [h.motionHeld, State.motionHeld, welds]
    rfl
  obtain ⟨clamped, number, -⟩ := leaveWeld_wsq_eq station
  rw [leaves]
  refine ⟨leaveWeld_phase _, clamped, number, (leaveWeld_shoes _).1, ?_, ?_, ?_⟩
  · exact sameBase_trans h.base (by simp [sameBase])
  · rw [← h.frames]
    simp [outgoing]
  · rw [← h.runs]
    simp [executing]

/-- A NOT_STARTED ending by order of a station that may move begins its retract. -/
theorem abortBeforeCurrent_free (free : s.motionHeld = false) :
    abortBeforeCurrent .abortOrder s = beginEnding .aborted s := by
  rw [abortBeforeCurrent, if_neg (by decide), if_neg (by rw [free]; decide)]
  rfl

/-- TOUCH ends after a retract to the CHECK position (R118). -/
theorem AbortBegun.touch_ends {a : State} (h : AbortBegun s a .touch) (free : s.motionHeld = false) (runs : s.stl.stop = .run) :
    let t := beginPath .abortOrder .touch a
    t.wsq.ending = some ⟨.aborted, true, true⟩ ∧
      t.pcu.mode = .position (clampInt 0 s.loc.strokeFwd s.wsq.checkPos) ∧ t.pcu.moveTimer = some s.loc.moveTimeoutMs ∧
      t.pcu.contactMove = .none ∧ t.pcu.contactSense = false ∧ outgoing t = outgoing s ∧ sameBase s t ∧ t.cdr = s.cdr ∧
      t.stl = s.stl ∧ t.sht = s.sht ∧ t.wrs.slots = s.wrs.slots := by
  have check : a.wsq.checkPos = s.wsq.checkPos := by rw [h.wsq]
  have ends : beginPath .abortOrder .touch a = _ := (abortBeforeCurrent_free (s := platenHold a)
    (h.motionHeld.trans free)).trans (beginEnding_eq (by show a.stl.stop = _; rw [h.stl]; exact runs) .aborted)
  rw [ends, ← h.loc, ← check]
  exact ⟨rfl, rfl, rfl, rfl, rfl, h.frames, h.base, h.cdr, h.stl, h.sht, h.slots⟩

/-- CLAIM_WAIT ends in the same way, with its claim withdrawn (R118, R135). -/
theorem AbortBegun.claimWait_ends {a : State} (h : AbortBegun s a .claimWait) (phase : s.wsq.phase = some .claimWait)
    (free : s.motionHeld = false) (runs : s.stl.stop = .run) :
    let t := beginPath .abortOrder .claimWait a
    t.wsq.ending = some ⟨.aborted, true, true⟩ ∧
      t.pcu.mode = .position (clampInt 0 s.loc.strokeFwd s.wsq.checkPos) ∧ t.pcu.moveTimer = some s.loc.moveTimeoutMs ∧
      t.sht.claims = s.sht.claims.filter (·.station ≠ s.node) ∧ sameBase s t ∧ t.sht.peers = s.sht.peers ∧
      t.wrs.slots = s.wrs.slots := by
  have path := yieldOwn_path a
  have weld := h.wsq
  have only := yieldOwn_only (s := a) (by
    have phase' : a.wsq.phase = some .claimWait := by rw [weld]; exact phase
    simp [awaitsDriveOff, phase'])
  have claims := yieldOwn_claims a
  have free' : (yieldOwn a).motionHeld = false := path.motionHeld.trans (h.motionHeld.trans free)
  have check : (yieldOwn a).wsq.checkPos = s.wsq.checkPos := by rw [only.wsq, weld]
  obtain ⟨-, -, settings, -⟩ := path.base
  have loc : (yieldOwn a).loc = s.loc := by rw [← h.loc, State.loc, settings]; rfl
  have ends : beginPath .abortOrder .claimWait a = _ := (abortBeforeCurrent_free (s := yieldOwn a) free').trans
    (beginEnding_eq (by rw [path.stop, h.stl]; exact runs) .aborted)
  rw [ends, ← loc, ← check]
  refine ⟨rfl, rfl, rfl, ?_, sameBase_trans h.base path.base, ?_, path.store.1.trans h.slots⟩
  · rw [← removeClaim_eq_filter, ← h.base.2.1, ← h.sht]
    exact claims
  · show (yieldOwn a).sht.peers = _
    rw [path.sht, ← h.sht]

/-! ### CLAMP and UNCLAMP (R5) -/

/-- The clamps on their way in the other direction. -/
def Pcu.reversed (st : ClampState) (v : ClampValve) (limit : Nat) (x : Pcu) : Pcu :=
  { x with
    clamp := some st, clampValve := v, clampTimer := some limit, stopped := false, reversal := true, topUp := false
    slip := .disarmed, slipCount := 0 }

theorem abortClamp_reopens (clamps : s.wsq.station = .clamping) (closes : s.pcu.clamp = some .closing)
    (still : s.cdr.drive ≠ .running) :
    abortClamp s = { s with wsq.clampFail := none, pcu := s.pcu.reversed .opening .open s.loc.clampTimeoutMs } := by
  have opens : openRequest true { s with wsq.clampFail := none } =
      { s with wsq.clampFail := none, pcu := s.pcu.reversed .opening .open s.loc.clampTimeoutMs } := by
    simp only [openRequest, closes]
    rfl
  rw [abortClamp, if_pos clamps, opens]
  exact if_neg fun lost => still lost.1

theorem abortClamp_recloses (unclamps : s.wsq.station = .unclamping) (opens : s.pcu.clamp = some .opening) :
    abortClamp s = { s with wsq.clampFail := none, pcu := s.pcu.reversed .closing .close s.loc.clampTimeoutMs } := by
  have closes : closeRequest true { s with wsq.clampFail := none } =
      { s with wsq.clampFail := none, pcu := s.pcu.reversed .closing .close s.loc.clampTimeoutMs } := by
    simp only [closeRequest, opens]
    rfl
  rw [abortClamp, if_neg (by rw [unclamps]; decide), closes]

/-- The head order has ended, and no order behind it executes. -/
theorem executing_endOrder_sound {rest : List QueuedOrder} (head : s.orq.queue = o :: rest) (runs : o.status = .executing)
    (waits : ∀ x ∈ rest, x.status = .waiting) (outcome : OrderOutcome) (reason : Reason) (weldNo : Option Nat) :
    executing (endOrder outcome reason weldNo s) = none := by
  rw [executing, Option.filter_eq_none_iff]
  intro x first
  obtain left | ended := endOrder_queue head runs outcome reason weldNo
  · rw [left] at first
    rw [waits x (List.mem_of_mem_head? first)]
    decide
  · rw [ended] at first
    cases first
    nofun

/-- An executing CLAMP or UNCLAMP that the abort reverses ends FAILED with ABORTED, behind the frames of the ABORT. -/
theorem abort_reverses (now : takesOrdersNow s) (exists' : target < 16 ∨ target = 255) (runs : executing s = some o)
    (names : target = 255 ∨ o.tag = target) (other : o.kind.isWeld = false) {x : Pcu}
    (reverses : ∀ w i, abortClamp ((s.forOrder w i).withoutNamed target) =
      { (s.forOrder w i).withoutNamed target with wsq.clampFail := none, pcu := x }) :
    completes (.abort src tag target) s fun t =>
      t.pcu = x ∧ t.wsq = { s.wsq with clampFail := none, idleTimer := t.wsq.idleTimer } ∧
        outgoing t = outgoing s ++ s.abortFrames src tag target 1 ++
          [⟨.notice, o.src, doneBody o.tag o.kind.code .failed .aborted none, .doneNotice⟩] ∧
        (s.ordersSound → executing t = none) ∧ sameBase s t ∧ t.cdr = s.cdr ∧ t.tru = s.tru ∧ t.flash = s.flash ∧
        t.stl = s.stl ∧ t.sht = s.sht ∧ t.wrs = s.wrs := by
  obtain ⟨w, i, v, y, q, l, passed, run, joined⟩ := abort_runs (src := src) (tag := tag) now exists'
  have named' : named target o = true := (named_iff target o).mpr names
  have still := executing_withoutNamed (target := target) (s := s.forOrder w i) runs
  have head : headResult target s = .started := by simp [headResult, runs, named', other]
  have outcome : abortOutcome target s = some .failed := by simp [abortOutcome, runs, named', other]
  rw [passAbort_clamp still names other, reverses] at passed
  rw [outcome] at run
  rw [head] at joined
  have executes : executing { v with lkc.wait := y, lkc.queue := q, lkc.waiters := l } = some o := by
    rw [passed]
    exact still
  have sent := outgoing_endOrder .failed .aborted none { v with lkc.wait := y, lkc.queue := q, lkc.waiters := l } o executes
  have frames : outgoing { v with lkc.wait := y, lkc.queue := q, lkc.waiters := l } = q ++ l := rfl
  rw [frames, joined] at sent
  refine ⟨_, run, ?_⟩
  have ends : endAborted (some .failed) { v with lkc.wait := y, lkc.queue := q, lkc.waiters := l } =
      endOrder .failed .aborted none { v with lkc.wait := y, lkc.queue := q, lkc.waiters := l } := rfl
  rw [ends]
  refine ⟨?_, ?_, ?_, fun sound => ?_, ?_, ?_, ?_, ?_, ?_, ?_, ?_⟩
  · simp [passed]
  · simp only [endOrder_frame, passed]
    rfl
  · rw [sent, passed]
    rfl
  · obtain ⟨first, status⟩ : s.orq.queue.head? = some o ∧ o.status = .executing := by simpa [executing] using runs
    obtain ⟨rest, queue⟩ := List.head?_eq_some_iff.mp first
    obtain ⟨-, -, waits, -⟩ := sound
    have stays : removable target o = false := by simp [removable, status]
    refine executing_endOrder_sound (o := o) (rest := rest.filter fun x => !removable target x) ?_ status (fun x member => ?_)
      _ _ _
    · rw [passed]
      simp [State.withoutNamed, State.forOrder, queue, stays]
    · exact waits x (by rw [queue]; exact (List.mem_filter.mp member).1)
  · simp [passed, sameBase, State.withoutNamed, State.forOrder]
  · simp [passed, State.withoutNamed, State.forOrder]
  · simp [passed, State.withoutNamed, State.forOrder]
  · simp [passed, State.withoutNamed, State.forOrder]
  · simp [passed, State.withoutNamed, State.forOrder]
  · simp [passed, State.withoutNamed, State.forOrder]
  · simp [passed, State.withoutNamed, State.forOrder]

end

/-- Settles O25. -/
theorem abortStopsTheExecutingOrder : Obligations.AbortStopsTheExecutingOrder := by
  intro src tag target s o now exists' runs names gone answer cancelled failed answered quiet withdrawn stepped retractTarget
    stroke toCheckPosition reversed
  refine ⟨fun p welds phase => ⟨fun late going unended => ?_, fun flashes going unended free stops unbarred => ?_,
    fun upsets going unended free stops => ?_, fun on' going unended => ?_, fun trims idle going unended free lasts => ?_,
    fun checks going unended station => ?_, fun touches going unended free stops => ?_,
    fun waits going unended free stops => ?_, fun before aborts unbegun => ?_, fun before begun => ?_, fun closes => ?_⟩,
    fun n kind clamps closing still => ?_, fun kind unclamps opening => ?_⟩
  · have before : p ≠ .closing := by rintro rfl; simp at late
    have unchecked : p ≠ .check := by rintro rfl; simp at late
    obtain ⟨a, x, q, l, begun, run, joined⟩ := abort_weld (src := src) (tag := tag) now exists' runs names welds phase before going unended
    have aborts : a.aborting = true := by rw [State.aborting, begun.wsq]; rfl
    have cause : a.abortOf = some (.abortOrder, p) := by rw [State.abortOf, begun.wsq]; rfl
    have path := beginPath_abortPath aborts late
    rw [if_neg unchecked] at run
    exact ⟨_, run, path.cause.trans cause, fun w opened room => path.faults.trans (begun.faults w opened room),
      ⟨_, joined⟩, sameBase_trans begun.base path.base, by rw [← begun.sht]; exact path.peers,
      (congrArg (·.step) path.flash).trans begun.flash.1, (congrArg (·.feed) path.flash).trans begun.flash.2.1,
      path.tru.trans begun.tru⟩
  · have three : flashPhase p := by simpa [flashPhase] using flashes
    have before : p ≠ .closing := by rintro rfl; simp at flashes
    have unchecked : p ≠ .check := by rintro rfl; simp at flashes
    obtain ⟨a, x, q, l, begun, run, joined⟩ := abort_weld (src := src) (tag := tag) now exists' runs names welds phase before going unended
    rw [if_neg unchecked] at run
    obtain ⟨kept, running, idle⟩ := begun.flash_goes three phase free stops unbarred
    refine ⟨_, run, kept, fun drives timed => ?_, idle⟩
    obtain ⟨step, cdr, mode, frames, sht⟩ := running drives timed
    exact ⟨step, cdr, mode, joined.trans (by rw [frames]; rfl), sht⟩
  · subst upsets
    obtain ⟨a, x, q, l, begun, run, joined⟩ := abort_weld (src := src) (tag := tag) now exists' runs names welds phase (by decide) going unended
    obtain ⟨kept, step, mark, timer, pcu, unmarked, marked⟩ := begun.upset_goes phase free
    refine ⟨_, run, kept, step, mark, timer, pcu, fun off => ?_, fun own set _ => marked set⟩
    obtain ⟨cdr, frames, sht⟩ := unmarked off
    exact ⟨cdr, joined.trans (by rw [frames]; rfl), sht⟩
  · have before : p ≠ .closing := by rintro rfl; simp at on'
    have unchecked : p ≠ .check := by rintro rfl; simp at on'
    obtain ⟨a, x, q, l, begun, run, joined⟩ := abort_weld (src := src) (tag := tag) now exists' runs names welds phase before going unended
    rw [if_neg unchecked] at run
    obtain ⟨kept, step, hold, cool, pcu, cdr, frames, sht⟩ := begun.runs_on phase on'
    exact ⟨_, run, kept, step, hold, cool, pcu, cdr, joined.trans (by rw [frames]; rfl), sht⟩
  · subst trims
    obtain ⟨a, x, q, l, begun, run, joined⟩ := abort_weld (src := src) (tag := tag) now exists' runs names welds phase (by decide) going unended
    obtain ⟨cool, step, timer, mode, cdr, frames, sht⟩ := begun.trim_cools idle free lasts
    exact ⟨_, run, cool, step, timer, mode, cdr, joined.trans (by rw [frames]; rfl), sht⟩
  · subst checks
    obtain ⟨a, x, q, l, begun, run, joined⟩ := abort_weld (src := src) (tag := tag) now exists' runs names welds phase (by decide) going unended
    obtain ⟨kept, clamped, number, shoe, base, frames, executes⟩ := begun.check_leaves station
    generalize beginPath .abortOrder .check a = b at run joined kept clamped number shoe base frames executes
    have sent := outgoing_endOrder .notStarted .aborted none { b with lkc.wait := x, lkc.queue := q, lkc.waiters := l } o
      (executes.trans runs)
    have ends : endAborted (some .notStarted) { b with lkc.wait := x, lkc.queue := q, lkc.waiters := l } =
        endOrder .notStarted .aborted none { b with lkc.wait := x, lkc.queue := q, lkc.waiters := l } := rfl
    rw [if_pos rfl, ends] at run
    refine ⟨_, run, by simpa using kept, by simpa using clamped, by simpa using number, by simpa using shoe,
      sameBase_trans base (by simp [sameBase]), ?_⟩
    rw [sent]
    show q ++ l ++ _ = _
    rw [joined, frames]
    rfl
  · subst touches
    obtain ⟨a, x, q, l, begun, run, joined⟩ := abort_weld (src := src) (tag := tag) now exists' runs names welds phase (by decide) going unended
    obtain ⟨ending, mode, timer, move, sense, frames, base, cdr, stl, sht, slots⟩ := begun.touch_ends free stops
    exact ⟨_, run, ⟨ending, mode, timer⟩, move, sense, joined.trans (by rw [frames]; rfl), base, cdr, stl, sht, slots⟩
  · subst waits
    obtain ⟨a, x, q, l, begun, run, joined⟩ := abort_weld (src := src) (tag := tag) now exists' runs names welds phase (by decide) going unended
    obtain ⟨ending, mode, timer, claims, base, peers, slots⟩ := begun.claimWait_ends phase free stops
    exact ⟨_, run, ⟨ending, mode, timer⟩, claims, ⟨_, joined⟩, base, peers, slots⟩
  · exact abort_filed now exists' runs names welds phase before aborts unbegun
  · obtain ⟨e, ending, set⟩ := begun
    have late : endingBegun s = true := by simp [endingBegun, ending, set]
    have open' : ¬s.wsq.phase = some .closing := by rw [phase]; exact fun e => before (Option.some.inj e)
    have heeded := abort_unheeded (src := src) (tag := tag) now exists' runs names welds (.inr late)
    rw [if_neg open'] at heeded
    exact heeded
  · subst closes
    have heeded := abort_unheeded (src := src) (tag := tag) now exists' runs names welds (.inl phase)
    rw [if_pos phase] at heeded
    exact heeded
  · exact abort_reverses now exists' runs names (by rw [kind]; rfl) fun w i =>
      abortClamp_reopens (s := (s.forOrder w i).withoutNamed target) clamps closing still
  · exact abort_reverses now exists' runs names (by rw [kind]; rfl) fun w i =>
      abortClamp_recloses (s := (s.forOrder w i).withoutNamed target) unclamps opening

end Sys2Proof.Machine

/-! STATUS (O27): the items of each part as R165 lists them. -/

namespace Sys2Proof.Machine

/-! ### The items of the parts -/

theorem beOpt_shownIf (k : Nat) (shown : Bool) (x : Option Nat) :
    beOpt k (shownIf shown x) = if shown then beOpt k x else beAbsent k := by
  cases shown <;> rfl

/-- With no own claim there is none that draws, so the reported flags are the four flags themselves. -/
theorem reportedFlags_beaconNow (s : State) :
    reportedFlags (beaconNow s) = beaconFlags s.ownClaim.isSome s.drawing s.wsq.isolated s.aborting := by
  have drawing : (s.ownClaim.isSome && s.drawing) = s.drawing := by
    cases own : s.ownClaim <;> simp [State.drawing, own]
  rw [reportedFlags, beaconNow, drawing]

theorem flatMap_four {α : Type} (f : Nat → List α) (n : Nat) :
    [n, n + 1, n + 2, n + 3].flatMap f = f n ++ f (n + 1) ++ f (n + 2) ++ f (n + 3) := by
  simp

/-- An entry of the peer table as STATUS(SHARE) shows it. -/
def entryBytes (s : State) (p : Nat) : List Byte := if p = s.node then selfEntry s else (peerOf s p).bytes

theorem sharePeers_eq (n : Nat) (s : State) :
    sharePeers n s = entryBytes s n ++ entryBytes s (n + 1) ++ entryBytes s (n + 2) ++ entryBytes s (n + 3) :=
  flatMap_four _ n

theorem shareClaims_eq (n : Nat) (s : State) :
    shareClaims n s =
      be 1 s.sht.claims.length ++ claimBytes s.sht.claims[n]? ++ claimBytes s.sht.claims[n + 1]? ++
        claimBytes s.sht.claims[n + 2]? ++ claimBytes s.sht.claims[n + 3]? := by
  simp only [shareClaims, flatMap_four, List.append_assoc]

theorem stationPart3_eq (s : State) :
    stationPart3 s =
      let inWeld (x : List Byte) (k : Nat) : List Byte := if s.wsq.weldNo.isSome then x else beAbsent k
      inWeld (be 1 s.flash.cyclesDone) 1 ++ inWeld (beOpt 1 (s.flash.feed.map FeedStage.code)) 1 ++
        inWeld (beOptInt 2 s.flash.burnOff) 2 ++ inWeld (beOptInt 2 s.flash.boostDone) 2 ++
        inWeld (be 2 s.flash.shortCount) 2 ++ inWeld (be 1 s.flash.streak) 1 ++
        s.pcu.resistances.flatMap (beOpt 2) ++ be 1 (presenceMask s.pcu.failedShoes) := by
  simp only [stationPart3, beOpt_shownIf]
  rfl

theorem flagBit_clockSpent (s : State) : flagBit (clockSpent s) 0 = if 4294967295 ≤ s.sht.clock then 1 else 0 :=
  ite_congr (propext (clockSpent_iff s)) (fun _ => rfl) fun _ => rfl

/-! ### The answer -/

/-- The number of parts a selector of R165 has. -/
def selectorParts (selector : Nat) : Nat := if selector = 1 then 4 else if selector = 2 then 5 else 1

theorem statusParts_known {selector : Nat} (low : 1 ≤ selector) (high : selector ≤ 4) :
    statusParts selector = some (selectorParts selector) := by
  obtain rfl | rfl | rfl | rfl : selector = 1 ∨ selector = 2 ∨ selector = 3 ∨ selector = 4 := by omega
  all_goals rfl

theorem statusParts_unknown {selector : Nat} (unknown : ¬ (1 ≤ selector ∧ selector ≤ 4)) : statusParts selector = none := by
  have others : selector ≠ 1 ∧ selector ≠ 2 ∧ selector ≠ 3 ∧ selector ≠ 4 := by omega
  simp [statusParts, others]

section
variable {src tag selector part : Nat} {s : State}

theorem handleStatus_unconfigured (h : s.wsq.station = .unconfigured ∧ selector ≠ 1) :
    handleStatus src tag selector part s = refuse src 18 tag .unconfigured s := by
  simp only [handleStatus, statusRefusal, if_pos h]

theorem handleStatus_shown (h : ¬ (s.wsq.station = .unconfigured ∧ selector ≠ 1))
    (fits : 1 ≤ selector ∧ selector ≤ 4 ∧ 1 ≤ part ∧ part ≤ selectorParts selector) :
    handleStatus src tag selector part s =
      sendAnswer src 18 tag resultData .none
        (be 1 selector ++ be 1 part ++ be 1 (selectorParts selector) ++ statusItems selector part s) .answer s := by
  obtain ⟨low, high, inside⟩ := fits
  simp only [handleStatus, statusRefusal, if_neg h, statusParts_known low high, if_pos inside, Option.getD_some]

theorem handleStatus_outOfRange (h : ¬ (s.wsq.station = .unconfigured ∧ selector ≠ 1))
    (beyond : ¬ (1 ≤ selector ∧ selector ≤ 4 ∧ 1 ≤ part ∧ part ≤ selectorParts selector)) :
    handleStatus src tag selector part s = refuse src 18 tag .outOfRange s := by
  by_cases known : 1 ≤ selector ∧ selector ≤ 4
  · have outside : ¬ (1 ≤ part ∧ part ≤ selectorParts selector) := fun inside => beyond ⟨known.1, known.2, inside⟩
    simp only [handleStatus, statusRefusal, if_neg h, statusParts_known known.1 known.2, if_neg outside]
  · simp only [handleStatus, statusRefusal, if_neg h, statusParts_unknown known]

/-- STATUS does nothing but answer. -/
theorem handleStatus_answers (src tag selector part : Nat) (s : State) :
    ∃ result reason data, handleStatus src tag selector part s = sendAnswer src 18 tag result reason data .answer s := by
  by_cases unconfigured : s.wsq.station = .unconfigured ∧ selector ≠ 1
  · exact ⟨_, _, _, handleStatus_unconfigured unconfigured⟩
  by_cases fits : 1 ≤ selector ∧ selector ≤ 4 ∧ 1 ≤ part ∧ part ≤ selectorParts selector
  · exact ⟨_, _, _, handleStatus_shown unconfigured fits⟩
  · exact ⟨_, _, _, handleStatus_outOfRange unconfigured fits⟩

end

/-- STATUS passes every check of arrival in every station state but LOADING (R12, R161). -/
theorem exec_status {src tag selector part : Nat} {s : State} (awake : s.inReset = false)
    (loaded : s.wsq.station ≠ .loading) (free : noOutgoing s = true)
    (still : s.wsq.station = .idle → s.orq.heldList = []) :
    ∃ w i, exec (.status src tag selector part) s = .next (handleStatus src tag selector part (s.forOrder w i)) := by
  let b : OrderBody := .status tag selector part
  obtain ⟨w, run⟩ := receiveOrder_eq (src := src) (b := b) awake loaded
  have here : toHold s b = false := by simp [toHold, wakes, b, OrderBody.codeTag]
  obtain ⟨i, restarts⟩ : ∃ i, restartIdle b (s.forOrder w s.wsq.idleTimer) = s.forOrder w i := by
    unfold restartIdle
    split
    · exact ⟨_, rfl⟩
    · exact ⟨_, rfl⟩
  have handled : handleOrder ⟨src, b⟩ (s.forOrder w s.wsq.idleTimer) =
      handleStatus src tag selector part (s.forOrder w i) := by
    rw [handleOrder, if_neg (by simp [refusedUnconfigured, b, OrderBody.isStatus]), if_neg (by simp [b, OrderBody.wellFormed]),
      if_neg (by simp [b, OrderBody.isStatus]), restarts]
    rfl
  rw [deliverOrder_taken free, takeOrder_awake here, handled] at run
  refine ⟨w, i, bodyCommand_runs (b := b) run ?_⟩
  obtain ⟨result, reason, data, e⟩ := handleStatus_answers src tag selector part (s.forOrder w i)
  obtain ⟨w', q, l, sent, _⟩ := sendAnswer_eq src 18 tag result reason data .answer (s.forOrder w i) (.inl rfl)
  rw [e, sent]
  exact still

/-- Settles O27. -/
theorem statusShowsTheState : Obligations.StatusShowsTheState := by
  intro src tag selector part s awake loaded free still flag inWeld self peer claim kJ items parts
  obtain ⟨w, i, run⟩ := exec_status (src := src) (tag := tag) (selector := selector) (part := part) awake loaded free still
  have own : selfEntry s = self := by
    rw [selfEntry, reportedFlags_beaconNow]
    rfl
  have entry (p : Nat) : entryBytes s p = peer p := by
    rw [entryBytes, own]
    rfl
  have peers (n : Nat) : sharePeers n s = peer n ++ peer (n + 1) ++ peer (n + 2) ++ peer (n + 3) := by
    simp only [sharePeers_eq, entry]
  have listed (k : Nat) : claimBytes s.sht.claims[k]? = claim k := by
    cases found : s.sht.claims[k]? with
    | none => simp only [claim, found, claimBytes]
    | some c =>
      simp only [claim, found, claimBytes]
      rfl
  have claims (n : Nat) : shareClaims n s =
      be 1 s.sht.claims.length ++ claim n ++ claim (n + 1) ++ claim (n + 2) ++ claim (n + 3) := by
    simp only [shareClaims_eq, listed]
  have part5 := flagBit_clockSpent s
  have shown : statusItems selector part (s.forOrder w i) = items := by
    show statusItems selector part s = items
    refine ite_congr rfl (fun _ => ?_) fun _ => ite_congr rfl (fun _ => ?_) fun _ => rfl
    · exact ite_congr rfl (fun _ => rfl) fun _ => ite_congr rfl (fun _ => rfl) fun _ =>
        ite_congr rfl (fun _ => stationPart3_eq s) fun _ => rfl
    · refine ite_congr rfl (fun _ => peers 0) fun _ => ite_congr rfl (fun _ => peers 4) fun _ =>
        ite_congr rfl (fun _ => claims 0) fun _ => ite_congr rfl (fun _ => claims 4) fun _ => ?_
      rw [sharePart5, part5]
  have answers (result : Nat) (reason : Reason) (data : List Byte)
      (run : exec (.status src tag selector part) s =
        .next (sendAnswer src 18 tag result reason data .answer (s.forOrder w i))) :
      completes (.status src tag selector part) s fun t =>
        onlyAnswered s t ∧ outgoing t = outgoing s ++ [answerFrame src 18 tag result reason data .answer] := by
    obtain ⟨t, ran, sent, only⟩ := answered_now run rfl
    exact ⟨t, ran, only, sent⟩
  show completes _ s fun t => onlyAnswered s t ∧ outgoing t = outgoing s ++ [_]
  by_cases unconfigured : s.wsq.station = .unconfigured ∧ selector ≠ 1
  · rw [if_pos unconfigured]
    rw [handleStatus_unconfigured (by exact unconfigured)] at run
    exact answers _ _ _ run
  rw [if_neg unconfigured]
  by_cases fits : 1 ≤ selector ∧ selector ≤ 4 ∧ 1 ≤ part ∧ part ≤ parts
  · rw [if_pos fits]
    rw [handleStatus_shown (by exact unconfigured) fits, shown] at run
    exact answers _ _ _ run
  · rw [if_neg fits]
    rw [handleStatus_outOfRange (by exact unconfigured) fits] at run
    exact answers _ _ _ run

end Sys2Proof.Machine

/-! CLAMP_SLIP and SENSOR_FAULT: what their report holds, and what it makes of a weld in progress (O48). -/

namespace Sys2Proof.Machine

/-! ### What the report of a hold keeps, once the station is held (R8) -/

/-- What a fault reported in a held station leaves of the outputs, of the drive and of what the station returns to. -/
structure HoldKept (s t : State) : Prop extends DriveWork s t where
  station : t.wsq.station = s.wsq.station := by simp
  fault : t.wsq.returnFault = s.wsq.returnFault := by simp
  recover : t.wsq.recoverTimer = s.wsq.recoverTimer := by simp
  clamp : t.pcu.clamp = s.pcu.clamp ∧ t.pcu.clampValve = s.pcu.clampValve ∧ t.pcu.clampTimer = s.pcu.clampTimer ∧
    t.pcu.stopped = s.pcu.stopped ∧ t.pcu.topUp = s.pcu.topUp := by simp
  detectors : t.pcu.slip = s.pcu.slip ∧ t.pcu.slipCount = s.pcu.slipCount ∧ t.pcu.tripped = s.pcu.tripped ∧
    t.pcu.plausibleRun = s.pcu.plausibleRun := by simp
  shoe : s.pcu.shoe = none → t.pcu.shoe = none := by simp
  valve : t.tru.valve = s.tru.valve := by simp

section
variable {s t u : State} {code : FaultCode} {p : WeldPhase}

namespace HoldKept

theorem refl (s : State) : HoldKept s s := {}

theorem trans (h : HoldKept s t) (k : HoldKept t u) : HoldKept s u where
  toDriveWork := h.toDriveWork.trans k.toDriveWork
  station := k.station.trans h.station
  fault := k.fault.trans h.fault
  recover := k.recover.trans h.recover
  clamp := by
    obtain ⟨clamp, valve, timer, stopped, top⟩ := h.clamp
    obtain ⟨clamp', valve', timer', stopped', top'⟩ := k.clamp
    exact ⟨clamp'.trans clamp, valve'.trans valve, timer'.trans timer, stopped'.trans stopped, top'.trans top⟩
  detectors := by
    obtain ⟨slip, count, tripped, run⟩ := h.detectors
    obtain ⟨slip', count', tripped', run'⟩ := k.detectors
    exact ⟨slip'.trans slip, count'.trans count, tripped'.trans tripped, run'.trans run⟩
  shoe none_yet := k.shoe (h.shoe none_yet)
  valve := k.valve.trans h.valve

theorem motionHeld (h : HoldKept s t) : t.motionHeld = s.motionHeld := by simp [State.motionHeld, h.station]

/-- What leaves PCU, TRU and CDR alone keeps what a hold is. -/
theorem of_wsq (base : sameBase s t) (cdr : t.cdr = s.cdr) (stl : t.stl = s.stl) (pcu : t.pcu = s.pcu) (tru : t.tru.valve = s.tru.valve)
    (station : t.wsq.station = s.wsq.station) (fault : t.wsq.returnFault = s.wsq.returnFault)
    (recover : t.wsq.recoverTimer = s.wsq.recoverTimer) : HoldKept s t where
  base := base
  cdr := cdr ▸ .refl _
  stl _ := stl
  stop := by rw [stl]
  pause := by rw [stl]; exact id
  station := station
  fault := fault
  recover := recover
  clamp := by rw [pcu]; exact ⟨rfl, rfl, rfl, rfl, rfl⟩
  detectors := by rw [pcu]; exact ⟨rfl, rfl, rfl, rfl⟩
  shoe := by rw [pcu]; exact id
  valve := tru

end HoldKept

theorem PathWork.holdKept (h : PathWork s t) : HoldKept s t where
  toDriveWork := h.toDriveWork
  station := h.station
  fault := congrArg (·.returnFault) h.wsq
  recover := congrArg (·.recoverTimer) h.wsq
  clamp := ⟨congrArg (·.clamp) h.pcu, congrArg (·.clampValve) h.pcu, congrArg (·.clampTimer) h.pcu,
    congrArg (·.stopped) h.pcu, congrArg (·.topUp) h.pcu⟩
  detectors := ⟨congrArg (·.slip) h.pcu, congrArg (·.slipCount) h.pcu, congrArg (·.tripped) h.pcu,
    congrArg (·.plausibleRun) h.pcu⟩
  shoe none_yet := (congrArg (·.shoe) h.pcu).trans none_yet
  valve := congrArg (·.valve) h.tru

theorem platenHold_holdKept (s : State) : HoldKept s (platenHold s) where
  clamp := ⟨rfl, rfl, rfl, rfl, rfl⟩
  detectors := ⟨rfl, rfl, rfl, rfl⟩
  shoe := id

theorem stopShoes_holdKept (s : State) : HoldKept s (stopShoes s) where
  clamp := ⟨rfl, rfl, rfl, rfl, rfl⟩
  detectors := ⟨rfl, rfl, rfl, rfl⟩
  shoe _ := rfl

/-! ### The end of a weld in a held station (R107, R118) -/

theorem leaveWeld_held (held : s.motionHeld = true) :
    leaveWeld s = { neutralSets (pcuWeldEnd (wsqWeldEnd s)) with wsq.returnState := some .clamped } := if_pos held

theorem leaveWeld_holdKept (held : s.motionHeld = true) : HoldKept s (leaveWeld s) := by
  rw [leaveWeld_held held]
  exact { shoe := id, fault := rfl, recover := rfl, clamp := ⟨rfl, rfl, rfl, rfl, rfl⟩, detectors := ⟨rfl, rfl, rfl, rfl⟩ }

section
variable (held : s.motionHeld = true) (outcome : OrderOutcome) (reason : Reason) (weldNo : Option Nat)
include held

theorem endWeld_holdKept : HoldKept s (endWeld outcome reason weldNo s) :=
  (leaveWeld_holdKept held).trans (.of_wsq (by simp [endWeld, sameBase]) (by simp [endWeld]) (by simp [endWeld])
    (by simp [endWeld]) (by simp [endWeld]) (by simp [endWeld]) (by simp [endWeld]) (by simp [endWeld]))

theorem endWeld_returns :
    let t := endWeld outcome reason weldNo s
    t.wsq.phase = none ∧ t.wsq.returnState = some .clamped ∧ t.wsq.lastFault = s.wsq.lastFault := by
  intro t
  have wsq : t.wsq = (leaveWeld s).wsq := by simp [t, endWeld]
  rw [wsq, leaveWeld_held held]
  exact ⟨rfl, rfl, rfl⟩

end

theorem endBegunEnding_unbegun (h : ∀ e, s.wsq.ending = some e → e.begun = false) : endBegunEnding s = s := by
  unfold endBegunEnding
  split
  · next e ending => exact if_neg (by rw [h e ending]; decide)
  · rfl

theorem endBegunEnding_begun {e : Ending} (ending : s.wsq.ending = some e) (begun : e.begun = true) :
    endBegunEnding s = endWeld .notStarted e.reason none s := by
  simp only [endBegunEnding, ending, begun, if_true]

theorem endBegunEnding_holdKept (held : s.motionHeld = true) : HoldKept s (endBegunEnding s) := by
  unfold endBegunEnding
  split
  · split
    · exact endWeld_holdKept held ..
    · exact .refl s
  · exact .refl s

/-! ### The fault reported in a held station (R28, R117 to R121) -/

theorem fileFault_holdKept (code : FaultCode) (s : State) : HoldKept s (fileFault code s) := by
  obtain ⟨w, x, e⟩ := fileFault_eq code s
  rw [e]
  exact {}

theorem abortStarts_holdKept (code : FaultCode) (p : WeldPhase) (s : State) : HoldKept s (s.abortStarts code p) := by
  rw [State.abortStarts, stopWork_eq]
  exact .of_wsq ⟨rfl, rfl, rfl, rfl, rfl⟩ rfl rfl rfl rfl rfl rfl rfl

theorem abortReason_hold (hold : holdCode code = true) : abortReason code = .fault code := if_neg (by rintro rfl; cases hold)

theorem abortCheck_hold (hold : holdCode code = true) (s : State) :
    abortCheck code s = endWeld .notStarted (.fault code) none (stopShoes s) := by
  rw [abortCheck, if_neg (by rintro rfl; cases hold), if_neg (by rintro rfl; cases hold), abortReason_hold hold]

theorem abortBeforeCurrent_hold (hold : holdCode code = true) (s : State) :
    abortBeforeCurrent code s = endWeld .notStarted (.fault code) none s := by
  rw [abortBeforeCurrent, if_pos hold, abortReason_hold hold]

theorem severity_hold (hold : holdCode code = true) (n : Nat) : code.severity n = .abort := by
  cases code with
  | clampSlip | sensorFault => rfl
  | _ => cases hold

theorem abortTrim_held (held : s.motionHeld = true) : abortTrim s = s := by
  rw [abortTrim, held, Bool.or_true, if_pos rfl]

theorem beginPath_holdKept (hold : holdCode code = true) (held : s.motionHeld = true) (p : WeldPhase) :
    HoldKept s (beginPath code p s) := by
  have ends (v : State) (kept : HoldKept s v) : HoldKept s (abortBeforeCurrent code v) := by
    rw [abortBeforeCurrent_hold hold]
    exact kept.trans (endWeld_holdKept (kept.motionHeld.trans held) ..)
  cases p with
  | check =>
    show HoldKept s (abortCheck code s)
    rw [abortCheck_hold hold]
    exact (stopShoes_holdKept s).trans (endWeld_holdKept (s := stopShoes s) held ..)
  | touch => exact ends _ (platenHold_holdKept s)
  | claimWait => exact ends _ (yieldOwn_path s).holdKept
  | preheat | flash | boost => exact (platenHold_holdKept s).trans (abortFlash_path s).holdKept
  | upset =>
    obtain ⟨v, path, e⟩ := abortUpset_path s
    show HoldKept s (abortUpset s)
    rw [e]
    exact path.holdKept.trans {}
  | trim =>
    show HoldKept s (abortTrim s)
    rw [abortTrim_held held]
    exact .refl s
  | hold | cool | closing => exact .refl s

theorem reportFault_holdKept (hold : holdCode code = true) (held : s.motionHeld = true) : HoldKept s (reportFault code s) := by
  by_cases may : mayAbort s = true
  · obtain ⟨⟨p, phase, before⟩, going, begun⟩ := (mayAbort_iff s).mp may
    have kept := (fileFault_holdKept code s).trans (abortStarts_holdKept code p (fileFault code s))
    rw [reportFault_starts (severity_hold hold _) phase before going begun]
    exact kept.trans (beginPath_holdKept hold (kept.motionHeld.trans held) p)
  · rw [reportFault_filed (Bool.eq_false_iff.mpr may)]
    exact fileFault_holdKept code s

/-! ### The clamp order and the clamps (R8, R35, R37) -/

/-- What the failed clamp order and the stopped clamps leave before FAULT_HOLD is entered. -/
structure HeadStopped (s b : State) : Prop where
  base : sameBase s b
  wsq : b.wsq = { s.wsq with clampFail := b.wsq.clampFail }
  wrs : b.wrs = s.wrs
  sht : b.sht = s.sht
  flash : b.flash = s.flash
  tru : b.tru = s.tru
  orders : s.wsq.station ≠ .clamping → s.wsq.station ≠ .unclamping → b.orq = s.orq
  closed : s.pcu.clamp = some .closed → b.pcu.clamp = some .closed ∧ b.pcu.topUp = false ∧
    (s.pcu.topUp = true → b.pcu.slip = .armed ∧ b.pcu.slipCount = 0 ∧ b.pcu.clampTimer = none)
  moving : s.pcu.clamp = some .closing ∨ s.pcu.clamp = some .opening →
    b.pcu.clamp = s.pcu.clamp ∧ b.pcu.stopped = true ∧ b.pcu.clampTimer = none
  valve : b.pcu.clampValve = .hold
  slip : s.pcu.topUp = false → b.pcu.slip = s.pcu.slip ∧ b.pcu.slipCount = s.pcu.slipCount
  plausibility : b.pcu.tripped = s.pcu.tripped ∧ b.pcu.plausibleRun = s.pcu.plausibleRun

theorem failClampOrder_stops (reason : Reason) (s : State) :
    let a := failClampOrder reason s
    sameBase s a ∧ a.wsq = { s.wsq with clampFail := a.wsq.clampFail } ∧ a.wrs = s.wrs ∧ a.sht = s.sht ∧ a.flash = s.flash ∧
      a.tru = s.tru ∧ a.pcu = s.pcu ∧ (s.wsq.station ≠ .clamping → s.wsq.station ≠ .unclamping → a.orq = s.orq) := by
  unfold failClampOrder
  split
  · next moves => exact ⟨by simp [sameBase], by simp, by simp, by simp, by simp, by simp, by simp, fun h h' => (moves.elim h h').elim⟩
  · exact ⟨⟨rfl, rfl, rfl, rfl, rfl⟩, rfl, rfl, rfl, rfl, rfl, rfl, fun _ _ => rfl⟩

theorem clampsStop_eq (s : State) :
    ∃ q, clampsStop s = { s with pcu := q } ∧ q.clamp = s.pcu.clamp ∧ q.clampValve = .hold ∧ q.tripped = s.pcu.tripped ∧
      q.plausibleRun = s.pcu.plausibleRun ∧ (s.pcu.topUp = false → q.slip = s.pcu.slip ∧ q.slipCount = s.pcu.slipCount) ∧
      (s.pcu.clamp = some .closed → q.topUp = false ∧
        (s.pcu.topUp = true → q.slip = .armed ∧ q.slipCount = 0 ∧ q.clampTimer = none)) ∧
      (s.pcu.clamp = some .closing ∨ s.pcu.clamp = some .opening → q.stopped = true ∧ q.clampTimer = none) := by
  have moving : clampsMoving s = true ↔ s.pcu.clamp = some .closing ∨ s.pcu.clamp = some .opening := by simp [clampsMoving]
  unfold clampsStop
  split
  · next moves =>
    refine ⟨_, rfl, rfl, rfl, rfl, rfl, fun _ => ⟨rfl, rfl⟩, fun closed => ?_, fun _ => ⟨rfl, rfl⟩⟩
    rw [moving, closed] at moves
    rcases moves with h | h <;> cases h
  next still =>
  split
  · next top =>
    exact ⟨_, rfl, rfl, rfl, rfl, rfl, fun off => absurd (top.symm.trans off) nofun, fun _ => ⟨rfl, fun _ => ⟨rfl, rfl, rfl⟩⟩,
      fun moves => absurd (moving.mpr moves) still⟩
  · next off =>
    exact ⟨_, rfl, rfl, rfl, rfl, rfl, fun _ => ⟨rfl, rfl⟩, fun _ => ⟨Bool.eq_false_iff.mpr off, fun top => absurd top off⟩,
      fun moves => absurd (moving.mpr moves) still⟩

theorem headStopped (reason : Reason) (s : State) : HeadStopped s (clampsStop (failClampOrder reason s)) := by
  obtain ⟨base, wsq, wrs, sht, flash, tru, pcu, orders⟩ := failClampOrder_stops reason s
  obtain ⟨q, e, clamp, valve, tripped, run, slip, closed, moving⟩ := clampsStop_eq (failClampOrder reason s)
  rw [pcu] at clamp tripped run slip closed moving
  rw [e]
  exact {
    base := base
    wsq := wsq
    wrs := wrs
    sht := sht
    flash := flash
    tru := tru
    orders := orders
    closed := fun shut => ⟨clamp.trans shut, closed shut⟩
    moving := fun moves => ⟨clamp, moving moves⟩
    valve := valve
    slip := slip
    plausibility := ⟨tripped, run⟩ }

/-! ### FAULT_HOLD is entered (R8, R116, R119, R123) -/

/-- The held head, before the drive goes off. -/
def State.heldHead (x : Stl) (s : State) : State :=
  { s with wsq := s.heldWsq, pcu := (stopShoes (platenHold (faultStation s))).pcu, tru := s.tru.held, stl := x }

theorem heldHead_held (x : Stl) (s : State) : (s.heldHead x).motionHeld = true := faultStation_held s

theorem faultHoldEntry_off (s : State) : ∃ x, x.stop = s.stl.stop ∧ faultHoldEntry s = driveOff (s.heldHead x) := by
  have entered : truHold (holdWeld { stopShoes (platenHold (faultStation s)) with wsq.barred := s.wsq.barred || s.welding }) =
      s.heldHead s.stl := by
    obtain ⟨abort, ending⟩ := faultStation_weld s
    rw [truHold_eq, holdWeld_eq, State.heldHead, State.heldWsq, ← abort, ← ending, faultStation_eq]
    rfl
  obtain ⟨x, paused, stop⟩ := endPause_held (s.heldHead s.stl) (heldHead_held _ s)
  refine ⟨x, stop, ?_⟩
  rw [faultHoldEntry, entered, paused]
  rfl

theorem driveOffReport_unawaited (held : s.motionHeld = true) (quiet : awaitsDriveOff s = false) : driveOffReport s = s := by
  have stays : contactStepEnds s = s := if_neg (by simp [held])
  rw [driveOffReport, stays, abortStepEnds, if_neg (by rw [quiet]; decide)]

/-- Where no abort path waits for the drive, FAULT_HOLD changes the head, CDR and STL alone. -/
theorem faultHoldEntry_quiet (quiet : awaitsDriveOff (s.heldHead s.stl) = false) :
    ∃ x d, faultHoldEntry s = { s.heldHead x with cdr := d } ∧ d.isOff := by
  obtain ⟨x, -, e⟩ := faultHoldEntry_off s
  obtain ⟨d, blocks, -⟩ := blockDrive_eq (s.heldHead x)
  obtain ⟨y, stops, -⟩ := timingStopped_held { s.heldHead x with cdr := d } (heldHead_held x s)
  have off : driveOff (s.heldHead x) = { s.heldHead y with cdr := d } := by
    rw [driveOff, blocks, stops]
    exact driveOffReport_unawaited (s := { s.heldHead y with cdr := d }) (heldHead_held y s) quiet
  refine ⟨y, d, e.trans off, ?_⟩
  have stopped := driveOff_isOff (s.heldHead x)
  rwa [off] at stopped

/-- An abort path that waits for the drive goes on to its retract, which waits for CLEAR. -/
theorem faultHoldEntry_awaited (waits : awaitsDriveOff (s.heldHead s.stl) = true) :
    ∃ a, s.wsq.abort = some a ∧ (faultHoldEntry s).wsq.abort = some { a with step := .retractWait } ∧
      (faultHoldEntry s).sht.claims = removeClaim s.node s.sht.claims := by
  obtain ⟨x, -, e⟩ := faultHoldEntry_off s
  obtain ⟨a, abort⟩ : ∃ a, s.wsq.abort = some a := by
    obtain none_yet | some_a := Option.eq_none_or_eq_some s.wsq.abort
    · simp [awaitsDriveOff, State.heldHead, State.heldWsq, none_yet] at waits
    · exact some_a
  have off := driveOff_awaited (s := s.heldHead x) waits
  have held : (yieldClaim (timingStopped (blockDrive (s.heldHead x)))).motionHeld = true := by
    have same : (yieldClaim (timingStopped (blockDrive (s.heldHead x)))).wsq = (s.heldHead x).wsq := by simp
    rw [State.motionHeld, same]
    exact heldHead_held x s
  rw [beginRetract, if_pos held] at off
  have claims := yieldClaim_claims (timingStopped (blockDrive (s.heldHead x)))
  refine ⟨a, abort, ?_, ?_⟩
  · rw [e, off]
    simp only [setStep, yieldClaim_frame, timingStopped_frame, blockDrive_frame]
    simp only [State.heldHead, State.heldWsq, abort, Option.map_some]
    unfold Abort.held
    split <;> rfl
  · rw [e, off]
    simpa [State.heldHead] using claims

end

end Sys2Proof.Machine

/-! What a slip or an implausible sample makes of the station and of a weld in progress (O48). -/

namespace Sys2Proof.Machine

section
variable {s t u : State} {code : FaultCode} {p : WeldPhase}

/-! ### The station in FAULT_HOLD -/

/-- FAULT_HOLD is entered, before the fault itself is reported. -/
def State.holdEntered (code : FaultCode) (s : State) : State := faultHoldEntry (clampsStop (failClampOrder (.fault code) s))

theorem reportHold_entered (applies : holdApplies s = true) (unheld : s.wsq.station ≠ .faultHold) :
    reportHold code s = endBegunEnding (reportFault code (s.holdEntered code)) := reportHold_enters applies unheld

theorem faultStation_wsq (s : State) :
    (faultStation s).wsq =
      { s.wsq with
        station := (faultStation s).wsq.station, returnState := (faultStation s).wsq.returnState
        returnFault := (faultStation s).wsq.returnFault, idleTimer := (faultStation s).wsq.idleTimer } := by
  unfold faultStation
  (repeat' split) <;> rfl

theorem faultStation_enters (unheld : s.wsq.station ≠ .faultHold) :
    (faultStation s).wsq.station = (if s.wsq.station = .stopped then .stopped else .faultHold) ∧
      (s.wsq.station = .stopped → (faultStation s).wsq.returnFault = true) ∧
      (s.wsq.station = .recover → (faultStation s).wsq.returnState = some .recover) := by
  unfold faultStation
  by_cases stopped : s.wsq.station = .stopped
  · simp [stopped]
  · simp [stopped, unheld]

theorem heldWsq_eq (s : State) :
    s.heldWsq =
      { s.wsq with
        station := s.heldWsq.station, returnState := s.heldWsq.returnState, returnFault := s.heldWsq.returnFault
        idleTimer := s.heldWsq.idleTimer, barred := s.wsq.barred || s.welding, upsetTimer := none
        abort := s.wsq.abort.map Abort.held, ending := s.wsq.ending.map fun e => { e with moving := false } } := by
  rw [State.heldWsq, faultStation_wsq]

theorem held_step (a : Abort) : a.held.step = .driveIdle ↔ a.step = .driveIdle := by
  unfold Abort.held
  split
  · next step => simp [step]
  · rfl

/-- The hold leaves an abort path that waits for the drive as it is. -/
theorem heldHead_awaits (x : Stl) (s : State) : awaitsDriveOff (s.heldHead x) = awaitsDriveOff s := by
  have steps : (s.wsq.abort.map Abort.held).any (·.step == .driveIdle) = s.wsq.abort.any (·.step == .driveIdle) := by
    cases s.wsq.abort with
    | none => rfl
    | some a =>
      rw [Bool.eq_iff_iff]
      simp [held_step]
  have abort : s.heldWsq.abort = s.wsq.abort.map Abort.held := by rw [heldWsq_eq]
  have phase : s.heldWsq.phase = s.wsq.phase := by rw [heldWsq_eq]
  simp only [awaitsDriveOff, State.heldHead, abort, phase, steps]

/-- What FAULT_HOLD makes of the head (R8, R35, R37, R123). -/
theorem holdEntered_head (code : FaultCode) (s : State) :
    let c := s.holdEntered code
    c.motionHeld = true ∧ c.wsq.station = (faultStation s).wsq.station ∧
      c.wsq.returnState = (faultStation s).wsq.returnState ∧ c.wsq.returnFault = (faultStation s).wsq.returnFault ∧
      c.wsq.recoverTimer = s.wsq.recoverTimer ∧ PlatenHeld c ∧ c.pcu.shoe = none ∧ c.pcu.clampValve = .hold ∧
      c.tru.valve = .hold ∧ c.cdr.isOff ∧ sameBase s c ∧
      (s.pcu.clamp = some .closed → c.pcu.clamp = some .closed ∧ c.pcu.topUp = false ∧
        (s.pcu.topUp = true → c.pcu.slip = .armed ∧ c.pcu.slipCount = 0 ∧ c.pcu.clampTimer = none)) ∧
      (s.pcu.clamp = some .closing ∨ s.pcu.clamp = some .opening →
        c.pcu.clamp = s.pcu.clamp ∧ c.pcu.stopped = true ∧ c.pcu.clampTimer = none) ∧
      (s.pcu.topUp = false → c.pcu.slip = s.pcu.slip ∧ c.pcu.slipCount = s.pcu.slipCount) ∧
      c.pcu.tripped = s.pcu.tripped ∧ c.pcu.plausibleRun = s.pcu.plausibleRun := by
  have head := headStopped (.fault code) s
  intro c
  have entered : c = faultHoldEntry (clampsStop (failClampOrder (.fault code) s)) := rfl
  rw [entered]
  generalize clampsStop (failClampOrder (.fault code) s) = b at head
  obtain ⟨base, -, station, back, fault, -, recover, -, -⟩ := faultHoldEntry_kept b
  obtain ⟨platen, held⟩ := faultHoldEntry_held_platen b
  obtain ⟨x, v, path, -, -, form⟩ := faultHoldEntry_path b
  obtain ⟨y, -, off⟩ := faultHoldEntry_off b
  have stations : (faultStation b).wsq.station = (faultStation s).wsq.station ∧
      (faultStation b).wsq.returnState = (faultStation s).wsq.returnState ∧
      (faultStation b).wsq.returnFault = (faultStation s).wsq.returnFault := by
    have same : b.wsq.station = s.wsq.station ∧ b.wsq.returnState = s.wsq.returnState ∧
        b.wsq.returnFault = s.wsq.returnFault := by rw [head.wsq]; exact ⟨rfl, rfl, rfl⟩
    obtain ⟨at_station, returns, faulty⟩ := same
    unfold faultStation
    rw [at_station]
    (repeat' split) <;> simp [at_station, returns, faulty]
  have pcu : ∃ w, (faultHoldEntry b).pcu = (stopShoes (platenHold { b with wsq := w })).pcu := by
    refine ⟨(faultStation b).wsq, ?_⟩
    rw [faultHoldEntry_pcu_eq, ← faultStation_eq]
  obtain ⟨w, pcu⟩ := pcu
  have valve : b.tru.held.valve = .hold := by
    unfold Tru.held
    split <;> rfl
  have tru : (faultHoldEntry b).tru.valve = .hold := by rw [path.tru, form]; exact valve
  have stopped := driveOff_isOff (b.heldHead y)
  rw [← off] at stopped
  obtain ⟨samestation, sameback, samefault⟩ := stations
  refine ⟨held, station.trans samestation, back.trans sameback, fault.trans samefault, ?_, platen, ?_, ?_, tru, stopped,
    sameBase_trans head.base base, ?_, ?_, ?_, ?_⟩
  · rw [recover, head.wsq]
  all_goals rw [pcu]
  · rfl
  · exact head.valve
  · exact head.closed
  · exact head.moving
  · exact head.slip
  · exact head.plausibility

/-- What FAULT_HOLD makes of a weld (R119, R122, R123). -/
theorem holdEntered_weld (code : FaultCode) (s : State) :
    let c := s.holdEntered code
    (∃ f, c.wsq =
      { s.wsq with
        clampFail := f, station := c.wsq.station, returnState := c.wsq.returnState, returnFault := c.wsq.returnFault
        idleTimer := c.wsq.idleTimer, barred := s.wsq.barred || s.welding, upsetTimer := none, abort := c.wsq.abort
        upsetMark := c.wsq.upsetMark, ending := s.wsq.ending.map fun e => { e with moving := false } }) ∧
      c.wrs.working = s.wrs.working ∧
      (s.wsq.station ≠ .clamping → s.wsq.station ≠ .unclamping → executing c = executing s) ∧
      (awaitsDriveOff s = false →
        c.wsq.abort = s.wsq.abort.map Abort.held ∧ c.wsq.upsetMark = s.wsq.upsetMark ∧ c.wrs = s.wrs ∧ c.sht = s.sht) ∧
      (awaitsDriveOff s = true →
        ∃ a, s.wsq.abort = some a ∧ c.wsq.abort = some { a with step := .retractWait } ∧
          c.sht.claims = removeClaim s.node s.sht.claims) := by
  have head := headStopped (.fault code) s
  intro c
  have entered : c = faultHoldEntry (clampsStop (failClampOrder (.fault code) s)) := rfl
  rw [entered]
  generalize clampsStop (failClampOrder (.fault code) s) = b at head
  have welding : b.welding = s.welding := by rw [State.welding, head.wsq]; rfl
  have awaits (x : Stl) : awaitsDriveOff (b.heldHead x) = awaitsDriveOff s := by
    rw [heldHead_awaits, awaitsDriveOff, head.wsq]
    rfl
  obtain ⟨x, v, path, -, held, form⟩ := faultHoldEntry_path b
  obtain ⟨wsq, wrs⟩ := path.unclosed (.inr held)
  have orq := path.orq
  rw [form] at wsq wrs orq
  refine ⟨⟨b.wsq.clampFail, ?_⟩, ?_, fun unclamping unlocking => ?_, fun quiet => ?_, fun waits => ?_⟩
  · rw [wsq, heldWsq_eq, head.wsq, welding]
  · rw [wrs]
    exact congrArg (·.working) head.wrs
  · rw [executing, orq]
    show (b.orq.queue.head?.filter _) = _
    rw [head.orders unclamping unlocking]
    rfl
  · obtain ⟨y, d, e, -⟩ := faultHoldEntry_quiet ((awaits b.stl).trans quiet)
    rw [e]
    refine ⟨?_, ?_, head.wrs, head.sht⟩
    · show b.heldWsq.abort = _
      rw [heldWsq_eq, head.wsq]
    · show b.heldWsq.upsetMark = _
      rw [heldWsq_eq, head.wsq]
  · obtain ⟨a, abort, waiting, claims⟩ := faultHoldEntry_awaited ((awaits b.stl).trans waits)
    obtain ⟨-, node, -⟩ := head.base
    refine ⟨a, ?_, waiting, ?_⟩
    · rw [← abort, head.wsq]
    · rw [claims, head.sht, node]

/-! ### The fault in a held weld (R117 to R121) -/

/-- The state in which an abort path begins, once its cause is filed. -/
theorem fileFault_abortStarts (code : FaultCode) (p : WeldPhase) (s : State) :
    ∃ w x f r, (fileFault code s).abortStarts code p =
        { s with
          wrs.working := w
          wsq := { s.wsq with
            lastFault := x, contactTimer := none, openTimer := none, upsetTimer := none, flashTimer := none
            abort := some ⟨code, p, .runOn⟩ }
          flash := f
          tru := r } ∧
      w = (fileFault code s).wrs.working ∧ f.feed = none ∧ f.step = none := by
  obtain ⟨w, x, e⟩ := fileFault_eq code s
  rw [e, State.abortStarts, stopWork_eq]
  exact ⟨w, x, _, _, rfl, rfl, rfl, rfl⟩

theorem fileFault_closing (phase : s.wsq.phase = some .closing) (code : FaultCode) :
    fileFault code s = { s with wsq.lastFault := .fault code } := by
  simp [fileFault, State.recordOpen, phase]

/-- What a path before current ends is the weld, at once (R118). -/
theorem beginPath_early (hold : holdCode code = true) (early : p ∈ [WeldPhase.check, .touch, .claimWait]) (s : State) :
    ∃ v, beginPath code p s = endWeld .notStarted (.fault code) none v ∧ v.motionHeld = s.motionHeld ∧
      executing v = executing s ∧ (p = .claimWait → v.sht.claims = removeClaim s.node s.sht.claims) := by
  cases p with
  | check => exact ⟨_, abortCheck_hold hold s, rfl, rfl, nofun⟩
  | touch => exact ⟨_, abortBeforeCurrent_hold hold _, rfl, rfl, nofun⟩
  | claimWait =>
    have path := yieldOwn_path s
    refine ⟨_, abortBeforeCurrent_hold hold _, path.motionHeld, ?_, fun _ => yieldOwn_claims s⟩
    rw [executing, path.orq]
    rfl
  | _ => simp at early

section
variable (applies : holdApplies s = true) (unheld : s.wsq.station ≠ .faultHold) (phase : s.wsq.phase = some p)

/-- A weld that is over with its NOT_STARTED notice sent. -/
def endedNotStarted (s t : State) (reason : Reason) : Prop :=
  t.wsq.phase = none ∧ t.wsq.returnState = some .clamped ∧
    ∀ o, executing s = some o → s.wsq.station ≠ .clamping → s.wsq.station ≠ .unclamping →
      TxFrame.mk .notice o.src (doneBody o.tag o.kind.code .notStarted reason none) .doneNotice ∈ outgoing t

theorem endedNotStarted_of_endWeld (held : t.motionHeld = true) (reason : Reason)
    (runs : s.wsq.station ≠ .clamping → s.wsq.station ≠ .unclamping → executing t = executing s) :
    endedNotStarted s (endWeld .notStarted reason none t) reason := by
  obtain ⟨over', returns, -⟩ := endWeld_returns held .notStarted reason none
  refine ⟨over', returns, fun o executes unclamping unlocking => ?_⟩
  rw [outgoing_endWeld _ _ _ _ o ((runs unclamping unlocking).trans executes)]
  exact List.mem_append_right _ (List.mem_singleton_self _)

theorem awaitsDriveOff_phase (phase : s.wsq.phase = some p) (other : ¬flashPhase p) : awaitsDriveOff s = false := by
  rw [awaitsDriveOff, phase]
  have none_of : (some p == some WeldPhase.preheat || some p == some .flash || some p == some .boost) = false := by
    simpa [flashPhase, and_assoc] using other
  rw [none_of, Bool.and_false]

include applies unheld phase

/-- CLOSING goes on. -/
theorem reportHold_closing (closes : p = .closing) (unended : s.wsq.ending = none) :
    let t := reportHold code s
    (t.wsq.phase = some p ∧ t.wsq.barred = true) ∧ t.wrs = s.wrs ∧ t.wsq.lastFault = .fault code := by
  subst closes
  obtain ⟨⟨f, wsq⟩, -, -, quiet, -⟩ := holdEntered_weld code s
  obtain ⟨-, -, wrs, -⟩ := quiet (awaitsDriveOff_phase phase (by simp [flashPhase]))
  rw [reportHold_entered applies unheld]
  generalize s.holdEntered code = c at wsq wrs
  have phase' : c.wsq.phase = some .closing := by rw [wsq]; exact phase
  have barred : c.wsq.barred = true := by rw [wsq, State.welding, phase]; exact Bool.or_true _
  have unended' : c.wsq.ending = none := by rw [wsq, unended]; rfl
  have filed : reportFault code c = { c with wsq.lastFault := .fault code } :=
    (reportFault_filed (by simp [mayAbort, phase'])).trans (fileFault_closing phase' code)
  rw [filed, endBegunEnding_unbegun (by simp [unended'])]
  exact ⟨⟨phase', barred⟩, wrs, rfl⟩

/-- A begun NOT_STARTED ending ends. -/
theorem reportHold_begun {e : Ending} (before : p ≠ .closing) (ending : s.wsq.ending = some e) (begun : e.begun = true) :
    endedNotStarted s (reportHold code s) e.reason := by
  obtain ⟨⟨f, wsq⟩, -, runs, -, -⟩ := holdEntered_weld code s
  obtain ⟨held, -⟩ := holdEntered_head code s
  rw [reportHold_entered applies unheld]
  generalize s.holdEntered code = c at wsq runs held
  have ending' : c.wsq.ending = some { e with moving := false } := by rw [wsq, ending]; rfl
  have filed : reportFault code c = fileFault code c := reportFault_filed (by simp [mayAbort, endingBegun, ending', begun])
  obtain ⟨w, x, form⟩ := fileFault_eq code c
  rw [filed, form, endBegunEnding_begun (e := { e with moving := false }) (by exact ending') begun]
  exact endedNotStarted_of_endWeld (t := { c with wrs.working := w, wsq.lastFault := x }) held e.reason runs

/-- The fault finds a path under way: it is filed, and the path's retract is stopped. -/
theorem reportHold_aborting (hold : holdCode code = true) {a : Abort} (before : p ≠ .closing) (unended : s.wsq.ending = none)
    (abort : s.wsq.abort = some a) :
    let t := reportHold code s
    (t.wsq.phase = some p ∧ t.wsq.barred = true) ∧ files s t p [(code, .abort)] ∧ t.wsq.upsetTimer = none ∧
      (∀ target, a.step = .retracting target → t.wsq.abort = some { a with step := .retractStopped target }) ∧
      (a.step = .driveIdle → p ∈ [WeldPhase.preheat, .flash, .boost] →
        t.wsq.abort = some { a with step := .retractWait } ∧ t.sht.claims = removeClaim s.node s.sht.claims) ∧
      (a.step = .retractWait ∨ a.step = .runOn → t.wsq.abort = some a) := by
  obtain ⟨⟨f, wsq⟩, working, -, quiet, awaited⟩ := holdEntered_weld code s
  obtain ⟨-, -, -, -, -, -, -, -, -, -, ⟨-, -, -, time, -⟩, -⟩ := holdEntered_head code s
  rw [reportHold_entered applies unheld]
  generalize s.holdEntered code = c at wsq working quiet awaited time
  have phase' : c.wsq.phase = some p := by rw [wsq]; exact phase
  have barred : c.wsq.barred = true := by rw [wsq, State.welding, phase]; exact Bool.or_true _
  have unended' : c.wsq.ending = none := by rw [wsq, unended]; rfl
  have timer : c.wsq.upsetTimer = none := by rw [wsq]
  have idle (step : a.step ≠ .driveIdle) : awaitsDriveOff s = false := by simp [awaitsDriveOff, abort, step]
  have under_way : c.wsq.abort.isSome = true := by
    cases waits : awaitsDriveOff s with
    | false => rw [(quiet waits).1, abort]; rfl
    | true =>
      obtain ⟨b, -, waiting, -⟩ := awaited waits
      rw [waiting]
      rfl
  have filed : reportFault code c = fileFault code c := reportFault_filed (by simp [mayAbort, State.aborting, under_way])
  have entry := fileFault_files (code := code) phase' before
  rw [severity_hold hold] at entry
  obtain ⟨w, x, form⟩ := fileFault_eq code c
  rw [form] at entry
  rw [filed, form, endBegunEnding_unbegun (s := { c with wrs.working := w, wsq.lastFault := x }) (by simp [unended'])]
  refine ⟨⟨phase', barred⟩, files_from working time entry, timer, fun target step => ?_, fun step flashes => ?_,
    fun step => ?_⟩
  · have kept := (quiet (idle (by rw [step]; nofun))).1
    rw [abort] at kept
    refine kept.trans ?_
    simp [Abort.held, step]
  · have waits : awaitsDriveOff s = true := by
      simp only [List.mem_cons, List.not_mem_nil, or_false] at flashes
      rcases flashes with rfl | rfl | rfl <;> simp [awaitsDriveOff, abort, step, phase]
    obtain ⟨b, same, waiting, claims⟩ := awaited waits
    cases abort.symm.trans same
    exact ⟨waiting, claims⟩
  · have kept := (quiet (idle (by rcases step with h | h <;> rw [h] <;> nofun))).1
    rw [abort] at kept
    refine kept.trans ?_
    rcases step with h | h <;> simp [Abort.held, h]

section
variable (hold : holdCode code = true) (going : s.wsq.abort = none) (unended : s.wsq.ending = none) (before : p ≠ .closing)
include hold going unended before

/-- The path of a fresh weld begins, in a held station with its drive off. -/
theorem reportHold_starts :
    ∃ c w x f r y,
      y = { c with
          wrs.working := w
          wsq := { c.wsq with
            lastFault := x, contactTimer := none, openTimer := none, upsetTimer := none, flashTimer := none
            abort := some ⟨code, p, .runOn⟩ }
          flash := f
          tru := r } ∧
      reportHold code s = endBegunEnding (beginPath code p y) ∧ c.motionHeld = true ∧ c.cdr.isOff ∧ c.sht = s.sht ∧
      c.node = s.node ∧ f.feed = none ∧ f.step = none ∧ files s y p [(code, .abort)] ∧
      c.wsq.phase = some p ∧ c.wsq.barred = true ∧ c.wsq.ending = none ∧ c.wsq.upsetMark = s.wsq.upsetMark ∧
      c.wsq.holdTimer = s.wsq.holdTimer ∧ c.wsq.coolTimer = s.wsq.coolTimer ∧
      (s.wsq.station ≠ .clamping → s.wsq.station ≠ .unclamping → executing c = executing s) := by
  obtain ⟨⟨f, wsq⟩, working, runs, quiet, -⟩ := holdEntered_weld code s
  obtain ⟨held, -, -, -, -, -, -, -, -, off, ⟨-, node, -, time, -⟩, -⟩ := holdEntered_head code s
  obtain ⟨abort, mark, -, sht⟩ := quiet (by simp [awaitsDriveOff, going])
  rw [reportHold_entered applies unheld]
  generalize s.holdEntered code = c at wsq working runs held off node time abort mark sht
  have phase' : c.wsq.phase = some p := by rw [wsq]; exact phase
  have barred : c.wsq.barred = true := by rw [wsq, State.welding, phase]; exact Bool.or_true _
  have unended' : c.wsq.ending = none := by rw [wsq, unended]; rfl
  have going' : c.wsq.abort = none := by rw [abort, going]; rfl
  have starts := reportFault_starts (severity_hold hold _) phase' before going' (endingBegun_unended unended')
  obtain ⟨w, x, g, r, form, written, feed, step⟩ := fileFault_abortStarts code p c
  have entry := fileFault_files (code := code) phase' before
  rw [severity_hold hold] at entry
  refine ⟨c, w, x, g, r, _, rfl, ?_, held, off, sht, node, feed, step, ?_, phase', barred, unended', mark, ?_, ?_, runs⟩
  · rw [starts, form]
  · exact files_from working time (files_congr written entry)
  · rw [wsq]
  · rw [wsq]

/-- In CHECK, TOUCH and CLAIM_WAIT the weld ends NOT_STARTED at once. -/
theorem reportHold_early (early : p ∈ [WeldPhase.check, .touch, .claimWait]) :
    endedNotStarted s (reportHold code s) (.fault code) ∧
      (p = .claimWait → (reportHold code s).sht.claims = removeClaim s.node s.sht.claims) := by
  obtain ⟨c, w, x, f, r, y, form, e, held, -, sht, node, -, -, -, -, -, -, -, -, -, runs⟩ :=
    reportHold_starts applies unheld phase hold going unended before
  obtain ⟨v, ends, still, executes, claims⟩ := beginPath_early hold early y
  have held' : v.motionHeld = true := by rw [still, form]; exact held
  rw [e, ends, endBegunEnding_unbegun (by rw [endWeld_ending]; nofun)]
  refine ⟨endedNotStarted_of_endWeld held' _ fun unclamping unlocking => ?_, fun waits => ?_⟩
  · rw [executes, form]
    exact runs unclamping unlocking
  · have kept : (endWeld .notStarted (.fault code) none v).sht = v.sht := by simp
    rw [kept, claims waits, form]
    show removeClaim c.node c.sht.claims = _
    rw [node, sht]

/-- From PREHEAT to BOOST the abort retract waits for CLEAR. -/
theorem reportHold_flashPhase (flashes : p ∈ [WeldPhase.preheat, .flash, .boost]) :
    let t := reportHold code s
    (t.wsq.phase = some p ∧ t.wsq.barred = true) ∧ files s t p [(code, .abort)] ∧
      t.wsq.abort = some ⟨code, p, .retractWait⟩ ∧ t.sht.claims = removeClaim s.node s.sht.claims ∧ t.flash.feed = none ∧
      t.flash.step = none := by
  have three : flashPhase p := by simpa [flashPhase] using flashes
  obtain ⟨c, w, x, f, r, y, form, e, held, off, sht, node, feed, step, entry, phase', barred, unended', -, -, -, -⟩ :=
    reportHold_starts applies unheld phase hold going unended before
  have held' : y.motionHeld = true := by rw [form]; exact held
  have blocked : y.cdr.drive = .blocked := by rw [form]; exact off.1
  have retracts : beginPath code p y = setStep .retractWait (yieldOwn (platenHold y)) := by
    have still : (yieldOwn (platenHold y)).motionHeld = true := (yieldOwn_path _).motionHeld.trans held'
    rw [beginPath_flashPhase three, abortFlash, if_neg (by simp [blocked]), beginRetract, if_pos still]
  have path := abortFlash_path y
  rw [← beginPath_flashPhase three code] at path
  obtain ⟨wsq, -⟩ := path.unclosed (.inr held')
  have ending : (beginPath code p y).wsq.ending = none := by rw [wsq, form]; exact unended'
  have quiet : yieldOwn (platenHold y) = yieldClaim (platenHold y) :=
    if_neg fun lost => by simpa [blocked] using lost.1
  have claims := yieldOwn_claims (platenHold y)
  have flash := path.flash (by rw [form]; rfl)
  rw [e, endBegunEnding_unbegun (by rw [ending]; nofun)]
  refine ⟨⟨?_, ?_⟩, files_mapped path.faults entry, ?_, ?_, ?_, ?_⟩
  · rw [wsq, form]; exact phase'
  · rw [wsq, form]; exact barred
  · have kept : (yieldClaim (platenHold y)).wsq = y.wsq := by simp
    rw [retracts, quiet]
    show (yieldClaim (platenHold y)).wsq.abort.map _ = _
    rw [kept, form]
    rfl
  · rw [retracts]
    refine claims.trans ?_
    rw [form]
    show removeClaim c.node c.sht.claims = _
    rw [node, sht]
  · rw [flash, form]; exact feed
  · rw [flash, form]; exact step

/-- From UPSET to COOL the phase is kept to run on. -/
theorem reportHold_later (late : p ∈ [WeldPhase.upset, .hold, .trim, .cool]) :
    let t := reportHold code s
    (t.wsq.phase = some p ∧ t.wsq.barred = true) ∧ files s t p [(code, .abort)] ∧
      t.wsq.abort = some ⟨code, p, .runOn⟩ ∧ t.wsq.upsetTimer = none ∧ t.wsq.holdTimer = s.wsq.holdTimer ∧
      t.wsq.coolTimer = s.wsq.coolTimer ∧
      (p = .upset → t.wsq.upsetMark = false ∧
        (s.wsq.upsetMark = true → t.sht.claims = removeClaim s.node s.sht.claims)) := by
  obtain ⟨c, w, x, f, r, y, form, e, held, off, sht, node, -, -, entry, phase', barred, unended', mark, holdTimer, coolTimer, -⟩ :=
    reportHold_starts applies unheld phase hold going unended before
  have held' : y.motionHeld = true := by rw [form]; exact held
  rw [e]
  have stays (still : beginPath code p y = y) (other : p ≠ .upset) :
      let t := endBegunEnding (beginPath code p y)
      (t.wsq.phase = some p ∧ t.wsq.barred = true) ∧ files s t p [(code, .abort)] ∧
        t.wsq.abort = some ⟨code, p, .runOn⟩ ∧ t.wsq.upsetTimer = none ∧ t.wsq.holdTimer = s.wsq.holdTimer ∧
        t.wsq.coolTimer = s.wsq.coolTimer ∧
        (p = .upset → t.wsq.upsetMark = false ∧
          (s.wsq.upsetMark = true → t.sht.claims = removeClaim s.node s.sht.claims)) := by
    have unended'' : y.wsq.ending = none := by rw [form]; exact unended'
    rw [still, endBegunEnding_unbegun (by rw [unended'']; nofun)]
    refine ⟨?_, entry, ?_⟩
    · rw [form]; exact ⟨phase', barred⟩
    · rw [form]; exact ⟨rfl, rfl, holdTimer, coolTimer, fun upsets => absurd upsets other⟩
  cases p with
  | upset =>
    have phase'' : y.wsq.phase = some .upset := by rw [form]; exact phase'
    have barred'' : y.wsq.barred = true := by rw [form]; exact barred
    have abort'' : y.wsq.abort = some ⟨code, .upset, .runOn⟩ := by rw [form]
    have holdTimer'' : y.wsq.holdTimer = s.wsq.holdTimer := by rw [form]; exact holdTimer
    have coolTimer'' : y.wsq.coolTimer = s.wsq.coolTimer := by rw [form]; exact coolTimer
    have only := endUpsetCurrent_only (awaitsDriveOff_upset phase'')
    have aborts : beginPath code .upset y = { endUpsetCurrent y with wsq.upsetTimer := none } := by
      have timer : (if y.motionHeld then none else some y.sched.upsetTimeMs) = none := if_pos held'
      show { endUpsetCurrent y with wsq.upsetTimer := if y.motionHeld then none else some y.sched.upsetTimeMs } = _
      rw [timer]
    have wsq := only.wsq
    have ending : (endUpsetCurrent y).wsq.ending = none := by rw [wsq, form]; exact unended'
    have faults := (endUpsetCurrent_path y).faults
    rw [aborts, endBegunEnding_unbegun (s := { endUpsetCurrent y with wsq.upsetTimer := none }) (by simp [ending])]
    refine ⟨⟨?_, ?_⟩, files_mapped faults entry, ?_, rfl, ?_, ?_, fun _ => ⟨?_, fun marked => ?_⟩⟩
    · exact (congrArg (·.phase) wsq).trans phase''
    · exact (congrArg (·.barred) wsq).trans barred''
    · exact (congrArg (·.abort) wsq).trans abort''
    · exact (congrArg (·.holdTimer) wsq).trans holdTimer''
    · exact (congrArg (·.coolTimer) wsq).trans coolTimer''
    · exact congrArg (·.upsetMark) wsq
    · have marked' : y.wsq.upsetMark = true := by rw [form]; exact mark.trans marked
      have ends : endUpsetCurrent y = yieldOwn (normalOff { y with wsq.upsetMark := false }) := if_pos marked'
      show (endUpsetCurrent y).sht.claims = _
      rw [ends, (normalOff_path { y with wsq.upsetMark := false }).yieldOwn_claims, form]
      show removeClaim c.node c.sht.claims = _
      rw [node, sht]
  | hold | cool => exact stays rfl (by decide)
  | trim => exact stays (abortTrim_held held') (by decide)
  | check | touch | claimWait | preheat | flash | boost | closing => simp at late

end

end

end

end Sys2Proof.Machine

/-! Slip and plausibility as a whole (O48). -/

namespace Sys2Proof.Machine

section
variable {s : State} {code : FaultCode} {p : WeldPhase}

theorem holdApplies_iff (s : State) :
    holdApplies s = true ↔ s.configured = true ∧ s.wsq.station ≠ .listening ∧ s.pcu.clamp ≠ some .open := by
  simp [holdApplies, State.clampsNotOpen, and_assoc]

/-! ### The report holds the station (R8, R35, R37, R123) -/

section
variable (hold : holdCode code = true) (applies : holdApplies s = true) (unheld : s.wsq.station ≠ .faultHold)
include hold applies unheld

theorem reportHold_kept : HoldKept (s.holdEntered code) (reportHold code s) := by
  obtain ⟨held, -⟩ := holdEntered_head code s
  have kept := reportFault_holdKept hold held
  rw [reportHold_entered applies unheld]
  exact kept.trans (endBegunEnding_holdKept (kept.motionHeld.trans held))

theorem reportHold_mode : (reportHold code s).pcu.mode = .hold := by
  obtain ⟨held, -, -, -, -, platen, -⟩ := holdEntered_head code s
  rw [reportHold_entered applies unheld]
  exact (endBegunEnding_mode _).trans (platen.reportFault held code).mode

/-- With no weld in progress the fault is the last one, and RECOVER is remembered. -/
theorem reportHold_unwelding (phase : s.wsq.phase = none) :
    let t := reportHold code s
    t.wsq.lastFault = .fault code ∧ t.wsq.recoverTimer = s.wsq.recoverTimer ∧
      (s.wsq.station = .recover → s.wsq.ending = none → t.wsq.returnState = some .recover) := by
  obtain ⟨held, -, back, -, recover, -⟩ := holdEntered_head code s
  obtain ⟨⟨f, wsq⟩, -⟩ := holdEntered_weld code s
  have kept := reportHold_kept hold applies unheld
  have entered : reportHold code s = endBegunEnding (reportFault code (s.holdEntered code)) := reportHold_entered applies unheld
  generalize reportHold code s = t at kept entered
  generalize s.holdEntered code = c at held back recover wsq kept entered
  have phase' : c.wsq.phase = none := by rw [wsq]; exact phase
  have filed : reportFault code c = { c with wsq.lastFault := .fault code } :=
    (reportFault_filed (by simp [mayAbort, State.welding, phase'])).trans (fileFault_unwelding phase')
  have held' : ({ c with wsq.lastFault := .fault code } : State).motionHeld = true := held
  rw [filed] at entered
  refine ⟨?_, kept.recover.trans recover, fun recovers unended => ?_⟩
  · rw [entered, endBegunEnding]
    split
    · next e _ =>
      obtain ⟨-, -, last⟩ := endWeld_returns held' .notStarted e.reason none
      split
      · exact last
      · rfl
    · rfl
  · have unended' : c.wsq.ending = none := by rw [wsq, unended]; rfl
    rw [entered, endBegunEnding_unbegun (s := { c with wsq.lastFault := .fault code }) (by simp [unended'])]
    exact back.trans ((faultStation_enters unheld).2.2 recovers)

/-- What the report leaves of the station and of its outputs. -/
theorem reportHold_head :
    let t := reportHold code s
    t.wsq.station = (if s.wsq.station = .stopped then .stopped else .faultHold) ∧
      (s.wsq.station = .stopped → t.wsq.returnFault = true) ∧ t.pcu.clampValve = .hold ∧ t.tru.valve = .hold ∧
      t.cdr.drive = .blocked ∧ t.pcu.shoe = none ∧ sameBase s t := by
  obtain ⟨-, station, -, fault, -, -, shoe, clampValve, valve, off, base, -⟩ := holdEntered_head code s
  obtain ⟨enters, faulty, -⟩ := faultStation_enters unheld
  have kept := reportHold_kept hold applies unheld
  exact ⟨kept.station.trans (station.trans enters), fun stopped => kept.fault.trans (fault.trans (faulty stopped)),
    kept.clamp.2.1.trans clampValve, kept.valve.trans valve, (kept.cdr.off off).1, kept.shoe shoe,
    sameBase_trans base kept.base⟩

/-- What the report leaves of the clamps and of the detectors. -/
theorem reportHold_clamps :
    let t := reportHold code s
    (s.pcu.clamp = some .closed → t.pcu.clamp = some .closed ∧ t.pcu.topUp = false ∧
      (s.pcu.topUp = true → t.pcu.slip = .armed ∧ t.pcu.slipCount = 0 ∧ t.pcu.clampTimer = none)) ∧
      (s.pcu.clamp = some .closing ∨ s.pcu.clamp = some .opening →
        t.pcu.clamp = s.pcu.clamp ∧ t.pcu.stopped = true ∧ t.pcu.clampTimer = none) ∧
      (s.pcu.topUp = false → t.pcu.slip = s.pcu.slip ∧ t.pcu.slipCount = s.pcu.slipCount) ∧
      t.pcu.tripped = s.pcu.tripped ∧ t.pcu.plausibleRun = s.pcu.plausibleRun := by
  obtain ⟨-, -, -, -, -, -, -, -, -, -, -, closed, moving, detector, tripped, run⟩ := holdEntered_head code s
  have kept := reportHold_kept hold applies unheld
  obtain ⟨clamp, -, timer, stopped, top⟩ := kept.clamp
  obtain ⟨slip, count, tripped', run'⟩ := kept.detectors
  intro t
  rw [clamp, timer, stopped, top, slip, count, tripped', run']
  exact ⟨closed, moving, detector, tripped, run⟩

end

/-! ### The report is filed, and that is all (R8, R28) -/

theorem fileFault_only (code : FaultCode) (s : State) :
    let t := fileFault code s
    t.cdr = s.cdr ∧ t.tru = s.tru ∧ t.orq = s.orq ∧ t.lkc = s.lkc ∧ t.sht = s.sht ∧ t.stl = s.stl ∧ t.pcu = s.pcu ∧
      sameBase s t ∧ (s.wsq.phase = none → t.wsq = { s.wsq with lastFault := .fault code } ∧ t.wrs = s.wrs) ∧
      (∀ p, s.wsq.phase = some p → p ≠ .closing → s.wrs.working.isSome = true →
        t.wsq = s.wsq ∧ files s t p [(code, code.severity s.cdr.overcurrentCount)]) := by
  obtain ⟨w, x, e⟩ := fileFault_eq code s
  intro t
  have form : t = _ := e
  refine ⟨by rw [form], by rw [form], by rw [form], by rw [form], by rw [form], by rw [form], by rw [form],
    by rw [form]; exact ⟨rfl, rfl, rfl, rfl, rfl⟩, fun unwelding => ?_, fun p phase before opened => ⟨?_, fileFault_files phase before⟩⟩
  · have filed : t = { s with wsq.lastFault := .fault code } := fileFault_unwelding unwelding
    rw [filed]
    exact ⟨rfl, rfl⟩
  · have last : t.wsq.lastFault = s.wsq.lastFault := fileFault_last phase before opened
    rw [form] at last ⊢
    show { s.wsq with lastFault := x } = s.wsq
    rw [show x = s.wsq.lastFault from last]

theorem reportHold_unapplied (unapplied : holdApplies s ≠ true) (code : FaultCode) : reportHold code s = fileFault code s := by
  rw [reportHold, if_pos (by simp [unapplied])]

theorem reportHold_again (applies : holdApplies s = true) (held : s.wsq.station = .faultHold) (code : FaultCode) :
    reportHold code s = reportFault code s := by
  rw [reportHold, if_neg (by simp [applies]), if_pos held]

/-- Where no weld can be aborted by it, the report in FAULT_HOLD is filed. -/
theorem reportHold_filed (h : holdApplies s ≠ true ∨
      (holdApplies s = true ∧ s.wsq.station = .faultHold) ∧ (s.wsq.phase = none ∨ s.wsq.abort.isSome = true))
    (code : FaultCode) : reportHold code s = fileFault code s := by
  obtain unapplied | ⟨⟨applies, held⟩, settled⟩ := h
  · exact reportHold_unapplied unapplied code
  · have may_not : mayAbort s = false := by
      rcases settled with h | h <;> simp [mayAbort, State.welding, State.aborting, h]
    rw [reportHold_again applies held, reportFault_filed may_not]

/-- Where the station is not newly held, the detectors and the platen stay as the event has set them. -/
theorem reportHold_unheld (hold : holdCode code = true) (h : ¬(holdApplies s = true ∧ s.wsq.station ≠ .faultHold)) :
    let t := reportHold code s
    HoldKept s t ∧ (s.pcu.mode = .hold → t.pcu.mode = .hold) := by
  intro t
  by_cases applies : holdApplies s = true
  · have held : s.wsq.station = .faultHold := Classical.byContradiction fun unheld => h ⟨applies, unheld⟩
    have motion : s.motionHeld = true := by simp [State.motionHeld, held]
    have again : t = reportFault code s := reportHold_again applies held code
    rw [again]
    exact ⟨reportFault_holdKept hold motion, fun mode => (PlatenHeld.reportFault ⟨mode, .inr motion⟩ motion code).mode⟩
  · have filed : t = fileFault code s := reportHold_unapplied applies code
    obtain ⟨-, -, -, -, -, -, pcu, -⟩ := fileFault_only code s
    rw [filed]
    exact ⟨fileFault_holdKept code s, fun mode => by rw [pcu]; exact mode⟩

end

/-- Settles O48. -/
theorem slipAndPlausibility : Obligations.SlipAndPlausibility := by
  intro s awake after held again freshWeld withdrawn notStarted holds holdsWeld onlyFiled unheld
  have gone (t : State) (claims : t.sht.claims = removeClaim s.node s.sht.claims) : withdrawn t :=
    claims.trans (removeClaim_eq_filter _ _)
  have applies_iff (q : Pcu) (clamp : q.clamp = s.pcu.clamp) : holdApplies { s with pcu := q } = true ↔ after := by
    rw [holdApplies_iff]
    show (s.configured = true ∧ s.wsq.station ≠ .listening ∧ q.clamp ≠ some .open) ↔ _
    rw [clamp]
  have weld (code : FaultCode) (hold : holdCode code = true) (q : Pcu) (clamp : q.clamp = s.pcu.clamp) (h : held) :
      holdsWeld (reportHold code { s with pcu := q }) code := by
    have applies := (applies_iff q clamp).mpr h.1
    intro p phase kept filed
    refine ⟨fun closes unended => reportHold_closing (s := { s with pcu := q }) applies h.2 phase closes unended,
      fun early fresh => ?_, fun e before ending begun => reportHold_begun (s := { s with pcu := q }) applies h.2 phase before ending begun,
      fun flashes fresh => ?_, fun late fresh => ?_, fun a before unended abort => ?_⟩
    · have before : p ≠ .closing := by rintro rfl; simp at early
      obtain ⟨ended, claims⟩ :=
        reportHold_early (s := { s with pcu := q }) applies h.2 phase hold fresh.1 fresh.2 before early
      exact ⟨ended, fun waits => gone _ (claims waits)⟩
    · have before : p ≠ .closing := by rintro rfl; simp at flashes
      obtain ⟨still, entry, abort, claims, feed, step⟩ :=
        reportHold_flashPhase (s := { s with pcu := q }) applies h.2 phase hold fresh.1 fresh.2 before flashes
      exact ⟨still, entry, abort, gone _ claims, feed, step⟩
    · have before : p ≠ .closing := by rintro rfl; simp at late
      obtain ⟨still, entry, abort, timer, holdTimer, cool, upsets⟩ :=
        reportHold_later (s := { s with pcu := q }) applies h.2 phase hold fresh.1 fresh.2 before late
      refine ⟨still, entry, abort, timer, holdTimer, cool, fun upset => ?_⟩
      obtain ⟨mark, claims⟩ := upsets upset
      exact ⟨mark, fun marked => gone _ (claims marked)⟩
    · obtain ⟨still, entry, timer, retracting, idle, waits⟩ :=
        reportHold_aborting (s := { s with pcu := q }) applies h.2 phase hold before unended abort
      refine ⟨still, entry, timer, retracting, fun step flashes => ?_, waits⟩
      obtain ⟨waiting, claims⟩ := idle step flashes
      exact ⟨waiting, gone _ claims⟩
  have head (code : FaultCode) (hold : holdCode code = true) (q : Pcu) (clamp : q.clamp = s.pcu.clamp)
      (top : q.topUp = s.pcu.topUp) (h : held) : holds (reportHold code { s with pcu := q }) code := by
    have applies := (applies_iff q clamp).mpr h.1
    obtain ⟨station, fault, clampValve, valve, drive, shoe, base⟩ :=
      reportHold_head (s := { s with pcu := q }) hold applies h.2
    obtain ⟨closed, moving, -⟩ := reportHold_clamps (s := { s with pcu := q }) hold applies h.2
    simp only [clamp, top] at closed moving
    refine ⟨station, fault, reportHold_mode (s := { s with pcu := q }) hold applies h.2, clampValve, valve, drive, shoe,
      reportHold_unwelding (s := { s with pcu := q }) hold applies h.2, closed, moving, ?_, base⟩
    rintro o ⟨-, -, waiting, -⟩ moves runs phase going
    exact reportHold_clampOrder code { s with pcu := q } o waiting applies moves runs phase going
  have filed (code : FaultCode) (hold : holdCode code = true) (q : Pcu) (clamp : q.clamp = s.pcu.clamp) (h : unheld) :
      onlyFiled (reportHold code { s with pcu := q }) code ∧ (reportHold code { s with pcu := q }).pcu = q := by
    have settled := reportHold_filed (s := { s with pcu := q })
      (h.imp (fun other applies => other ((applies_iff q clamp).mp applies))
        (fun ⟨⟨in_force, station⟩, settled⟩ => ⟨⟨(applies_iff q clamp).mpr in_force, station⟩, settled⟩)) code
    obtain ⟨cdr, tru, orq, lkc, sht, stl, pcu, base, unwelding, welding⟩ := fileFault_only code { s with pcu := q }
    rw [severity_hold hold] at welding
    rw [settled]
    exact ⟨⟨cdr, tru, orq, lkc, sht, stl, base, unwelding, welding⟩, pcu⟩
  have other (code : FaultCode) (hold : holdCode code = true) (q : Pcu) (clamp : q.clamp = s.pcu.clamp) (h : ¬held) :=
    reportHold_unheld (s := { s with pcu := q }) hold fun ⟨applies, station⟩ => h ⟨(applies_iff q clamp).mp applies, station⟩
  refine ⟨fun armed closed complete => ?_, fun tripped closed complete => ?_, fun powered untripped bad => ?_,
    fun tripped run => ?_⟩
  · have run : exec .slipDetected s = .next (slips s) := exec_taken rfl awake (by simp [armed, slipComplete, closed, complete])
    refine completes_of run rfl ⟨fun quiet => ?_, fun h => ⟨head .clampSlip rfl _ rfl rfl h, weld .clampSlip rfl _ rfl h⟩,
      filed .clampSlip rfl _ rfl⟩
    by_cases h : held
    · obtain ⟨-, -, detector, -⟩ := reportHold_clamps (s := { s with pcu.slip := .tripped, pcu.slipCount := 0 })
        (code := .clampSlip) rfl ((applies_iff _ rfl).mpr h.1) h.2
      exact detector (quiet.resolve_right (not_not_intro h))
    · obtain ⟨slip, count, -⟩ := (other .clampSlip rfl { s.pcu with slip := .tripped, slipCount := 0 } rfl h).1.detectors
      exact ⟨slip, count⟩
  · exact exec_taken (effect := armSlip) rfl awake (by simp [tripped, slipComplete, closed, complete])
  · have run : exec .implausibleSample s = .next (implausible s) := by
      refine exec_taken rfl awake ?_
      rcases bad with h | h <;> simp [powered, untripped, h]
    let q : Pcu := { (stopShoes (platenHold s)).pcu with tripped := true, plausibleRun := 0 }
    have mode : q.mode = .hold := platenHold_mode s
    refine completes_of (u := reportHold .sensorFault { s with pcu := q }) run rfl ?_
    by_cases h : held
    · obtain ⟨-, -, -, tripped, count⟩ := reportHold_clamps (s := { s with pcu := q })
        (code := .sensorFault) rfl ((applies_iff _ rfl).mpr h.1) h.2
      have all_held := head .sensorFault rfl q rfl rfl h
      obtain ⟨-, -, still, -, -, -, shoe, -⟩ := id all_held
      exact ⟨tripped, count, still, shoe, fun _ => ⟨all_held, weld .sensorFault rfl q rfl h⟩, fun no => (filed .sensorFault rfl q rfl no).1⟩
    · obtain ⟨kept, still⟩ := other .sensorFault rfl q rfl h
      obtain ⟨-, -, tripped, count⟩ := kept.detectors
      exact ⟨tripped, count, still mode, kept.shoe rfl, fun yes => absurd yes h, fun no => (filed .sensorFault rfl q rfl no).1⟩
  · exact exec_taken (effect := fun s => { s with pcu.tripped := false }) rfl awake (by simp [tripped, run])

end Sys2Proof.Machine

/-! CLEAR: its answer, and the return of a station without a weld (O26). -/

namespace Sys2Proof.Machine

section
variable {s : State} {src tag : Nat}

/-! ### CLEAR is handled (R103, R110, R111) -/

/-- TRU has taken up its movement, and the stop state is RUN. -/
def State.takenUp (s : State) : State := truTakeUp { s with stl.stop := .run }

/-- The STOP notice of a change of the stop state, from the state that the station has returned to. -/
def State.stopFrames (s t : State) : List TxFrame :=
  if s.stl.stop = .held then [⟨.notice, 15, stopBody t.stl.stop t.wsq.station t.wsq.phase t.aborting, .notice⟩] else []

theorem clearAccepted_iff (s : State) :
    clearAccepted s = true ↔ s.stl.stop = .held ∨ (s.stl.stop = .run ∧ s.wsq.station = .faultHold) := by
  simp [clearAccepted]

/-- What follows the return of the station: a STOP notice where the stop state has changed, and the answer. -/
theorem handleClear_sent (ok : clearAccepted s = true) (loaded : (wsqClear s.takenUp).wsq.station ≠ .loading) :
    ∃ x q l, handleClear src tag s =
        { wsqClear s.takenUp with lkc.wait := x, lkc.queue := q, lkc.waiters := l } ∧
      q ++ l = outgoing (wsqClear s.takenUp) ++ s.stopFrames (wsqClear s.takenUp) ++
        [answerFrame src 17 tag 0 .none [] .answer] := by
  have answers : handleClear src tag s = sendAnswer src 17 tag 0 .none [] .answer (actClear s) := if_pos ok
  have acts : actClear s =
      if s.stl.stop = .held then stopNotice (wsqClear s.takenUp) else wsqClear s.takenUp := rfl
  rw [answers, acts]
  generalize wsqClear s.takenUp = y at loaded
  unfold State.stopFrames
  split
  · obtain ⟨x, q, l, notified, joined⟩ := sendOther_outgoing
      ⟨.notice, 15, stopBody y.stl.stop y.wsq.station y.wsq.phase y.aborting, .notice⟩ y (.inr (.inl rfl))
    have notice : stopNotice y = { y with lkc.wait := x, lkc.queue := q, lkc.waiters := l } := (if_neg loaded).trans notified
    obtain ⟨x', q', l', sent, joined'⟩ := sendAnswer_eq src 17 tag 0 .none [] .answer
      { y with lkc.wait := x, lkc.queue := q, lkc.waiters := l } (.inl rfl)
    refine ⟨x', q', l', by rw [notice, sent], joined'.trans ?_⟩
    rw [← joined]
    rfl
  · obtain ⟨x, q, l, sent, joined⟩ := sendAnswer_eq src 17 tag 0 .none [] .answer y (.inl rfl)
    exact ⟨x, q, l, sent, by rw [joined, List.append_nil]⟩

/-- CLEAR is handled on arrival, whatever is held from a wake. -/
theorem exec_clear (now : takesOrdersNow { s with orq.heldList := [] }) :
    ∃ w i, exec (.clear src tag) s = .next (takeHeldOrders (handleClear src tag (s.forOrder w i))) := by
  obtain ⟨awake, configured, not_dormant, not_waking, free, -, running⟩ := now
  have loaded : s.wsq.station ≠ .loading := by intro e; simp [State.configured, e] at configured
  have known : s.wsq.station ≠ .unconfigured := by intro e; simp [State.configured, e] at configured
  obtain ⟨w, run⟩ := receiveOrder_eq (src := src) (b := .clear tag) (s := s) awake loaded
  have here : toHold s (.clear tag) = false := by simp [toHold, not_dormant, not_waking]
  obtain ⟨i, restarts⟩ : ∃ i, restartIdle (.clear tag) (s.forOrder w s.wsq.idleTimer) = s.forOrder w i := by
    unfold restartIdle
    split
    · exact ⟨_, rfl⟩
    · exact ⟨_, rfl⟩
  have handled : handleOrder ⟨src, .clear tag⟩ (s.forOrder w s.wsq.idleTimer) = handleClear src tag (s.forOrder w i) := by
    have pending : (s.forOrder w s.wsq.idleTimer).orq.restartPending = false := running
    have station : (s.forOrder w s.wsq.idleTimer).wsq.station ≠ .unconfigured := known
    rw [handleOrder, if_neg (by simp [refusedUnconfigured, station]), if_neg (by simp [OrderBody.wellFormed]),
      if_neg (by simp [pending]), restarts]
    rfl
  have free' : noOutgoing s = true := free
  rw [deliverOrder_taken free', takeOrder_awake here, handled] at run
  exact ⟨w, i, congrArg _ run⟩

/-- The station as CLEAR finds it, once TRU has taken up its movement. -/
def State.atClear (w : Option Nat) (i : Timer) (r : Tru) (s : State) : State :=
  { s.forOrder w i with stl := { s.stl with stop := .run }, tru := r }

theorem takenUp_eq (w : Option Nat) (i : Timer) (s : State) :
    ∃ r, (s.forOrder w i).takenUp = s.atClear w i r ∧ r.stopped = false ∧
      ((r.state = .advancing ∨ r.state = .atEnd ∨ r.state = .returning) ↔
        (s.tru.state = .advancing ∨ s.tru.state = .atEnd ∨ s.tru.state = .returning)) := by
  refine ⟨(s.forOrder w i).takenUp.tru, ?_, truTakeUp_stopped _, ?_⟩
  · unfold State.takenUp truTakeUp
    dsimp only
    split <;> rfl
  · have state : (s.forOrder w i).takenUp.tru.state = if s.tru.state = .atEnd then .returning else s.tru.state := by
      show (truTakeUp { s.forOrder w i with stl.stop := .run }).tru.state = _
      unfold truTakeUp
      dsimp only [State.forOrder]
      cases at_state : s.tru.state <;> simp [startReturn, at_state]
    rw [state]
    cases s.tru.state <;> simp

/-- CLEAR in a held station: TRU takes up its movement, the station returns, notice and answer follow. -/
theorem clear_returns (now : takesOrdersNow { s with orq.heldList := [] }) (ok : clearAccepted s = true)
    (held : s.motionHeld = true) :
    ∃ w i r, r.stopped = false ∧
      ((r.state = .advancing ∨ r.state = .atEnd ∨ r.state = .returning) ↔
        (s.tru.state = .advancing ∨ s.tru.state = .atEnd ∨ s.tru.state = .returning)) ∧
      ∀ y, returnFromHold (s.atClear w i r) = y → y.wsq.station ≠ .loading →
        ∃ x q l, exec (.clear src tag) s =
            .next (takeHeldOrders { y with lkc.wait := x, lkc.queue := q, lkc.waiters := l }) ∧
          q ++ l = outgoing y ++ s.stopFrames y ++ [answerFrame src 17 tag 0 .none [] .answer] := by
  obtain ⟨w, i, run⟩ := exec_clear (src := src) (tag := tag) now
  obtain ⟨r, taken, stopped, stroke⟩ := takenUp_eq w i s
  refine ⟨w, i, r, stopped, stroke, fun y returned loaded => ?_⟩
  have clears : wsqClear (s.forOrder w i).takenUp = y := by
    rw [taken, ← returned]
    exact if_pos held
  obtain ⟨x, q, l, sent, joined⟩ := handleClear_sent (src := src) (tag := tag) (s := s.forOrder w i) ok (by rw [clears]; exact loaded)
  rw [clears] at sent joined
  exact ⟨x, q, l, by rw [run, sent], joined⟩

/-- CLEAR where no order is held from a wake. -/
theorem clear_completes (now : takesOrdersNow s) (ok : clearAccepted s = true) (held : s.motionHeld = true) :
    ∃ w i r, r.stopped = false ∧
      ((r.state = .advancing ∨ r.state = .atEnd ∨ r.state = .returning) ↔
        (s.tru.state = .advancing ∨ s.tru.state = .atEnd ∨ s.tru.state = .returning)) ∧
      ∀ y, returnFromHold (s.atClear w i r) = y → y.wsq.station ≠ .loading →
        ∃ x q l, exec (.clear src tag) s = .next { y with lkc.wait := x, lkc.queue := q, lkc.waiters := l } ∧
          q ++ l = outgoing y ++ s.stopFrames y ++ [answerFrame src 17 tag 0 .none [] .answer] := by
  obtain ⟨awake, configured, not_dormant, not_waking, free, none_held, running⟩ := now
  obtain ⟨w, i, r, stopped, stroke, returns⟩ := clear_returns (src := src) (tag := tag) (s := s)
    ⟨awake, configured, not_dormant, not_waking, free, rfl, running⟩ ok held
  refine ⟨w, i, r, stopped, stroke, fun y returned loaded => ?_⟩
  obtain ⟨x, q, l, run, joined⟩ := returns y returned loaded
  refine ⟨x, q, l, ?_, joined⟩
  have still : y.orq.heldList = [] := by
    rw [← returned]
    simpa [State.atClear, State.forOrder] using none_held
  rw [run, takeHeldOrders_still (s := { y with lkc.wait := x, lkc.queue := q, lkc.waiters := l }) fun _ => still]

/-! ### The return without a weld (R9) -/

/-- The held station lets go. -/
def State.released (s : State) : State := { s with wsq.returnState := none, wsq.returnFault := false }

theorem returnFromHold_recover (phase : s.wsq.phase = none) (back : s.wsq.returnState = some .recover) :
    returnFromHold s = setStation (if s.wsq.recoverTimer.isSome then .recover else .clamped) s.released := by
  have unwelding : ¬s.welding = true := by simp [State.welding, phase]
  rw [returnFromHold, if_neg unwelding, if_pos back]
  cases s.wsq.recoverTimer <;> rfl

theorem returnFromHold_clamp (phase : s.wsq.phase = none) (back : s.wsq.returnState ≠ some .recover) :
    returnFromHold s = returnByClamp s.released := by
  have unwelding : ¬s.welding = true := by simp [State.welding, phase]
  rw [returnFromHold, if_neg unwelding, if_neg back]
  rfl

/-- The state that a station without a weld returns to with its clamps at rest. -/
def State.restStation (s : State) : StationState :=
  if s.wsq.returnState = some .recover then if s.wsq.recoverTimer.isSome then .recover else .clamped
  else if s.pcu.clamp = some .closed then .clamped else .idle

/-- With the clamps at rest the station returns by its return state, or by the clamps. -/
theorem returnFromHold_rest (phase : s.wsq.phase = none) (rest : s.pcu.clamp = some .open ∨ s.pcu.clamp = some .closed) :
    returnFromHold s = setStation s.restStation s.released := by
  unfold State.restStation
  by_cases back : s.wsq.returnState = some .recover
  · rw [returnFromHold_recover phase back, if_pos back]
  · rw [returnFromHold_clamp phase back, if_neg back, returnByClamp]
    rcases rest with e | e
    · simp [State.released, e]
    · simp [State.released, e]

section
variable {w : Option Nat} {i : Timer} {r : Tru}

/-- What the return leaves of a station at CLEAR. -/
theorem setStation_atClear (st : StationState) (phase : s.wsq.phase = none) :
    let y := setStation st (s.atClear w i r).released
    y.wsq.station = st ∧ y.wsq.returnState = none ∧ y.wsq.phase = none ∧ y.aborting = s.aborting ∧
      y.stl = { s.stl with stop := .run } ∧ y.tru = r ∧ sameBase s y ∧ y.orq = s.orq ∧ y.sht = s.sht ∧ y.wrs = s.wrs ∧
      y.cdr = s.cdr ∧ y.flash = s.flash ∧ y.lkc = { s.lkc with wait := w, lineBusy := false } := by
  obtain ⟨d, wsq⟩ := setStation_wsq_eq st (s.atClear w i r).released
  intro y
  refine ⟨by rw [wsq], by rw [wsq]; rfl, ?_, ?_, ?_, ?_, ?_, ?_, ?_, ?_, ?_, ?_, ?_⟩
  · rw [wsq]; exact phase
  · rw [State.aborting, wsq]; rfl
  all_goals simp [y, State.released, State.atClear, State.forOrder, sameBase]

end

/-- What CLEAR sends from a state that has not sent anything yet. -/
theorem clear_frames {y : State} {w : Option Nat} (lkc : y.lkc = { s.lkc with wait := w, lineBusy := false })
    (stop : y.stl = { s.stl with stop := .run }) (phase : y.wsq.phase = none) (aborting : y.aborting = s.aborting) :
    outgoing y ++ s.stopFrames y =
      outgoing s ++
        if s.stl.stop = .held then [⟨.notice, 15, stopBody .run y.wsq.station none s.aborting, .notice⟩] else [] := by
  rw [outgoing, lkc, State.stopFrames, stop, phase, aborting]
  rfl

end

end Sys2Proof.Machine

/-! CLEAR in a weld: the path is taken up at the step it was held at (O26). -/

namespace Sys2Proof.Machine

section
variable {s t u : State} {p : WeldPhase} {a : Abort}

/-! ### A stopped clamp movement (R9, R34) -/

section
variable (back : s.wsq.returnState ≠ some .recover) (phase : s.wsq.phase = none) {st : ClampState}
  (moves : st = .closing ∨ st = .opening) (clamp : s.pcu.clamp = some st)
include back phase moves clamp

/-- A stopped movement is reversed. -/
theorem returnFromHold_reverses (stopped : s.pcu.stopped = true) :
    (returnFromHold s).pcu =
        { s.pcu with
          clamp := some (if st = .closing then .opening else .closing)
          clampValve := if st = .closing then .open else .close
          clampTimer := some s.loc.clampTimeoutMs
          stopped := false
          reversal := true
          topUp := false
          slip := .disarmed
          slipCount := 0 } ∧
      (returnFromHold s).wsq.station = if st = .closing then .unclamping else .clamping := by
  have clamp' : s.released.pcu.clamp = some st := clamp
  have stopped' : s.released.pcu.stopped = true := stopped
  rcases moves with rfl | rfl
  · have reverses : returnByClamp s.released = openRequest true (setStation .unclamping s.released) := by
      simp only [returnByClamp, clamp', stopped', if_true]
    rw [returnFromHold_clamp phase back, reverses, setStation_eq (.inr (by decide))]
    simp only [openRequest, clamp']
    exact ⟨rfl, rfl⟩
  · have reverses : returnByClamp s.released = closeRequest true (setStation .clamping s.released) := by
      simp only [returnByClamp, clamp', stopped', if_true]
    rw [returnFromHold_clamp phase back, reverses, setStation_eq (.inr (by decide))]
    simp only [closeRequest, clamp']
    exact ⟨rfl, rfl⟩

/-- A movement that a reversal timeout has left is settled by the latest pressure. -/
theorem returnFromHold_settles (unstopped : s.pcu.stopped = false) :
    (s.loc.clampRelKn ≤ s.pcu.pressure →
      (returnFromHold s).pcu.clamp = some .closed ∧ (returnFromHold s).wsq.station = .clamped) ∧
      (s.pcu.pressure < s.loc.clampRelKn →
        (returnFromHold s).pcu.clamp = some .open ∧ (returnFromHold s).pcu.clampForceInUse = none ∧
          (returnFromHold s).wsq.station = .idle) := by
  have clamp' : s.released.pcu.clamp = some st := clamp
  have unstopped' : s.released.pcu.stopped = false := unstopped
  have settles : returnFromHold s = returnByClamp.returnSettled (settleClamp s.released) := by
    rw [returnFromHold_clamp phase back]
    rcases moves with rfl | rfl
    · simp only [returnByClamp, clamp', unstopped', Bool.false_eq_true, if_false]
    · simp only [returnByClamp, clamp', unstopped', Bool.false_eq_true, if_false]
  have reads : readsClosed s.released s.released.pcu.pressure = true ↔ s.loc.clampRelKn ≤ s.pcu.pressure := decide_eq_true_iff
  rw [settles]
  refine ⟨fun high => ?_, fun low => ?_⟩
  · have closed : settleClamp s.released = armSlip { s.released with pcu.clamp := some .closed, pcu.reversal := false } :=
      if_pos (reads.mpr high)
    have returns : returnByClamp.returnSettled (settleClamp s.released) = setStation .clamped (settleClamp s.released) := by
      rw [closed]
      exact if_pos rfl
    rw [returns, setStation_station, closed]
    exact ⟨by simp [armSlip], rfl⟩
  · have opened : settleClamp s.released =
        { s.released with pcu.clamp := some .open, pcu.reversal := false, pcu.clampForceInUse := none } :=
      if_neg fun high => absurd (reads.mp high) (Nat.not_le.mpr low)
    have returns : returnByClamp.returnSettled (settleClamp s.released) = setStation .idle (settleClamp s.released) := by
      rw [opened]
      exact if_neg nofun
    rw [returns, setStation_eq (.inr (by decide)), opened]
    exact ⟨rfl, rfl, rfl⟩

end

/-! ### The weld goes on (R9, R122, R123) -/

/-- The held weld lets go. -/
def State.weldReleased (s : State) : State := { s.released with wsq.station := .welding }

theorem returnFromHold_weld (phase : s.wsq.phase = some p) : returnFromHold s = resumeWeld s.weldReleased := by
  have welds : s.welding = true := by simp [State.welding, phase]
  rw [returnFromHold, if_pos welds]
  rfl

/-- What taking up a weld leaves, where current has no part in it. -/
structure WeldGoesOn (s t : State) : Prop where
  base : sameBase s t := by simp [sameBase]
  station : t.wsq.station = s.wsq.station := by simp
  stl : t.stl = s.stl := by simp
  tru : t.tru = s.tru := by simp

theorem WeldGoesOn.refl (s : State) : WeldGoesOn s s := {}

theorem WeldGoesOn.trans (h : WeldGoesOn s t) (k : WeldGoesOn t u) : WeldGoesOn s u where
  base := sameBase_trans h.base k.base
  station := k.station.trans h.station
  stl := k.stl.trans h.stl
  tru := k.tru.trans h.tru

theorem readPull_goesOn (s : State) : WeldGoesOn s (readPull s) := by
  obtain ⟨w, x, e⟩ := readPull_eq s
  rw [e]
  exact {}

theorem endHold_goesOn (aborts : s.wsq.abort.isSome = true) : WeldGoesOn s (endHold s) := by
  rw [endHold_cools (.inl aborts)]
  exact WeldGoesOn.trans (t := s.holdOver) ⟨⟨rfl, rfl, rfl, rfl, rfl⟩, rfl, rfl, rfl⟩ ((readPull_goesOn s.holdOver).trans {})

/-- The phase that is taken up, but for an UPSET that motion-barred ends. -/
theorem resumePhase_goesOn (aborts : s.wsq.abort.isSome = true)
    (other : s.wsq.phase ≠ some .upset ∨ s.wsq.barred = false) : WeldGoesOn s (resumePhase s) := by
  unfold resumePhase
  split
  · next upsets =>
    have unbarred : s.wsq.barred = false := other.resolve_left (not_not_intro upsets)
    rw [resumeUpset, if_neg (by rw [unbarred]; decide)]
    exact {}
  · split
    · exact endHold_goesOn aborts
    · exact .refl s
  · split
    · exact .refl s
    · exact {}
  · split
    · exact {}
    · exact .refl s
  · exact .refl s

theorem resumeAbort_goesOn (aborts : s.wsq.abort.isSome = true)
    (other : a.step ≠ .runOn ∨ s.wsq.phase ≠ some .upset ∨ s.wsq.barred = false) : WeldGoesOn s (resumeAbort a s) := by
  unfold resumeAbort
  split
  · exact .refl s
  · exact {}
  · exact .refl s
  · next target _ =>
    split
    · exact WeldGoesOn.trans (t := setStep .runOn s) {} {}
    · exact WeldGoesOn.trans (t := setStep (.retracting target) s) {} {}
  · next runs => exact resumePhase_goesOn aborts (other.resolve_left (not_not_intro runs))

/-! ### The steps (R119 to R123) -/

/-- CLOSING is entered, and the completed record is written where one is open. -/
theorem enterClosing_closes (s : State) :
    (enterClosing s).wsq.phase = some .closing ∧ (enterClosing s).pcu = s.pcu ∧
      (s.wrs.working.isSome = true → (enterClosing s).wrs.writing.isSome = true) := by
  refine ⟨?_, by simp, fun opened => ?_⟩
  · obtain unopened | ⟨w, opened⟩ := Option.eq_none_or_eq_some s.wrs.working
    · rw [enterClosing_unopened unopened, enterPhase_eq]
    · rw [enterClosing_opened opened, enterPhase_eq]
      rfl
  · obtain ⟨w, opened⟩ := Option.isSome_iff_exists.mp opened
    rw [enterClosing_opened opened]
    rfl

theorem endCool_closes (s : State) :
    (endCool s).wsq.phase = some .closing ∧ (endCool s).pcu.mode = s.pcu.mode ∧
      (s.wrs.working.isSome = true → (endCool s).wrs.writing.isSome = true) := by
  obtain ⟨phase, pcu, writes⟩ := enterClosing_closes { s with
    wsq.coolTimer := none
    wsq.expired := false
    wsq.coolingDone := s.wsq.coolAt.map fun t => (s.now - t) / 1000
    pcu.driftWatch := false }
  exact ⟨phase, congrArg (·.mode) pcu, writes⟩

/-- A retract that waited, or was stopped, is not made with the motion-barred mark: CLOSING is entered. -/
theorem resumeAbort_closes (free : s.motionHeld = false) (barred : s.wsq.barred = true)
    (step : a.step = .retractWait ∨ ∃ target, a.step = .retractStopped target) :
    resumeAbort a s = enterClosing (setStep .runOn s) := by
  rcases step with step | ⟨target, step⟩
  · simp only [resumeAbort, step]
    rw [beginRetract, if_neg (by rw [free]; decide), if_pos barred]
  · simp only [resumeAbort, step]
    exact if_pos barred

theorem resumeAbort_repeats {target : Int} (unbarred : s.wsq.barred = false) (step : a.step = .retractStopped target) :
    resumeAbort a s = platenPosition target (setStep (.retracting target) s) := by
  simp only [resumeAbort, step]
  exact if_neg (by rw [unbarred]; decide)

theorem platenPosition_mode (target : Int) (runs : s.stl.stop = .run) :
    (platenPosition target s).pcu.mode = .position (clampInt 0 s.loc.strokeFwd target) := by
  rw [platenPosition, platenMove, if_pos runs]
  exact if_pos runs

/-- The forge runs on under a fresh time limit. -/
theorem resumeUpset_forges (unbarred : s.wsq.barred = false) (runs : s.stl.stop = .run) :
    ∃ x, resumeUpset s = { s with pcu := x, wsq.upsetTimer := some s.sched.upsetTimeMs } ∧
      x.mode = .force (min (s.wsq.active.upsetForce + s.pcu.forceBasis) s.loc.platenMaxKn) s.sched.upsetSpeed ∧
      x.highForce = s.pcu.highForce := by
  have forges : resumeUpset s = { platenForceAgain s.wsq.active.upsetForce s.sched.upsetSpeed s with
      wsq.upsetTimer := some s.sched.upsetTimeMs } := if_neg (by rw [unbarred]; decide)
  exact ⟨_, forges, if_pos runs, rfl⟩

/-- An UPSET that motion-barred ends, in an aborted weld: HOLD is entered with the platen as it is. -/
theorem endUpset_barred (position peak : Int) (aborts : s.aborting = true) (upsets : s.wsq.phase = some .upset)
    (barred : s.wsq.barred = true) :
    (endUpset position peak s).wsq.station = s.wsq.station ∧ (endUpset position peak s).pcu.mode = s.pcu.mode := by
  have only := endUpsetCurrent_only (s := { s with wsq.upsetTimer := none }) (awaitsDriveOff_upset upsets)
  have calm := only.calm aborts
  have weld := only.wsq
  obtain ⟨w, x, checked, -⟩ := checkUpset_eq (position - s.wsq.upsetStart.getD position)
    { endUpsetCurrent { s with wsq.upsetTimer := none } with
      wsq.upsetDistance := some (position - s.wsq.upsetStart.getD position), wsq.upsetPeak := some peak }
  have ends : endUpset position peak s = enterHold (openWindow (checkUpset (position - s.wsq.upsetStart.getD position)
    { endUpsetCurrent { s with wsq.upsetTimer := none } with
      wsq.upsetDistance := some (position - s.wsq.upsetStart.getD position), wsq.upsetPeak := some peak })) := rfl
  rw [checked] at ends
  generalize endUpsetCurrent { s with wsq.upsetTimer := none } = b at calm weld ends
  obtain ⟨c, form⟩ : ∃ c : State, c =
    { b with
      wsq.upsetDistance := some (position - s.wsq.upsetStart.getD position), wsq.upsetPeak := some peak
      wrs.working := w, wsq.lastFault := x } := ⟨_, rfl⟩
  rw [← form] at ends
  obtain ⟨⟨y, hold⟩, -, still, -⟩ := enterHold_written (openWindow c)
  have wsq : (openWindow c).wsq = c.wsq := by simp
  have pcu : (openWindow c).pcu = c.pcu := by simp
  have barred' : c.wsq.barred = true := by rw [form]; exact (congrArg (·.barred) weld).trans barred
  rw [wsq] at hold still
  rw [ends]
  refine ⟨?_, ?_⟩
  · rw [hold, form]
    exact congrArg (·.station) weld
  · rw [still barred', pcu, form]
    exact congrArg (·.mode) calm

end

end Sys2Proof.Machine

/-! CLEAR ends a hold (O26). -/

namespace Sys2Proof.Machine

section
variable {s : State} {p : WeldPhase} {a : Abort} {src tag : Nat}

/-! ### The step that is taken up, as the statement gives it -/

theorem resumeWeld_closing (phase : s.wsq.phase = some .closing) : resumeWeld s = s := if_pos phase

section
variable (phase : s.wsq.phase = some p) (before : p ≠ .closing)
include phase before

theorem resumeWeld_ending {e : Ending} (ending : s.wsq.ending = some e) : resumeWeld s = resumeEnding e s := by
  have other : s.wsq.phase ≠ some .closing := by rw [phase]; exact fun e => before (Option.some.inj e)
  rw [resumeWeld, if_neg other]
  simp only [ending]

theorem resumeWeld_abort (unended : s.wsq.ending = none) (abort : s.wsq.abort = some a) :
    resumeWeld s = resumeAbort a s := by
  have other : s.wsq.phase ≠ some .closing := by rw [phase]; exact fun e => before (Option.some.inj e)
  rw [resumeWeld, if_neg other]
  simp only [unended, abort]

end

section
variable (free : s.motionHeld = false) (runs : s.stl.stop = .run) (abort : s.wsq.abort = some a)

include free runs abort in
theorem resumeAbort_retracts (step : a.step = .retractWait) (unbarred : s.wsq.barred = false) :
    let target := clampInt 0 s.loc.strokeFwd (s.pcu.position - s.loc.abortRetract)
    (resumeAbort a s).wsq.phase = s.wsq.phase ∧ (resumeAbort a s).pcu.mode = .retract target ∧
      (resumeAbort a s).wsq.abort = some { a with step := .retracting target } := by
  intro target
  have retracts : resumeAbort a s = beginRetract s := by simp only [resumeAbort, step]
  obtain ⟨x, e, mode, -⟩ := beginRetract_free free unbarred runs
  rw [retracts, e]
  refine ⟨rfl, mode, ?_⟩
  show s.wsq.abort.map _ = _
  rw [abort]
  rfl

include runs abort in
theorem resumeAbort_positions {target : Int} (step : a.step = .retractStopped target) (unbarred : s.wsq.barred = false) :
    (resumeAbort a s).wsq.phase = s.wsq.phase ∧
      (resumeAbort a s).pcu.mode = .position (clampInt 0 s.loc.strokeFwd target) ∧
      (resumeAbort a s).wsq.abort = some { a with step := .retracting target } := by
  rw [resumeAbort_repeats unbarred step]
  refine ⟨by simp [setStep], platenPosition_mode (s := setStep (.retracting target) s) target runs, ?_⟩
  simp [setStep, abort]

include free in
theorem resumeAbort_unmade (step : a.step = .retractWait ∨ ∃ target, a.step = .retractStopped target)
    (barred : s.wsq.barred = true) :
    (resumeAbort a s).wsq.phase = some .closing ∧ (resumeAbort a s).pcu.mode = s.pcu.mode ∧
      (s.wrs.working.isSome = true → (resumeAbort a s).wrs.writing.isSome = true) := by
  obtain ⟨closes, pcu, writes⟩ := enterClosing_closes (setStep .runOn s)
  rw [resumeAbort_closes free barred step]
  exact ⟨closes, congrArg (·.mode) pcu, writes⟩

section
variable (on' : a.step = .runOn)
include on'

theorem resumeAbort_runOn : resumeAbort a s = resumePhase s := by simp only [resumeAbort, on']

include runs in
theorem resumeAbort_upset (phase : s.wsq.phase = some .upset) (unbarred : s.wsq.barred = false) :
    (resumeAbort a s).wsq.phase = some .upset ∧ (resumeAbort a s).wsq.upsetTimer = some s.sched.upsetTimeMs ∧
      (resumeAbort a s).pcu.mode =
        .force (min (s.wsq.active.upsetForce + s.pcu.forceBasis) s.loc.platenMaxKn) s.sched.upsetSpeed ∧
      (resumeAbort a s).pcu.highForce = s.pcu.highForce := by
  have takes : resumePhase s = resumeUpset s := by simp only [resumePhase, phase]
  obtain ⟨x, e, mode, high⟩ := resumeUpset_forges unbarred runs
  rw [resumeAbort_runOn on', takes, e]
  exact ⟨phase, rfl, mode, high⟩

theorem resumeAbort_endsUpset (phase : s.wsq.phase = some .upset) (barred : s.wsq.barred = true) :
    resumeAbort a s = endUpset s.pcu.plausPosition s.pcu.highForce s := by
  have takes : resumePhase s = resumeUpset s := by simp only [resumePhase, phase]
  rw [resumeAbort_runOn on', takes]
  exact if_pos barred

include abort in
theorem resumeAbort_hold (phase : s.wsq.phase = some .hold) :
    (s.wsq.expired = false → resumeAbort a s = s) ∧
      (s.wsq.expired = true → s.sched.coolS ≠ 0 → (resumeAbort a s).wsq.phase = some .cool) := by
  have takes : resumePhase s = if s.wsq.expired then endHold s else s := by simp only [resumePhase, phase]
  rw [resumeAbort_runOn on', takes]
  refine ⟨fun running => if_neg (by rw [running]; decide), fun expired lasts => ?_⟩
  rw [if_pos expired, endHold_cools (.inl (by rw [abort]; rfl))]
  obtain ⟨w, x, e⟩ := readPull_eq s.holdOver
  rw [e]
  exact (enterCool_lasts (by exact lasts)).1

theorem resumeAbort_trim (phase : s.wsq.phase = some .trim) (lasts : s.sched.coolS ≠ 0) :
    (resumeAbort a s).wsq.phase =
      some (if s.tru.state = .advancing ∨ s.tru.state = .atEnd ∨ s.tru.state = .returning then .trim else .cool) := by
  have takes : resumePhase s = if strokeUnderWay s then s else enterCool s := by simp only [resumePhase, phase]
  have stroke : strokeUnderWay s = true ↔
      s.tru.state = .advancing ∨ s.tru.state = .atEnd ∨ s.tru.state = .returning := by
    simp [strokeUnderWay, or_assoc]
  rw [resumeAbort_runOn on', takes]
  by_cases under_way : s.tru.state = .advancing ∨ s.tru.state = .atEnd ∨ s.tru.state = .returning
  · rw [if_pos (stroke.mpr under_way), if_pos under_way]
    exact phase
  · rw [if_neg fun h => under_way (stroke.mp h), if_neg under_way]
    exact (enterCool_lasts lasts).1

theorem resumeAbort_cool (phase : s.wsq.phase = some .cool) :
    (s.wsq.expired = false → resumeAbort a s = s) ∧ (s.wsq.expired = true → resumeAbort a s = endCool s) := by
  have takes : resumePhase s = if s.wsq.expired then endCool s else s := by simp only [resumePhase, phase]
  rw [resumeAbort_runOn on', takes]
  exact ⟨fun running => if_neg (by rw [running]; decide), fun expired => if_pos expired⟩

end

end

/-- What is taken up leaves the stop state, the trimmer's marker and the station. -/
theorem resumeAbort_station (aborts : s.wsq.abort.isSome = true) (runs : s.stl.stop = .run) (stopped : s.tru.stopped = false)
    (welding : s.wsq.station = .welding) :
    (resumeAbort a s).stl.stop = .run ∧ (resumeAbort a s).tru.stopped = false ∧ (resumeAbort a s).wsq.station = .welding ∧
      sameBase s (resumeAbort a s) := by
  by_cases bars : a.step = .runOn ∧ s.wsq.phase = some .upset ∧ s.wsq.barred = true
  · obtain ⟨on', upsets, barred⟩ := bars
    obtain ⟨station, -⟩ := endUpset_barred s.pcu.plausPosition s.pcu.highForce aborts upsets barred
    obtain ⟨-, -, -, -, -, -, -, -, window, -, -, base⟩ :=
      endUpset_written (s := s) s.pcu.plausPosition s.pcu.highForce upsets
    rw [resumeAbort_endsUpset on' upsets barred]
    refine ⟨by simpa using runs, ?_, station.trans welding, base⟩
    rw [window]
    (repeat' split) <;> exact stopped
  · have goes : WeldGoesOn s (resumeAbort a s) := by
      refine resumeAbort_goesOn aborts ?_
      refine Classical.byContradiction fun none_of => ?_
      simp only [not_or, Classical.not_not, Bool.not_eq_false] at none_of
      exact bars none_of
    exact ⟨by rw [goes.stl]; exact runs, by rw [goes.tru]; exact stopped, goes.station.trans welding, goes.base⟩

/-! ### CLEAR in a held weld -/

/-- The weld that CLEAR takes up. -/
theorem clear_weld (now : takesOrdersNow s) (ok : clearAccepted s = true) (held : s.motionHeld = true)
    (phase : s.wsq.phase = some p) :
    ∃ w i r, r.stopped = false ∧
      ((r.state = .advancing ∨ r.state = .atEnd ∨ r.state = .returning) ↔
        (s.tru.state = .advancing ∨ s.tru.state = .atEnd ∨ s.tru.state = .returning)) ∧
      ∀ y, resumeWeld (s.atClear w i r).weldReleased = y → y.wsq.station ≠ .loading →
        ∃ x q l, exec (.clear src tag) s = .next { y with lkc.wait := x, lkc.queue := q, lkc.waiters := l } ∧
          q ++ l = outgoing y ++ s.stopFrames y ++ [answerFrame src 17 tag 0 .none [] .answer] := by
  obtain ⟨w, i, r, stopped, stroke, returns⟩ := clear_completes (src := src) (tag := tag) now ok held
  refine ⟨w, i, r, stopped, stroke, fun y resumed loaded => ?_⟩
  exact returns y ((returnFromHold_weld (s := s.atClear w i r) phase).trans resumed) loaded

theorem weldReleased_free (s : State) : s.weldReleased.motionHeld = false := rfl

end

end Sys2Proof.Machine

/-! CLEAR ends a hold, as a whole (O26). -/

namespace Sys2Proof.Machine

/-- Settles O26. -/
theorem clearEndsTheHold : Obligations.ClearEndsTheHold := by
  intro src tag s now answer cleared run held noWeld
  have motion (h : held) : s.motionHeld = true := by
    simpa [State.motionHeld] using h.2
  have last {q l frames : List TxFrame} (joined : q ++ l = frames ++ [answer]) : answer ∈ q ++ l := by
    rw [joined]
    exact List.mem_append_right _ (List.mem_singleton_self _)
  have ⟨awake, configured, not_dormant, not_waking, free, none_held, running⟩ := now
  refine ⟨fun refused => ?_, clearAccepted_iff s, fun h rest => ?_, fun st h back clamp moves => ?_,
    fun p e h phase before ending => ?_, fun p a h phase before unended abort => ?_, fun h phase => ?_, fun l h clamp back => ?_⟩
  case refine_1 =>
    obtain ⟨w, i, ran⟩ := exec_order_now (src := src) (b := .clear tag) now rfl
    have refuses : handleClear src tag (s.forOrder w i) = refuse src 17 tag .wrongState (s.forOrder w i) :=
      if_neg (by rw [show clearAccepted (s.forOrder w i) = clearAccepted s from rfl, refused]; decide)
    exact answered_now ran refuses
  case refine_2 =>
    obtain ⟨w, i, r, stopped, -, returns⟩ := clear_completes (src := src) (tag := tag) now h.1.1 (motion h.1)
    have returned : returnFromHold (s.atClear w i r) = setStation s.restStation (s.atClear w i r).released :=
      returnFromHold_rest h.2 rest
    have left := setStation_atClear (s := s) (w := w) (i := i) (r := r) s.restStation h.2
    generalize setStation s.restStation (s.atClear w i r).released = y at returned left
    obtain ⟨station, back, unwelding, aborting, stl, tru, base, orq, sht, wrs, cdr, flash, lkc⟩ := left
    have loaded : y.wsq.station ≠ .loading := by
      rw [station, State.restStation]
      (repeat' split) <;> decide
    obtain ⟨x, q, l, ran, joined⟩ := returns y returned loaded
    refine ⟨_, ran, ⟨⟨by rw [stl], by rw [tru]; exact stopped, last joined, base⟩, stl⟩, back, station, ?_, ?_, orq, sht, wrs,
      cdr, flash⟩
    · exact joined.trans (congrArg (· ++ [answer]) (clear_frames lkc stl unwelding aborting))
    · simp [sameLink, lkc]
  case refine_3 =>
    obtain ⟨w, i, r, stopped, -, returns⟩ := clear_completes (src := src) (tag := tag) now h.1.1 (motion h.1)
    have reverses := returnFromHold_reverses (s := s.atClear w i r) back h.2 moves clamp
    have settles := returnFromHold_settles (s := s.atClear w i r) back h.2 moves clamp
    have returned := returnFromHold_clamp (s := s.atClear w i r) h.2 back
    have kept : (returnFromHold (s.atClear w i r)).stl = { s.stl with stop := .run } ∧
        (returnFromHold (s.atClear w i r)).tru = r ∧ sameBase s (returnFromHold (s.atClear w i r)) ∧
        (returnFromHold (s.atClear w i r)).cdr = s.cdr ∧ (returnFromHold (s.atClear w i r)).sht = s.sht ∧
        (returnFromHold (s.atClear w i r)).wrs = s.wrs ∧ (returnFromHold (s.atClear w i r)).flash = s.flash ∧
        (returnFromHold (s.atClear w i r)).orq = s.orq := by
      rw [returned]
      simp [State.released, State.atClear, State.forOrder, sameBase]
    have loaded : (returnFromHold (s.atClear w i r)).wsq.station ≠ .loading := by
      cases marked : s.pcu.stopped with
      | true =>
        rw [(reverses marked).2]
        (repeat' split) <;> decide
      | false =>
        obtain ⟨high, low⟩ := settles marked
        rcases Nat.lt_or_ge s.pcu.pressure s.loc.clampRelKn with less | reached
        · rw [(low less).2.2]; decide
        · rw [(high reached).2]; decide
    obtain ⟨x, q, l, ran, joined⟩ := returns _ rfl loaded
    obtain ⟨stl, tru, base, cdr, sht, wrs, flash, orq⟩ := kept
    exact ⟨_, ran, ⟨⟨by rw [stl], by rw [tru]; exact stopped, last joined, base⟩, stl⟩, cdr, sht, wrs, flash, orq,
      fun marked => reverses marked, fun unmarked => settles unmarked⟩
  case refine_4 =>
    obtain ⟨w, i, r, stopped, -, returns⟩ := clear_weld (src := src) (tag := tag) now h.1 (motion h) phase
    have resumes := resumeWeld_ending (s := (s.atClear w i r).weldReleased) phase before ending
    by_cases over' : p = .check ∨ s.wsq.barred = true
    · have ends : resumeEnding e (s.atClear w i r).weldReleased =
          endWeld .notStarted e.reason none (s.atClear w i r).weldReleased :=
        if_pos (over'.imp (fun check => by rw [← check]; exact phase) id)
      obtain ⟨station, unwelding, -⟩ := endWeld_written (weldReleased_free (s.atClear w i r)) .notStarted e.reason none
      obtain ⟨x, q, l, ran, joined⟩ := returns _ (resumes.trans ends) (by rw [station]; decide)
      refine ⟨_, ran, ⟨⟨?_, ?_, last joined, ?_⟩, ?_⟩, ?_, ?_, fun _ => ⟨unwelding, endWeld_ending .., station, fun o runs => ?_⟩,
        fun unchecked unbarred => ?_⟩
      · simp [State.weldReleased, State.released, State.atClear]
      · simpa [State.weldReleased, State.released, State.atClear] using stopped
      · simp [State.weldReleased, State.released, State.atClear, State.forOrder, sameBase]
      · simp [State.weldReleased, State.released, State.atClear]
      · simp [State.weldReleased, State.released, State.atClear, State.forOrder]
      · simp [State.weldReleased, State.released, State.atClear, State.forOrder]
      · show _ ∈ q ++ l
        rw [joined, outgoing_endWeld _ _ _ _ o (by exact runs)]
        simp [doneNotice]
      · rcases over' with check | barred
        · exact absurd check unchecked
        · rw [unbarred] at barred
          cases barred
    · have begins : resumeEnding e (s.atClear w i r).weldReleased = beginEnding e.reason (s.atClear w i r).weldReleased := by
        refine if_neg fun h => over' (h.imp (fun check => ?_) id)
        exact Option.some.inj (phase.symm.trans check)
      have explicit := begins.trans (beginEnding_eq (s := (s.atClear w i r).weldReleased) rfl e.reason)
      obtain ⟨x, q, l, ran, joined⟩ := returns _ (resumes.trans explicit) (show StationState.welding ≠ .loading by decide)
      exact ⟨_, ran, ⟨⟨rfl, stopped, last joined, ⟨rfl, rfl, rfl, rfl, rfl⟩⟩, rfl⟩, rfl, rfl, fun ended => absurd ended over',
        fun _ _ => ⟨phase, rfl, rfl, rfl, rfl⟩⟩
  case refine_5 =>
    obtain ⟨w, i, r, stopped, stroke, returns⟩ := clear_weld (src := src) (tag := tag) now h.1 (motion h) phase
    have resumes := resumeWeld_abort (s := (s.atClear w i r).weldReleased) phase before unended abort
    obtain ⟨stop, marker, station, base⟩ := resumeAbort_station (s := (s.atClear w i r).weldReleased) (a := a)
      (by show s.wsq.abort.isSome = true; rw [abort]; rfl) rfl stopped rfl
    obtain ⟨x, q, l, ran, joined⟩ := returns _ resumes (by rw [station]; decide)
    refine ⟨_, ran, ⟨stop, marker, last joined, base⟩, station, fun goes => ?_, fun step unbarred => ?_,
      fun target step unbarred => ?_, fun step barred => ?_, fun on' upsets unbarred => ?_,
      fun start on' upsets barred started => ?_, fun on' holds => ?_, fun on' trims lasts => ?_, fun on' cools => ?_⟩
    · refine (resumeAbort_goesOn (s := (s.atClear w i r).weldReleased) (a := a) ?_ ?_).stl
      · show s.wsq.abort.isSome = true
        rw [abort]
        rfl
      · refine goes.imp_right (Or.imp_left fun other => ?_)
        show s.wsq.phase ≠ some .upset
        rw [phase]
        exact fun same => other (Option.some.inj same)
    · obtain ⟨phase', mode, step'⟩ := resumeAbort_retracts (s := (s.atClear w i r).weldReleased) rfl rfl abort step unbarred
      exact ⟨phase'.trans phase, mode, step'⟩
    · obtain ⟨phase', mode, step'⟩ := resumeAbort_positions (s := (s.atClear w i r).weldReleased) rfl abort step unbarred
      exact ⟨phase'.trans phase, mode, step'⟩
    · exact resumeAbort_unmade (s := (s.atClear w i r).weldReleased) rfl step barred
    · subst upsets
      exact resumeAbort_upset (s := (s.atClear w i r).weldReleased) rfl on' phase unbarred
    · subst upsets
      have ends := resumeAbort_endsUpset (s := (s.atClear w i r).weldReleased) on' phase barred
      obtain ⟨hold, distance, peak, -⟩ := endUpset_written (s := (s.atClear w i r).weldReleased)
        s.pcu.plausPosition s.pcu.highForce phase
      obtain ⟨-, mode⟩ := endUpset_barred (s := (s.atClear w i r).weldReleased) s.pcu.plausPosition s.pcu.highForce
        (by show s.wsq.abort.isSome = true; rw [abort]; rfl) phase barred
      have from_start : (s.atClear w i r).weldReleased.wsq.upsetStart = some start := started
      rw [from_start] at distance
      rw [ends]
      exact ⟨hold, distance, peak, mode⟩
    · subst holds
      obtain ⟨runs, expires⟩ := resumeAbort_hold (s := (s.atClear w i r).weldReleased) abort on' phase
      refine ⟨fun running => ?_, expires⟩
      rw [runs running]
      exact ⟨phase, rfl⟩
    · subst trims
      have taken := resumeAbort_trim (s := (s.atClear w i r).weldReleased) on' phase lasts
      exact taken.trans (congrArg some (ite_congr (propext stroke) (fun _ => rfl) fun _ => rfl))
    · subst cools
      obtain ⟨runs, expires⟩ := resumeAbort_cool (s := (s.atClear w i r).weldReleased) on' phase
      refine ⟨fun running => ?_, fun expired => ?_⟩
      · rw [runs running]
        exact ⟨phase, rfl⟩
      · rw [expires expired]
        exact endCool_closes (s.atClear w i r).weldReleased
  case refine_6 =>
    obtain ⟨w, i, r, stopped, -, returns⟩ := clear_weld (src := src) (tag := tag) now h.1 (motion h) phase
    obtain ⟨x, q, l, ran, joined⟩ := returns _ (resumeWeld_closing (s := (s.atClear w i r).weldReleased) phase)
      (show StationState.welding ≠ .loading by decide)
    exact ⟨_, ran, ⟨⟨rfl, stopped, last joined, ⟨rfl, rfl, rfl, rfl, rfl⟩⟩, rfl⟩, rfl, rfl, rfl, rfl, rfl⟩
  case refine_7 =>
    obtain ⟨w, i, r, stopped, -, returns⟩ := clear_returns (src := src) (tag := tag) (s := { s with orq.heldList := l })
      ⟨awake, configured, not_dormant, not_waking, free, rfl, running⟩ h.1.1 (motion h.1)
    have idle : State.restStation (State.atClear w i r { s with orq.heldList := l }) = .idle := by
      have opened : ¬s.pcu.clamp = some .closed := by rw [clamp]; nofun
      exact (if_neg back).trans (if_neg opened)
    have returned := returnFromHold_rest (s := State.atClear w i r { s with orq.heldList := l }) h.2 (.inl clamp)
    rw [idle, setStation_eq (.inr (by decide))] at returned
    obtain ⟨x, q, k, ran, joined⟩ := returns _ returned (show StationState.idle ≠ .loading by decide)
    refine ⟨_, ran.trans (congrArg _ (if_pos rfl)), ⟨⟨rfl, stopped, last joined, ⟨rfl, rfl, rfl, rfl, rfl⟩⟩, rfl⟩, rfl, rfl, ?_,
      rfl, rfl, rfl, rfl, rfl, rfl, rfl⟩
    refine joined.trans (congrArg (· ++ [answer]) ?_)
    exact clear_frames (s := { s with orq.heldList := l }) (w := w) rfl rfl h.2 rfl

end Sys2Proof.Machine
